-- ==== Sys2Proof/Word.lean ====
section
/-! DEFINITION. The plain words of the JZ48: bytes, Ethernet addresses, route times, and the widths of
its wrapping counters (00_scope.md, "Counters and identifiers"; R23). -/

namespace Sys2Proof

/-- One byte of a frame. -/
abbrev Byte := BitVec 8

/-- A 48-bit Ethernet address (R185). -/
abbrev Addr := BitVec 48

/-- Route time: a 64-bit count of microseconds since the last cold reset (R23). -/
abbrev Time := BitVec 64

/-- A number that wraps at 65,536: incarnation, zone generation, switch number, probe number, tag. -/
abbrev Num16 := BitVec 16

/-- A number that wraps at 2³²: bearer ID, sequence number, epoch number, period, drop counters. -/
abbrev Num32 := BitVec 32

/-- A 64-bit total of bytes, frames or charge units. -/
abbrev Total64 := BitVec 64

/-- A context index, 0 to 4,095 (R26). -/
abbrev CtxIx := Fin 4096

/-- A zone index, 0 to 63 (R53). -/
abbrev ZoneIx := Fin 64

/-- A link index, 0 to 7 (R117). -/
abbrev LinkIx := Fin 8

/-- A radio unit index, 0 to 15 (R166). -/
abbrev RuIx := Fin 16

/-- A realm, 0 to 15 (R67). -/
abbrev Realm := Fin 16

/-- A tariff plan, 0 to 3 (R26). -/
abbrev Plan := Fin 4

/-- A floor, 0 to 7, or a class, 0 to 7 with 0 standing only in a FREE context (R11, R26). -/
abbrev Floor := Fin 8

/-- A link multiplier, 0 to 1,023 in steps of 1/256 (R117). -/
abbrev Multiplier := Fin 1024

end Sys2Proof
end

