-- ==== Sys2Proof/Syntax.lean ====
section
/-! DEFINITION. The commands of the JZ48: one constructor of `Instr` for each row of opcode_table.json,
with the operands its rule gives it. A request carries its arguments at the natural sizes of R186, so that
a value outside its list or range can be written down and is refused by the command's own checks. -/

namespace Sys2Proof

/-- One of the eight Ethernet ports: C0 to C3 or S0 to S3 (R1). -/
inductive Port where
  | cell (i : Fin 4)
  | shore (i : Fin 4)
  deriving DecidableEq, Repr

/-- The two kinds of bearer frame (R3). -/
inductive BearerKind where
  | bearer
  | signal
  deriving DecidableEq, Repr

/-- A BEARER or SIGNAL frame behind its JZ header: bearer ID and payload (R185). -/
structure BearerFrame where
  kind : BearerKind
  bearerId : Num32
  payload : List Byte
  deriving DecidableEq, Repr

/-- One argument or result item of a request or response: identifier and value (R186). -/
structure Item where
  id : Byte
  value : List Byte
  deriving DecidableEq, Repr

/-- What every request brings: its arrival port, its source address, its tag (R173), and whether its
items are of the number and size the command takes (check 4 of R173, R186). -/
structure Request where
  port : Port
  src : Addr
  tag : Num16
  itemsOk : Bool
  deriving DecidableEq, Repr

/-- Index and incarnation, by which a request names a context (R29). -/
structure CtxName where
  index : Num16
  incarnation : Num16
  deriving DecidableEq, Repr

/-- The arguments of Create Context (section 2.3). The last three are read for PREPAID only. -/
structure CreateArgs where
  bearerId : Num32
  cls : Byte
  plan : Byte
  homeRealm : Byte
  roamSet : List Byte
  account : Byte
  servingRu : Byte
  allowance : Num32
  balance : BitVec 64
  lowThreshold : BitVec 64
  limitMode : Byte
  deriving DecidableEq, Repr

/-- The six optional values of Modify Context (section 2.4). -/
structure ModifyArgs where
  cls : Option Byte
  plan : Option Byte
  homeRealm : Option Byte
  roamSet : Option (List Byte)
  lowThreshold : Option (BitVec 64)
  limitMode : Option Byte
  deriving DecidableEq, Repr

/-- The arguments of Position Report (section 3.2). -/
structure PositionArgs where
  a : BitVec 32
  x : BitVec 16
  quality : Byte
  fixTime : Time
  deriving DecidableEq, Repr

/-- The arguments of Write Zone: an index and every field of a descriptor (R59, R53). -/
structure ZoneArgs where
  index : Byte
  present : Byte
  start : BitVec 32
  length : BitVec 32
  crossLimit : BitVec 16
  kind : Byte
  realm : Byte
  permit : Byte
  entryKind : Byte
  admission : Byte
  rates : Vector (BitVec 16) 4
  linkMask : List Byte
  deriving DecidableEq, Repr

/-- The arguments of Arm Waypoint (R62). -/
structure WaypointArgs where
  comparator : Byte
  value : BitVec 32
  direction : Byte
  action : Byte
  deriving DecidableEq, Repr

/-- The arguments of Write Link: an index and every configuration field of R117. -/
structure LinkArgs where
  index : Byte
  enabled : Byte
  shorePort : Byte
  kind : Byte
  anchorId : Num16
  anchorAddr : Addr
  multiplier : BitVec 16
  upFloor : Byte
  impairedFloor : Byte
  probeInterval : BitVec 32
  upCount : Byte
  downCount : Byte
  impairLoss : Byte
  recoverLoss : Byte
  rttLimit : BitVec 32
  rttRecover : BitVec 32
  startSeq : Num32
  deriving DecidableEq, Repr

/-- The arguments of Write Radio Unit (R167). -/
structure RuArgs where
  index : Byte
  configured : Byte
  cellPort : Byte
  addr : Addr
  deriving DecidableEq, Repr

/-- A port code and an address, as the notice destination and the collector are given (R186). -/
structure DestArg where
  port : Byte
  addr : Addr
  deriving DecidableEq, Repr

/-- A selector and a value, as the access levels and the event levels are given (R186). -/
structure PairArg where
  selector : Byte
  value : Byte
  deriving DecidableEq, Repr

/-- The arguments of Configure, each optional (R175). A destination given as `some none` is set to
none. The pairs stand in the order of their items. -/
structure ConfigureArgs where
  epochLength : Option (BitVec 32)
  frameType : Option (BitVec 16)
  noticeDest : Option (Option DestArg)
  collector : Option (Option DestArg)
  access : List PairArg
  staleTimeout : Option (BitVec 32)
  lostTimeout : Option (BitVec 32)
  ruTimeout : Option (BitVec 32)
  heartbeatInterval : Option (BitVec 32)
  graceTime : Option (BitVec 32)
  holdAge : Option (BitVec 32)
  maxStep : Option (BitVec 16)
  confirmCount : Option Byte
  limitedFloor : Option Byte
  noticeFloor : Option Byte
  eventLevels : List PairArg
  deriving DecidableEq, Repr

/-- What brings a cold reset: power-on, the release of the reset input, or a pending Reset COLD (R183). -/
inductive ColdCause where
  | powerOn
  | inputReleased
  | pendingReset
  deriving DecidableEq, Repr

/-- The commands: the rows of opcode_table.json in the table's order. -/
inductive Instr where
  | badFrame (port : Port) (bytes : List Byte)
  | bearerUplinkIntake (port : Fin 4) (src : Addr) (frame : BearerFrame)
  | linkFrameIntake (port : Fin 4) (src : Addr) (anchorId : Num16) (sequence : Num32) (inner : BearerFrame)
  | echo (port : Fin 4) (src : Addr) (anchorId : Num16) (sequence : Num32) (probeNumber : Num16) (sendTime : Time)
  | radioStatus (port : Fin 4) (src : Addr) (attached : BitVec 16)
  | badCommand (rq : Request) (code : Byte) (items : List Item)
  | readStatus (rq : Request)
  | readContext (rq : Request) (index : Num16)
  | findContext (rq : Request) (bearerId : Num32)
  | readZone (rq : Request) (index : Byte)
  | readLink (rq : Request) (index : Byte)
  | readRadioUnit (rq : Request) (index : Byte)
  | readEvents (rq : Request)
  | readCounters (rq : Request)
  | createContext (rq : Request) (args : CreateArgs)
  | modifyContext (rq : Request) (name : CtxName) (args : ModifyArgs)
  | suspendContext (rq : Request) (name : CtxName)
  | resumeContext (rq : Request) (name : CtxName)
  | topUp (rq : Request) (name : CtxName) (money : BitVec 64) (allowance : BitVec 32)
  | releaseContext (rq : Request) (name : CtxName)
  | closePeriod (rq : Request)
  | positionReport (rq : Request) (args : PositionArgs)
  | writeZone (rq : Request) (args : ZoneArgs)
  | reloadZone (rq : Request)
  | armWaypoint (rq : Request) (args : WaypointArgs)
  | disarmWaypoint (rq : Request) (comparator : Byte)
  | writeLink (rq : Request) (args : LinkArgs)
  | stageLink (rq : Request) (link : Byte) (trigger : Byte)
  | cancelStage (rq : Request)
  | setFailoverOrder (rq : Request) (order : List Byte)
  | writeRadioUnit (rq : Request) (args : RuArgs)
  | setFloor (rq : Request) (floor : Byte)
  | openAttach (rq : Request)
  | configure (rq : Request) (args : ConfigureArgs)
  | clearEvents (rq : Request) (kinds : List Byte)
  | resetWarm (rq : Request)
  | resetCold (rq : Request)
  | coldReset (cause : ColdCause)
  | epochBoundary
  | staleDeadline
  | lostDeadline
  | probeTime (link : LinkIx)
  | graceExpiry
  | heartbeatTime
  | livenessDeadline (ru : RuIx)
  | shoreCarrierDown (port : Fin 4)
  | shoreCarrierUp (port : Fin 4)
  | cellCarrierChange (port : Fin 4) (up : Bool)
  | entrySelection (port : Port)
  | transmissionCompletion (port : Port)
  | usageFrameBuild
  | holdDrainMove
  | sweepVisit
  | periodSummary
  | endMarker (link : LinkIx)
  | resetInputAsserted
  deriving DecidableEq, Repr

end Sys2Proof
end

