-- ==== Sys2Proof/Decode.lean ====
section
/-! DEFINITION. The command a word spells by the bits of opcode_table.json. The table gives no row any
bits (every row's "fields" is empty), so no word spells a command. What the spec does encode in bytes, the
frames of chapter 11, is read by Machine/Intake.lean and Machine/Requests.lean. -/

namespace Sys2Proof

/-- No row of the table has bits: every word is answered none (log entry 2). -/
def decodeTableWord (_nbits _w : Nat) : Option Instr := none

end Sys2Proof
end

