-- ==== Sys2Proof/Config.lean ====
section
/-! DEFINITION. What one part fixes and the spec does not: the station addresses, and the free values of
the model. A free value is a constant without a body, so no proof can lean on what it is. -/

namespace Sys2Proof.Config

/-- The station address of C0, "fixed in the part at manufacture" (R185); the other seven follow it. -/
opaque stationBase : Addr

/-- FREE VALUE (log entry 3). What a 64-bit total or time holds when a sum leaves its range: the spec
gives no end of range for 64-bit totals (00_scope.md, "Counters and identifiers"). -/
opaque sumBeyond64 : BitVec 64 → BitVec 64 → BitVec 64

/-- FREE VALUE (log entry 3). The record count of a period accumulator after its 2³²-th record: R112
gives the width and no end of range. -/
opaque countBeyond32 : BitVec 32

end Sys2Proof.Config
end

