-- ==== Sys2Proof/Machine/State.lean ====
section
/-! DEFINITION. The state of the JZ48, block by block (00_scope.md, "Block overview"), as plain data, and
its value after a cold reset. Every field's docstring names the rule that gives the field. -/

namespace Sys2Proof.Machine

/-! ## Names -/

/-- Direction of a frame (R2). -/
inductive Dir where
  | uplink
  | downlink
  deriving DecidableEq, Repr

/-- Access level of a port, in rising order (R174). -/
inductive Access where
  | none
  | read
  | account
  | control
  deriving DecidableEq, Repr

/-- State of a context (R27). -/
inductive CtxState where
  | free
  | active
  | suspended
  | closing
  deriving DecidableEq, Repr

/-- How charges are settled (R26). -/
inductive Account where
  | prepaid
  | postpaid
  deriving DecidableEq, Repr

/-- How the last charge is taken (R26, R87). -/
inductive LimitMode where
  | stopBefore
  | stopAfter
  deriving DecidableEq, Repr

/-- Position state (R45). The order is that of R45's list. -/
inductive PosState where
  | lost
  | fresh
  | stale
  deriving DecidableEq, Repr

/-- Fix quality (R45). -/
inductive Quality where
  | none
  | coarse
  | fine
  deriving DecidableEq, Repr

/-- Kind of a zone (R53). -/
inductive ZoneKind where
  | harbour
  | territorial
  | international
  deriving DecidableEq, Repr

/-- Coverage permit of a zone (R53). -/
inductive Permit where
  | serve
  | limited
  | silent
  deriving DecidableEq, Repr

/-- Entry kind of a zone (R53). -/
inductive EntryKind where
  | open
  | guarded
  deriving DecidableEq, Repr

/-- The attach gate (R73). -/
inductive Gate where
  | open
  | closed
  deriving DecidableEq, Repr

/-- Direction of a waypoint (R62). -/
inductive Heading where
  | increasing
  | decreasing
  deriving DecidableEq, Repr

/-- Action of a waypoint (R62). -/
inductive WaypointAction where
  | notify
  | commit
  deriving DecidableEq, Repr

/-- The two waypoint comparators (R62). -/
inductive WaypointId where
  | w0
  | w1
  deriving DecidableEq, Repr

/-- Kind of a link (R117). -/
inductive LinkKind where
  | microwave
  | shoreCell
  | satellite
  deriving DecidableEq, Repr

/-- Health state of a link (R118, R128). -/
inductive Health where
  | off
  | down
  | trial
  | up
  | impaired
  deriving DecidableEq, Repr

/-- Outcome of a probe (R126). -/
inductive ProbeOutcome where
  | success
  | loss
  deriving DecidableEq, Repr

/-- The two slots of the selector (R137). -/
inductive Slot where
  | a
  | b
  deriving DecidableEq, Repr

/-- Trigger of a stage (R137). -/
inductive Trigger where
  | now
  | epoch
  | waypoint
  deriving DecidableEq, Repr

/-- Condition of a pending stage (R137). -/
inductive StageCondition where
  | untriggered
  | waiting
  deriving DecidableEq, Repr

/-- Cause of a switch (R138). -/
inductive SwitchCause where
  | staged
  | failover
  | zone
  | recovery
  deriving DecidableEq, Repr

/-- Service level (R161). -/
inductive ServiceLevel where
  | full
  | limited
  | silent
  deriving DecidableEq, Repr

/-- State of a radio unit entry (R166). -/
inductive RuState where
  | unused
  | alive
  | lost
  deriving DecidableEq, Repr

/-- Kind of a usage record (R187). -/
inductive RecordKind where
  | interval
  | final
  | periodSummary
  deriving DecidableEq, Repr

/-- State of the sweep (R109). -/
inductive SweepState where
  | idle
  | visiting
  | paused
  | summaryWait
  deriving DecidableEq, Repr

/-- Kind of a bearer notice (R42), with the detail each carries. -/
inductive BearerNotice where
  | barred (realm : Realm) (generation : Num16)
  | suspended
  | resumed
  | released
  | exhausted (balance : Int)
  | lowBalance (balance : Int)
  deriving DecidableEq, Repr

/-- The sixteen event kinds, in the order of the event table (R178). -/
inductive EventKind where
  | linkDown
  | linkState
  | switchDone
  | blackout
  | serviceLevel
  | zoneChange
  | zoneFault
  | positionStale
  | positionLost
  | waypoint
  | quotaLow
  | quotaExhausted
  | recordBacklog
  | ruLost
  | holdOverflow
  | periodClosed
  deriving DecidableEq, Repr

/-- Place of a kind in the event table (R178). -/
def EventKind.ix : EventKind → Fin 16
  | .linkDown => 0
  | .linkState => 1
  | .switchDone => 2
  | .blackout => 3
  | .serviceLevel => 4
  | .zoneChange => 5
  | .zoneFault => 6
  | .positionStale => 7
  | .positionLost => 8
  | .waypoint => 9
  | .quotaLow => 10
  | .quotaExhausted => 11
  | .recordBacklog => 12
  | .ruLost => 13
  | .holdOverflow => 14
  | .periodClosed => 15

/-- The detail of a raising, as the event table gives it for each kind (R178). -/
inductive Detail where
  | link (k : LinkIx)
  | linkState (k : LinkIx) (h : Health)
  | switch (old new : Option LinkIx) (cause : SwitchCause)
  | level (l : ServiceLevel)
  | zone (d : ZoneIx) (generation : Num16)
  | zoneIndex (d : ZoneIx)
  | waypoint (w : WaypointId)
  | context (i : CtxIx)
  | ru (r : RuIx)
  | period (p : Num32)
  deriving DecidableEq, Repr

/-- The drop reasons, in the order of the table of R21. -/
inductive DropReason where
  | badFrame
  | unknownRu
  | linkUnknown
  | noContext
  | notActive
  | roamBarred
  | exhausted
  | silent
  | floor
  | ruLost
  | egressFull
  | holdFull
  | holdAged
  | staleContext
  | quota
  | backlog
  deriving DecidableEq, Repr

/-- Place of a reason in the table of R21. -/
def DropReason.ix : DropReason → Fin 16
  | .badFrame => 0
  | .unknownRu => 1
  | .linkUnknown => 2
  | .noContext => 3
  | .notActive => 4
  | .roamBarred => 5
  | .exhausted => 6
  | .silent => 7
  | .floor => 8
  | .ruLost => 9
  | .egressFull => 10
  | .holdFull => 11
  | .holdAged => 12
  | .staleContext => 13
  | .quota => 14
  | .backlog => 15

/-- Status codes of responses, in the order of the status table of chapter 10. -/
inductive Status where
  | ok
  | busy
  | denied
  | badCommand
  | badArgument
  | notFound
  | duplicate
  | tableFull
  | wrongState
  | attachClosed
  | backlog
  | notPresent
  | overLimit
  deriving DecidableEq, Repr

/-- Place of a port among the eight: C0 to C3, then S0 to S3 (R186). -/
def portIx : Port → Fin 8
  | .cell i => ⟨i.val, by omega⟩
  | .shore i => ⟨i.val + 4, by omega⟩

/-! ## Usage records -/

/-- An interval of one context's metered traffic (R97). -/
structure Interval where
  period : Num32
  zoneIx : ZoneIx
  zoneGen : Num16
  realm : Realm
  plan : Plan
  start : Time
  last : Time
  up : Total64
  down : Total64
  free : Total64
  frames : Total64
  charge : Total64
  deriving DecidableEq, Repr

/-- A usage record without its number, as an awaiting slot holds it (R97, R100). -/
structure Record where
  kind : RecordKind
  plan : Plan
  zoneIx : ZoneIx
  realm : Realm
  period : Num32
  ctx : CtxIx
  incarnation : Num16
  bearerId : Num32
  zoneGen : Num16
  start : Time
  stop : Time
  up : Total64
  down : Total64
  free : Total64
  frames : Total64
  charge : Total64
  balanceAfter : Int
  remainder : Nat
  deriving DecidableEq, Repr

/-- A record in the URQ: it has its record number (R103). -/
structure UrqRecord where
  body : Record
  number : Num32
  deriving DecidableEq, Repr

/-- A period accumulator (R112). -/
structure Acc where
  period : Num32
  count : Num32
  charge : Total64
  deriving DecidableEq, Repr

/-! ## CXT -/

/-- A context record (R26). -/
structure Context where
  state : CtxState
  incarnation : Num16
  bearerId : Num32
  cls : Floor
  plan : Plan
  homeRealm : Realm
  /-- ascending, without repeats -/
  roamSet : List Realm
  account : Account
  balance : Int
  lowThreshold : Nat
  limitMode : LimitMode
  exhausted : Bool
  low : Bool
  allowance : Nat
  remainder : Nat
  servingRu : RuIx
  notifiedGen : Num16
  openIv : Option Interval
  awaiting : Option Record
  deriving DecidableEq, Repr

/-- A FREE record of a given incarnation: every other field zero, clear, the first of its list, or absent
(R26, R40). -/
def Context.freeAt (incarnation : Num16) : Context where
  state := .free
  incarnation := incarnation
  bearerId := 0
  cls := 0
  plan := 0
  homeRealm := 0
  roamSet := []
  account := .prepaid
  balance := 0
  lowThreshold := 0
  limitMode := .stopBefore
  exhausted := false
  low := false
  allowance := 0
  remainder := 0
  servingRu := 0
  notifiedGen := 0
  openIv := none
  awaiting := none

/-! ## Frames and egress queues -/

/-- A user entry as TC builds it at admission (R10), and as the hold queue holds it (R154). Its
direction, link label and captured multiplier are in the egress entry that carries it. -/
structure UserEntry where
  frame : BearerFrame
  ctx : CtxIx
  incarnation : Num16
  cls : Floor
  intake : Time
  deriving DecidableEq, Repr

/-- The body of a control frame: a frame the part originates (R3, R14). -/
inductive ControlBody where
  /-- PROBE (R123) -/
  | probe (anchorId : Num16) (number : Num16) (sendTime : Time)
  /-- SWITCH marker (R148): the new link's anchor link ID, the switch number, the old link's anchor link
  ID and last sequence number, and whether the switch lost it -/
  | switchMarker (anchorId : Num16) (switchNumber : Num16) (old : Option (Num16 × Num32)) (lost : Bool)
  /-- END marker (R149) of a drain-set member -/
  | endMarker (link : LinkIx) (anchorId : Num16) (switchNumber : Num16) (lastSeq : Num32)
  /-- BACKHAUL_STATUS (R165); no link kind in blackout -/
  | backhaulStatus (level : ServiceLevel) (gate : Gate) (realm : Realm) (floor : Floor)
      (linkKind : Option LinkKind) (generation : Num16) (built : Time)
  /-- BEARER_NOTICE (R42) -/
  | bearerNotice (kind : BearerNotice) (bearerId : Num32) (ctx : CtxIx) (incarnation : Num16)
  /-- RESPONSE (R173); `cold` marks the response to a Reset COLD, whose leaving R182 waits for -/
  | response (tag : Num16) (code : Byte) (status : Status) (results : List Item) (cold : Bool)
  /-- NOTICE (R179) -/
  | notice (kind : EventKind) (level : Floor) (raised : Time) (detail : Option Detail)
  /-- USAGE (R105) -/
  | usage (records : List UrqRecord)
  deriving DecidableEq, Repr

/-- A control frame and the address its owning rule gives it. -/
structure Control where
  dst : Addr
  body : ControlBody
  deriving DecidableEq, Repr

/-- What an egress entry holds (section 1.7): an uplink user entry with its link label, a downlink user
entry with its captured multiplier and the address of the RU it was routed to, or a control entry. -/
inductive EntryBody where
  | up (e : UserEntry) (label : LinkIx)
  | down (e : UserEntry) (captured : Multiplier) (dst : Addr)
  | control (c : Control)
  deriving DecidableEq, Repr

/-- An egress entry with the moment it was placed in its present queue (R14). -/
structure Entry where
  body : EntryBody
  placed : Time
  deriving DecidableEq, Repr

/-- What a frame on the line carries behind its Ethernet header (R18, R134, R185). -/
inductive Carried where
  /-- a downlink BEARER or SIGNAL frame, bare -/
  | bare (e : UserEntry)
  /-- a LINK frame around an uplink bearer frame: anchor link ID and sequence number of its header -/
  | link (anchorId : Num16) (sequence : Num32) (e : UserEntry)
  /-- a control frame -/
  | control (body : ControlBody)
  deriving DecidableEq, Repr

/-- A frame in transmission: what stands on the line of a port (R16 to R18, R185). -/
structure Wire where
  dst : Addr
  src : Addr
  frameType : BitVec 16
  carried : Carried
  deriving DecidableEq, Repr

/-- A port of PI: carrier (R1), the frame in transmission (R16), its egress queue in the order its entries
were placed (R14), and its two counts (R22). -/
structure PortState where
  carrier : Bool
  sending : Option Wire
  queue : List Entry
  received : Num32
  transmitted : Num32
  deriving DecidableEq, Repr

/-! ## TC -/

/-- TC: a drop counter for each reason and direction (R21), and the floor in force (R11). -/
structure Tc where
  drops : Vector Num32 32
  floor : Floor
  deriving DecidableEq, Repr

/-! ## ZU -/

/-- A zone descriptor (R53). -/
structure Zone where
  present : Bool
  start : Nat
  length : Nat
  crossLimit : Nat
  kind : ZoneKind
  realm : Realm
  permit : Permit
  entryKind : EntryKind
  admission : Nat
  rates : Vector (BitVec 16) 4
  /-- ascending, without repeats -/
  linkMask : List LinkIx
  deriving DecidableEq, Repr

/-- The position record (R45). -/
structure Position where
  state : PosState
  a : Nat
  x : Int
  fixTime : Time
  quality : Quality
  stale : Option Time
  lost : Option Time
  rejected : Num32
  deriving DecidableEq, Repr

/-- A waypoint comparator (R62). -/
structure Waypoint where
  value : Nat
  heading : Heading
  action : WaypointAction
  armed : Bool
  deriving DecidableEq, Repr

/-- ZU: position, zone table, zone in force with its index and generation (R57), pending candidate and
count (R56), comparators, attach gate, and the four settings of Configure it owns (R175; timeouts in s). -/
structure Zu where
  pos : Position
  table : Vector Zone 64
  zoneIx : ZoneIx
  zone : Zone
  gen : Num16
  candidate : Option ZoneIx
  count : Nat
  w0 : Waypoint
  w1 : Waypoint
  gate : Gate
  maxStep : Nat
  confirmCount : Nat
  staleTimeout : Nat
  lostTimeout : Nat
  deriving DecidableEq, Repr

/-! ## UR -/

/-- UR: the URQ (R103), the number of its records in the outstanding usage frame (R105), the awaiting list
(R102), the current period (R99), the accumulators (R112), the sweep (R109) and the collector (R107).
The records in frame are the records at the head of the URQ (R103). -/
structure Ur where
  urq : List UrqRecord
  outstanding : Option Nat
  awaiting : List CtxIx
  period : Num32
  accCurrent : Acc
  accOther : Acc
  sweep : SweepState
  position : Nat
  closing : Option Num32
  collector : Option (Port × Addr)
  deriving DecidableEq, Repr

/-! ## LM -/

/-- The configuration of a link (R117). The shore port is S0 to S3; times are in ms and µs as R117 says. -/
structure LinkConfig where
  enabled : Bool
  port : Fin 4
  kind : LinkKind
  anchorId : Num16
  anchorAddr : Addr
  multiplier : Multiplier
  upFloor : Floor
  impairedFloor : Floor
  probeInterval : Nat
  upCount : Nat
  downCount : Nat
  impairLoss : Nat
  recoverLoss : Nat
  rttLimit : Nat
  rttRecover : Nat
  startSeq : Num32
  deriving DecidableEq, Repr

/-- A link record: configuration and dynamic state (R117, R118). -/
structure Link where
  cfg : LinkConfig
  health : Health
  successes : Nat
  losses : Nat
  /-- oldest first -/
  outcomes : List ProbeOutcome
  s8 : Option Nat
  outstanding : Option (Num16 × Time)
  nextProbe : Num16
  probeAt : Option Time
  nextSeq : Num32
  framesSent : Total64
  bytesSent : Total64
  faults : Num32
  lateEchoes : Num32
  deriving DecidableEq, Repr

/-! ## SU -/

/-- A pending stage: trigger and condition (R137). The staged link stands in the staged slot. -/
structure Stage where
  trigger : Trigger
  condition : StageCondition
  deriving DecidableEq, Repr

/-- A member of the drain set (R137). -/
structure Member where
  link : LinkIx
  switchNumber : Num16
  endPlaced : Bool
  deriving DecidableEq, Repr

/-- SU: the selector, the stage, the switch number, the failover order list and the drain set (R137). -/
structure Su where
  slotA : Option LinkIx
  slotB : Option LinkIx
  inForce : Slot
  stage : Option Stage
  switchNumber : Num16
  order : List LinkIx
  drain : List Member
  deriving DecidableEq, Repr

/-! ## CS -/

/-- An entry of the radio unit table (R166). It is configured when its state is not UNUSED. -/
structure RadioUnit where
  port : Fin 4
  addr : Addr
  state : RuState
  lastStatus : Option Time
  deadline : Option Time
  attached : BitVec 16
  heartbeats : Num32
  deriving DecidableEq, Repr

/-- CS: the hold queue (R154), the grace timer (R160), the service level (R161), the two floors (R163),
the next heartbeat time (R165), the radio unit table (R166), and the settings of Configure it owns
(R175; grace time, hold age limit and RU timeout in s, heartbeat interval in ms). -/
structure Cs where
  hold : List UserEntry
  grace : Option Time
  level : ServiceLevel
  limitedFloor : Floor
  hostFloor : Floor
  graceTime : Nat
  holdAge : Nat
  ruTimeout : Nat
  heartbeatInterval : Nat
  nextHeartbeat : Time
  rus : Vector RadioUnit 16
  deriving DecidableEq, Repr

/-! ## ME -/

/-- An entry of the event table (R178). -/
structure EventEntry where
  pending : Bool
  seen : Bool
  level : Floor
  detail : Option Detail
  deriving DecidableEq, Repr

/-- Whether a cold reset is pending (R182), and whether one of the moments that bring it has come. -/
inductive ColdPending where
  | none
  | waiting
  | due
  deriving DecidableEq, Repr

/-- ME: access levels (R174), event table and notice floor (R178, R179), notice destination (R179), JZ
frame type (R4), route clock (R23), epoch number, next boundary and epoch length in ms (R24, R25), and the
pending cold reset (R182). -/
structure Me where
  access : Vector Access 8
  events : Vector EventEntry 16
  noticeFloor : Floor
  noticeDest : Option (Port × Addr)
  frameType : BitVec 16
  clock : Time
  epochNumber : Num32
  nextBoundary : Time
  epochLength : Nat
  coldPending : ColdPending
  deriving DecidableEq, Repr

/-! ## The whole part -/

/-- The state of the part, a field for each block, the reset input (R183), and the commands waiting to be
taken, first in first out. CU keeps no state of its own (chapter 5). -/
structure State where
  ports : Vector PortState 8
  tc : Tc
  contexts : Vector Context 4096
  zu : Zu
  ur : Ur
  links : Vector Link 8
  su : Su
  cs : Cs
  me : Me
  /-- the active-low reset input is held asserted (R183) -/
  resetHeld : Bool
  pending : List Instr
  deriving DecidableEq, Repr

/-- Why a step could stop with a fault. No command of the JZ48 has a fault: the spec gives every command an
effect in every state, so there is no constructor. -/
inductive Fault where
  deriving DecidableEq, Repr

/-- Why a command could be without meaning. -/
inductive Refusal where
  /-- raised by `exec` for a command that has no meaning yet; safe, and no arm answers it -/
  | notModelled (mnemonic : String)
  deriving DecidableEq, Repr

/-! ## Cold-reset values -/

/-- Descriptor 0 after cold reset (R54). -/
def Zone.fallback : Zone where
  present := true
  start := 0
  length := 0
  crossLimit := 0
  kind := .international
  realm := 0
  permit := .limited
  entryKind := .open
  admission := 8
  rates := Vector.replicate 4 0
  linkMask := [0, 1, 2, 3, 4, 5, 6, 7]

/-- Descriptors 1 to 63 after cold reset: absent, with every field 0 (R54). -/
def Zone.absent : Zone where
  present := false
  start := 0
  length := 0
  crossLimit := 0
  kind := .harbour
  realm := 0
  permit := .serve
  entryKind := .open
  admission := 0
  rates := Vector.replicate 4 0
  linkMask := []

/-- A comparator after cold reset (R65). -/
def Waypoint.cold : Waypoint where
  value := 0
  heading := .increasing
  action := .notify
  armed := false

/-- ZU after cold reset (R65). -/
def Zu.cold : Zu where
  pos :=
    { state := .lost, a := 0, x := 0, fixTime := 0, quality := .none, stale := none, lost := none,
      rejected := 0 }
  table := (Vector.replicate 64 Zone.absent).set 0 Zone.fallback
  zoneIx := 0
  zone := Zone.fallback
  gen := 0
  candidate := none
  count := 0
  w0 := Waypoint.cold
  w1 := Waypoint.cold
  gate := .open
  maxStep := 2000
  confirmCount := 3
  staleTimeout := 30
  lostTimeout := 300

/-- UR after cold reset (R115). The unused accumulator's period is not given: 0 (log entry 4). -/
def Ur.cold : Ur where
  urq := []
  outstanding := none
  awaiting := []
  period := 1
  accCurrent := { period := 1, count := 0, charge := 0 }
  accOther := { period := 0, count := 0, charge := 0 }
  sweep := .idle
  position := 0
  closing := none
  collector := none

/-- A link record after cold reset (R135). -/
def Link.cold : Link where
  cfg :=
    { enabled := false, port := 0, kind := .microwave, anchorId := 0, anchorAddr := 0, multiplier := 256,
      upFloor := 0, impairedFloor := 0, probeInterval := 1000, upCount := 3, downCount := 3,
      impairLoss := 4, recoverLoss := 1, rttLimit := 500000, rttRecover := 250000, startSeq := 0 }
  health := .off
  successes := 0
  losses := 0
  outcomes := []
  s8 := none
  outstanding := none
  nextProbe := 0
  probeAt := none
  nextSeq := 0
  framesSent := 0
  bytesSent := 0
  faults := 0
  lateEchoes := 0

/-- SU after cold reset (R153). -/
def Su.cold : Su where
  slotA := none
  slotB := none
  inForce := .a
  stage := none
  switchNumber := 0
  order := []
  drain := []

/-- A radio unit entry after cold reset (R171). -/
def RadioUnit.cold : RadioUnit where
  port := 0
  addr := 0
  state := .unused
  lastStatus := none
  deadline := none
  attached := 0
  heartbeats := 0

/-- CS after cold reset (R171). -/
def Cs.cold : Cs where
  hold := []
  grace := none
  level := .limited
  limitedFloor := 5
  hostFloor := 0
  graceTime := 20
  holdAge := 10
  ruTimeout := 5
  heartbeatInterval := 1000
  nextHeartbeat := 1000000
  rus := Vector.replicate 16 RadioUnit.cold

/-- The cold-reset level of each event kind (R178). -/
def eventLevelCold : EventKind → Floor
  | .linkDown | .blackout | .serviceLevel | .positionLost | .recordBacklog | .holdOverflow => 6
  | .linkState | .switchDone | .zoneChange | .zoneFault | .positionStale | .waypoint | .quotaLow
  | .quotaExhausted | .ruLost | .periodClosed => 4

/-- The sixteen kinds in the order of the event table (R178). -/
def EventKind.all : List EventKind :=
  [.linkDown, .linkState, .switchDone, .blackout, .serviceLevel, .zoneChange, .zoneFault, .positionStale,
   .positionLost, .waypoint, .quotaLow, .quotaExhausted, .recordBacklog, .ruLost, .holdOverflow,
   .periodClosed]

/-- An event entry after cold reset: not pending, not seen, no detail (R183). -/
def EventEntry.cold (level : Floor) : EventEntry :=
  { pending := false, seen := false, level := level, detail := none }

/-- ME after cold reset (R183, R174, R175). -/
def Me.cold : Me where
  access := (Vector.replicate 8 Access.none).set 0 Access.control
  events := ⟨(EventKind.all.map fun k => EventEntry.cold (eventLevelCold k)).toArray, by decide⟩
  noticeFloor := 3
  noticeDest := none
  frameType := 0x88B5
  clock := 0
  epochNumber := 0
  nextBoundary := 100000
  epochLength := 100
  coldPending := .none

/-- A port after cold reset: empty queue, nothing in transmission, counts 0 (R20, R22). The carrier is the
state of the line (R1); UP is the model's choice for the reset state (log entry 4). -/
def PortState.cold : PortState where
  carrier := true
  sending := none
  queue := []
  received := 0
  transmitted := 0

/-- The part right after a cold reset (R183), with no command waiting. -/
def State.reset : State where
  ports := Vector.replicate 8 PortState.cold
  tc := { drops := Vector.replicate 32 0, floor := 5 }
  contexts := Vector.replicate 4096 (Context.freeAt 0)
  zu := Zu.cold
  ur := Ur.cold
  links := Vector.replicate 8 Link.cold
  su := Su.cold
  cs := Cs.cold
  me := Me.cold
  resetHeld := false
  pending := []

end Sys2Proof.Machine
end

