-- ==== Sys2Proof/Machine/Bytes.lean ====
section
/-! DEFINITION. Numbers as bytes, most significant byte first (R185), and result items (R186). -/

namespace Sys2Proof.Machine

/-- The low `n` bytes of `x`, most significant first. -/
def beBytes : (n : Nat) → (x : Nat) → List Byte
  | 0, _ => []
  | n + 1, x => BitVec.ofNat 8 (x / 256 ^ n) :: beBytes n x

/-- The number a list of bytes spells, most significant first. -/
def ofBytes (bs : List Byte) : Nat := bs.foldl (fun a b => a * 256 + b.toNat) 0

/-- A signed 64-bit two's complement value (R185). -/
def beInt64 (x : Int) : List Byte := beBytes 8 (BitVec.ofInt 64 x).toNat

/-- One byte. -/
def byte (x : Nat) : List Byte := beBytes 1 x

/-- Yes and no, coded from 0 in the order "yes, no" in which the rules list them (R186). -/
def yesNo (b : Bool) : List Byte := byte (if b then 0 else 1)

/-- An optional number: its bytes, or nothing, as an absent interval is an item of size 0 (R186; log
entry 12). -/
def optBytes (n : Nat) : Option Nat → List Byte
  | some x => beBytes n x
  | none => []

/-- A result item (R186). -/
def item (id : Nat) (value : List Byte) : Item := ⟨BitVec.ofNat 8 id, value⟩

/-- Items numbered from `k` on, one for each value (R186). -/
def itemsFrom : (k : Nat) → List (List Byte) → List Item
  | _, [] => []
  | k, v :: vs => item k v :: itemsFrom (k + 1) vs

/-- Items numbered from 1 (R186). -/
def items (vs : List (List Byte)) : List Item := itemsFrom 1 vs

/-- A set as a field of a result: the number of its members, then the members (R186). -/
def setField (xs : List Nat) : List Byte := byte xs.length ++ xs.flatMap byte

/-! ## Codes (R185, R186): from 0 in the order the owning rule lists the values -/

def CtxState.code : CtxState → Nat
  | .free => 0 | .active => 1 | .suspended => 2 | .closing => 3
def Account.code : Account → Nat
  | .prepaid => 0 | .postpaid => 1
def LimitMode.code : LimitMode → Nat
  | .stopBefore => 0 | .stopAfter => 1
def PosState.code : PosState → Nat
  | .lost => 0 | .fresh => 1 | .stale => 2
def Quality.code : Quality → Nat
  | .none => 0 | .coarse => 1 | .fine => 2
def ZoneKind.code : ZoneKind → Nat
  | .harbour => 0 | .territorial => 1 | .international => 2
def Permit.code : Permit → Nat
  | .serve => 0 | .limited => 1 | .silent => 2
def EntryKind.code : EntryKind → Nat
  | .open => 0 | .guarded => 1
def Gate.code : Gate → Nat
  | .open => 0 | .closed => 1
def Heading.code : Heading → Nat
  | .increasing => 0 | .decreasing => 1
def WaypointAction.code : WaypointAction → Nat
  | .notify => 0 | .commit => 1
def WaypointId.code : WaypointId → Nat
  | .w0 => 0 | .w1 => 1
def LinkKind.code : LinkKind → Nat
  | .microwave => 0 | .shoreCell => 1 | .satellite => 2
def Health.code : Health → Nat
  | .off => 0 | .down => 1 | .trial => 2 | .up => 3 | .impaired => 4
def ProbeOutcome.code : ProbeOutcome → Nat
  | .success => 0 | .loss => 1
def Slot.code : Slot → Nat
  | .a => 0 | .b => 1
def Trigger.code : Trigger → Nat
  | .now => 0 | .epoch => 1 | .waypoint => 2
def StageCondition.code : StageCondition → Nat
  | .untriggered => 0 | .waiting => 1
def SwitchCause.code : SwitchCause → Nat
  | .staged => 0 | .failover => 1 | .zone => 2 | .recovery => 3
def ServiceLevel.code : ServiceLevel → Nat
  | .full => 0 | .limited => 1 | .silent => 2
def RuState.code : RuState → Nat
  | .unused => 0 | .alive => 1 | .lost => 2
def RecordKind.code : RecordKind → Nat
  | .interval => 0 | .final => 1 | .periodSummary => 2
def SweepState.code : SweepState → Nat
  | .idle => 0 | .visiting => 1 | .paused => 2 | .summaryWait => 3
def Access.code : Access → Nat
  | .none => 0 | .read => 1 | .account => 2 | .control => 3

def BearerNotice.code : BearerNotice → Nat
  | .barred .. => 0 | .suspended => 1 | .resumed => 2 | .released => 3 | .exhausted _ => 4
  | .lowBalance _ => 5

/-- Status codes follow the order of the status table (R186). -/
def Status.code : Status → Nat
  | .ok => 0 | .busy => 1 | .denied => 2 | .badCommand => 3 | .badArgument => 4 | .notFound => 5
  | .duplicate => 6 | .tableFull => 7 | .wrongState => 8 | .attachClosed => 9 | .backlog => 10
  | .notPresent => 11 | .overLimit => 12

/-- The kind of the active link, with 0 for NONE (R185, status body byte 8). -/
def linkKindCode : Option LinkKind → Nat
  | none => 0
  | some k => k.code + 1

/-- A link, or 255 for none, as the detail of SWITCH_DONE has it (R186). -/
def linkOr255 : Option LinkIx → Nat
  | none => 255
  | some k => k.val

/-- A detail packed in the order the event table gives, each value at its natural size (R186). -/
def Detail.bytes : Detail → List Byte
  | .link k => byte k.val
  | .linkState k h => byte k.val ++ byte h.code
  | .switch old new cause => byte (linkOr255 old) ++ byte (linkOr255 new) ++ byte cause.code
  | .level l => byte l.code
  | .zone d g => byte d.val ++ beBytes 2 g.toNat
  | .zoneIndex d => byte d.val
  | .waypoint w => byte w.code
  | .context i => beBytes 2 i.val
  | .ru r => byte r.val
  | .period p => beBytes 4 p.toNat

def detailBytes : Option Detail → List Byte
  | none => []
  | some d => d.bytes

end Sys2Proof.Machine
end

