-- ==== Sys2Proof/Machine/Lookup.lean ====
section
/-! DEFINITION. Searches over the indexed tables: "the lowest index" of R6, R7, R8, R31 and R55. -/

namespace Sys2Proof.Machine

/-- From index `i` on, at most `fuel` indexes further, the first that meets `p`. -/
def firstFrom {n : Nat} (p : Fin n → Bool) : (fuel : Nat) → (i : Nat) → Option (Fin n)
  | 0, _ => none
  | fuel + 1, i =>
    if h : i < n then
      if p ⟨i, h⟩ then some ⟨i, h⟩ else firstFrom p fuel (i + 1)
    else none

/-- The lowest index that meets `p`. -/
def firstFin {n : Nat} (p : Fin n → Bool) : Option (Fin n) := firstFrom p n 0

/-- The links in ascending index. -/
def allLinks : List LinkIx := [0, 1, 2, 3, 4, 5, 6, 7]

/-- The radio units in ascending index. -/
def allRus : List RuIx := [0, 1, 2, 3, 4, 5, 6, 7, 8, 9, 10, 11, 12, 13, 14, 15]

/-- The ports in the order of R186. -/
def allPorts : List Port :=
  [.cell 0, .cell 1, .cell 2, .cell 3, .shore 0, .shore 1, .shore 2, .shore 3]

/-- The shore ports in order. -/
def allShore : List (Fin 4) := [0, 1, 2, 3]

/-- The context that is not FREE and holds a bearer ID (R8, R36). -/
def lookupBearer (cs : Vector Context 4096) (id : Num32) : Option CtxIx :=
  firstFin fun i => cs[i].state != .free && cs[i].bearerId == id

/-- The FREE context of lowest index (R31). -/
def lowestFree (cs : Vector Context 4096) : Option CtxIx :=
  firstFin fun i => cs[i].state == .free

/-- Some context holds an awaiting interval of period `p` (R111). -/
def anyAwaiting (cs : Vector Context 4096) (p : Num32) : Bool :=
  (firstFin fun i : CtxIx => match cs[i].awaiting with
    | some r => r.period == p
    | none => false).isSome

/-- The radio unit source check: a configured entry of the arrival port and source address (R6). -/
def matchRu (rus : Vector RadioUnit 16) (port : Fin 4) (src : Addr) : Option RuIx :=
  firstFin fun r => rus[r].state != .unused && rus[r].port == port && rus[r].addr == src

/-- The link match: an enabled link of the arrival port and anchor link ID (R7). -/
def matchLink (links : Vector Link 8) (port : Fin 4) (anchorId : Num16) : Option LinkIx :=
  firstFin fun k => links[k].cfg.enabled && links[k].cfg.port == port && links[k].cfg.anchorId == anchorId

end Sys2Proof.Machine
end

