-- ==== Sys2Proof/Machine/Ops.lean ====
section
/-! DEFINITION. The operations every block shares: reading and writing one record of a table, route time,
drop counters, placing entries in egress queues, raising events, sending responses and bearer notices. -/

namespace Sys2Proof.Machine

/-! ## One record of a table -/

def State.port (s : State) (p : Port) : PortState := s.ports[portIx p]
def State.setPort (s : State) (p : Port) (x : PortState) : State :=
  { s with ports := s.ports.set (portIx p) x }

def State.ctx (s : State) (i : CtxIx) : Context := s.contexts[i]
def State.setCtx (s : State) (i : CtxIx) (c : Context) : State :=
  { s with contexts := s.contexts.set i c }

def State.link (s : State) (k : LinkIx) : Link := s.links[k]
def State.setLink (s : State) (k : LinkIx) (l : Link) : State := { s with links := s.links.set k l }

def State.ru (s : State) (r : RuIx) : RadioUnit := s.cs.rus[r]
def State.setRu (s : State) (r : RuIx) (u : RadioUnit) : State :=
  { s with cs := { s.cs with rus := s.cs.rus.set r u } }

def State.event (s : State) (k : EventKind) : EventEntry := s.me.events[k.ix]
def State.setEvent (s : State) (k : EventKind) (e : EventEntry) : State :=
  { s with me := { s.me with events := s.me.events.set k.ix e } }

def State.access (s : State) (p : Port) : Access := s.me.access[portIx p]

/-- The route clock (R23). -/
def State.now (s : State) : Time := s.me.clock

/-! ## Route time and 64-bit totals -/

/-- A 64-bit sum; a sum outside the range is a free value (log entry 3). -/
def add64 (a b : BitVec 64) : BitVec 64 :=
  if a.toNat + b.toNat < 2 ^ 64 then a + b else Config.sumBeyond64 a b

/-- The route time `us` microseconds after `t`. -/
def timeAfter (t : Time) (us : Nat) : Time :=
  if t.toNat + us < 2 ^ 64 then BitVec.ofNat 64 (t.toNat + us)
  else Config.sumBeyond64 t (BitVec.ofNat 64 us)

/-- The microseconds from `t` to `now`. -/
def elapsed (now t : Time) : Nat := now.toNat - t.toNat

/-- A deadline is due when the route clock has reached it (section 1.9). -/
def State.reached (s : State) (deadline : Time) : Bool := decide (deadline.toNat ≤ s.now.toNat)

/-! ## Drop counters (R21) -/

def dropIx (r : DropReason) (d : Dir) : Fin 32 :=
  match d with
  | .uplink => ⟨2 * r.ix.val, by omega⟩
  | .downlink => ⟨2 * r.ix.val + 1, by omega⟩

def State.dropCount (s : State) (r : DropReason) (d : Dir) : Num32 := s.tc.drops[dropIx r d]

/-- A drop adds one to the counter of its reason and direction, which wraps to 0 (R21). -/
def drop (r : DropReason) (d : Dir) (s : State) : State :=
  { s with tc := { s.tc with drops := s.tc.drops.set (dropIx r d) (s.dropCount r d + 1) } }

/-! ## Entries and egress queues (section 1.7) -/

/-- Capacity of an egress queue (R15). -/
def egressCapacity : Nat := 512

/-- The length an entry carries: the JZ length of the bearer frame plus 14 (R10). -/
def UserEntry.length (e : UserEntry) : Nat := e.frame.payload.length + 10 + 14

/-- Precedence of a user entry (R14): 2 for SIGNAL, 3 for class 7 down to 9 for class 1. -/
def UserEntry.precedence (e : UserEntry) : Nat :=
  match e.frame.kind with
  | .signal => 2
  | .bearer => 10 - e.cls.val

def EntryBody.precedence : EntryBody → Nat
  | .up e _ => e.precedence
  | .down e _ _ => e.precedence
  | .control _ => 1

def Entry.precedence (e : Entry) : Nat := e.body.precedence

/-- A user entry, as against a control entry. -/
def Entry.isUser (e : Entry) : Bool :=
  match e.body with
  | .control _ => false
  | _ => true

/-- The user entry bears the label of link `k`. -/
def Entry.hasLabel (k : LinkIx) (e : Entry) : Bool :=
  match e.body with
  | .up _ l => l == k
  | _ => false

/-- Direction of an entry waiting on port `p` (R2). -/
def Entry.dir (p : Port) (e : Entry) : Dir :=
  match e.body with
  | .up .. => .uplink
  | .down .. => .downlink
  | .control _ => match p with
    | .cell _ => .downlink
    | .shore _ => .uplink

/-- The first entry that meets `p`, and the queue without it. -/
def takeFirst (p : Entry → Bool) : List Entry → Option (Entry × List Entry)
  | [] => none
  | e :: q =>
    if p e then some (e, q)
    else match takeFirst p q with
      | none => none
      | some (x, r) => some (x, e :: r)

/-- The smallest precedence number of a queue; 10 when it is empty. -/
def minPrecedence (q : List Entry) : Nat := q.foldl (fun m e => min m e.precedence) 10

/-- The largest precedence number of a queue's user entries; 0 when it has none. -/
def maxUserPrecedence (q : List Entry) : Nat :=
  q.foldl (fun m e => if e.isUser then max m e.precedence else m) 0

/-- The entry PI selects: of smallest precedence number, placed earliest (R16), and the queue it leaves. -/
def selectEntry (q : List Entry) : Option (Entry × List Entry) :=
  takeFirst (fun e => e.precedence == minPrecedence q) q

/-- The entry a control entry displaces from a full queue: the user entry of largest precedence number,
placed latest (last row of R15), and the queue it leaves. -/
def displacedEntry (q : List Entry) : Option (Entry × List Entry) :=
  match takeFirst (fun e => e.isUser && e.precedence == maxUserPrecedence q) q.reverse with
  | none => none
  | some (e, r) => some (e, r.reverse)

def State.setQueue (s : State) (p : Port) (q : List Entry) : State :=
  s.setPort p { s.port p with queue := q }

/-- An entry placed now at the end of a queue (R14). -/
def place (p : Port) (b : EntryBody) (s : State) : State :=
  s.setQueue p ((s.port p).queue ++ [{ body := b, placed := s.now }])

def State.hasRoom (s : State) (p : Port) : Bool := decide ((s.port p).queue.length < egressCapacity)

/-- The member of a given link and switch number leaves the drain set (R150). -/
def leaveDrain (k : LinkIx) (number : Num16) (s : State) : State :=
  { s with su := { s.su with
      drain := s.su.drain.filter fun m => !(m.link == k && m.switchNumber == number) } }

/-- What a control entry dropped from a full queue means to its block (R15): an END marker takes its member
out of the drain set, and the response to a Reset COLD brings the cold reset (R182). -/
def controlDropped (c : Control) (s : State) : State :=
  match c.body with
  | .endMarker k _ number _ => leaveDrain k number s
  | .response _ _ _ _ true => { s with me := { s.me with coldPending := .due } }
  | _ => s

/-- A control entry is offered to an egress queue (R15, last row). -/
def offerControl (p : Port) (c : Control) (s : State) : State :=
  if s.hasRoom p then place p (.control c) s
  else match displacedEntry (s.port p).queue with
    | some (e, q) => place p (.control c) (drop .egressFull (e.dir p) (s.setQueue p q))
    | none => controlDropped c (drop .egressFull (Entry.dir p ⟨.control c, s.now⟩) s)

/-! ## Events (R178, R179) -/

/-- A raising of kind `k` with its detail: the entry is written, and a notice is built when the level is
above the notice floor and a notice destination is configured. -/
def raise (k : EventKind) (d : Option Detail) (s : State) : State :=
  let e := s.event k
  let noticed := decide (s.me.noticeFloor < e.level) && s.me.noticeDest.isSome
  let s := s.setEvent k { e with pending := true, seen := noticed, detail := d }
  match s.me.noticeDest, decide (s.me.noticeFloor < e.level) with
  | some (port, addr), true =>
    offerControl port { dst := addr, body := .notice k e.level s.now d } s
  | _, _ => s

/-! ## Bearer notices (R42) -/

/-- The notice about context `i`, whose record is `c`: built for the serving RU's entry when that entry is
configured, and not built when it is UNUSED. -/
def sendBearerNotice (i : CtxIx) (c : Context) (n : BearerNotice) (s : State) : State :=
  let u := s.ru c.servingRu
  if u.state == .unused then s
  else offerControl (.cell u.port)
    { dst := u.addr, body := .bearerNotice n c.bearerId i c.incarnation } s

/-! ## Arrivals (R1, R22) and the reset input (R183) -/

/-- Nothing happens in the part while the reset input is held asserted. -/
def unlessHeld (f : State → State) (s : State) : State := if s.resetHeld then s else f s

/-- One more frame received on a port, counted before the intake checks (R22). -/
def countReceived (p : Port) (s : State) : State :=
  s.setPort p { s.port p with received := (s.port p).received + 1 }

/-- A frame arrives on a port only while its carrier is UP (R1) and the part is not held in reset (R183);
it is counted and then taken in by `f`. -/
def arrive (p : Port) (f : State → State) (s : State) : State :=
  if s.resetHeld || !(s.port p).carrier then s else f (countReceived p s)

/-- Direction of a frame that arrived on a port (R2). -/
def arrivalDir : Port → Dir
  | .cell _ => .uplink
  | .shore _ => .downlink

end Sys2Proof.Machine
end

