-- ==== Sys2Proof/Machine/Flags.lean ====
section
/-! DEFINITION. The conditions blocks read from one another: the active link, usability, the realm test,
the floor in force, the service level. -/

namespace Sys2Proof.Machine

/-! ## The selector (R137) -/

def Su.slot (su : Su) : Slot → Option LinkIx
  | .a => su.slotA
  | .b => su.slotB

/-- The staged slot is the slot not in force (R137). -/
def Slot.other : Slot → Slot
  | .a => .b
  | .b => .a

def Su.setSlot (su : Su) (sl : Slot) (k : Option LinkIx) : Su :=
  match sl with
  | .a => { su with slotA := k }
  | .b => { su with slotB := k }

/-- The link named by the slot in force; none in blackout (R137). -/
def Su.active (su : Su) : Option LinkIx := su.slot su.inForce

/-- The staged link of a pending stage (R137). -/
def Su.staged (su : Su) : Option LinkIx :=
  match su.stage with
  | none => none
  | some _ => su.slot su.inForce.other

def State.active (s : State) : Option LinkIx := s.su.active

/-- The link is a member of the drain set (R137). -/
def Su.draining (su : Su) (k : LinkIx) : Bool := su.drain.any fun m => m.link == k

def Health.carries (h : Health) : Bool := h == .up || h == .impaired

/-- A link is usable when it is UP or IMPAIRED and in the link mask of the zone in force (R138). -/
def State.usable (s : State) (k : LinkIx) : Bool :=
  (s.link k).health.carries && s.zu.zone.linkMask.contains k

/-- The staged link, if a stage is pending and the link is usable. -/
def State.usableStaged (s : State) : Option LinkIx := s.su.staged.filter s.usable

/-- A stage is pending in condition WAITING and its link is usable (R141). -/
def State.waitingUsable (s : State) : Bool :=
  match s.su.stage with
  | some st => st.condition == .waiting && s.usableStaged.isSome
  | none => false

/-! ## Roaming (R67) -/

/-- The realm test of a context against the realm of the zone in force (R67). -/
def passesRealm (zoneRealm : Realm) (c : Context) : Bool :=
  zoneRealm == 0 || zoneRealm == c.homeRealm || c.roamSet.contains zoneRealm

/-- The context is PREPAID with its exhausted mark set (R9, R80). -/
def Context.spent (c : Context) : Bool := c.account == .prepaid && c.exhausted

/-! ## The floor in force (R11) -/

/-- The link floor: of the active link while UP or IMPAIRED; 0 in blackout (R11). -/
def linkFloor (s : State) : Floor :=
  match s.active with
  | none => 0
  | some k =>
    match (s.link k).health with
    | .up => (s.link k).cfg.upFloor
    | .impaired => (s.link k).cfg.impairedFloor
    | _ => 0

/-- The coverage floor: the LIMITED floor while the service level is LIMITED (R11). -/
def coverageFloor (s : State) : Floor :=
  match s.cs.level with
  | .limited => s.cs.limitedFloor
  | _ => 0

/-- The largest of the three floors (R11). -/
def floorOf (s : State) : Floor := max (linkFloor s) (max (coverageFloor s) s.cs.hostFloor)

/-- TC recomputes the floor in force (R11). -/
def recomputeFloor (s : State) : State := { s with tc := { s.tc with floor := floorOf s } }

/-! ## The service level (R161) -/

/-- The service level from permit, active link and grace timer (table of R161). -/
def levelOf (s : State) : ServiceLevel :=
  match s.zu.zone.permit with
  | .silent => .silent
  | .limited => .limited
  | .serve => if s.active.isSome || s.cs.grace.isSome then .full else .limited

/-! ## The hold queue's room (R154, R155) -/

def holdMaxFrames : Nat := 1024
def holdMaxBytes : Nat := 1572864

/-- The sum of the lengths of a list of held entries (R154). -/
def bytesOf (h : List UserEntry) : Nat := (h.map UserEntry.length).sum

/-- The hold queue has room for an entry (R155). -/
def holdRoom (h : List UserEntry) (e : UserEntry) : Bool :=
  decide (h.length < holdMaxFrames) && decide (bytesOf h + e.length ≤ holdMaxBytes)

/-- An entry's age is greater than the hold age limit (R157). -/
def State.tooOld (s : State) (e : UserEntry) : Bool :=
  decide (elapsed s.now e.intake > s.cs.holdAge * 1000000)

end Sys2Proof.Machine
end

