-- ==== Sys2Proof/Machine/Operands.lean ====
section
/-! DEFINITION. Reading the operands of requests: values of a list, clamping, sets, and items (R175, R186). -/

namespace Sys2Proof.Machine

/-- A number within 0 to n − 1, or none. -/
def inRange (n x : Nat) : Option (Fin n) := if h : x < n then some ⟨x, h⟩ else none

/-- A value brought to the nearest bound of its range (00_scope.md, "Values outside their range"). -/
def clamp (lo hi x : Nat) : Nat := max lo (min hi x)

/-- A floor brought into 0 to 7. -/
def clampFloor (x : Nat) : Floor := ⟨min 7 x, by omega⟩

/-- A multiplier brought into 0 to 1,023 (R117). -/
def clampMultiplier (x : Nat) : Multiplier := ⟨min 1023 x, by omega⟩

/-! ## Values of a list, by code (R186) -/

def readYesNo (b : Byte) : Option Bool :=
  match b.toNat with
  | 0 => some true | 1 => some false | _ => none
def readAccount (b : Byte) : Option Account :=
  match b.toNat with
  | 0 => some .prepaid | 1 => some .postpaid | _ => none
def readLimitMode (b : Byte) : Option LimitMode :=
  match b.toNat with
  | 0 => some .stopBefore | 1 => some .stopAfter | _ => none
def readQuality (b : Byte) : Option Quality :=
  match b.toNat with
  | 0 => some .none | 1 => some .coarse | 2 => some .fine | _ => none
def readZoneKind (b : Byte) : Option ZoneKind :=
  match b.toNat with
  | 0 => some .harbour | 1 => some .territorial | 2 => some .international | _ => none
def readPermit (b : Byte) : Option Permit :=
  match b.toNat with
  | 0 => some .serve | 1 => some .limited | 2 => some .silent | _ => none
def readEntryKind (b : Byte) : Option EntryKind :=
  match b.toNat with
  | 0 => some .open | 1 => some .guarded | _ => none
def readHeading (b : Byte) : Option Heading :=
  match b.toNat with
  | 0 => some .increasing | 1 => some .decreasing | _ => none
def readAction (b : Byte) : Option WaypointAction :=
  match b.toNat with
  | 0 => some .notify | 1 => some .commit | _ => none
def readWaypointId (b : Byte) : Option WaypointId :=
  match b.toNat with
  | 0 => some .w0 | 1 => some .w1 | _ => none
def readLinkKind (b : Byte) : Option LinkKind :=
  match b.toNat with
  | 0 => some .microwave | 1 => some .shoreCell | 2 => some .satellite | _ => none
def readTrigger (b : Byte) : Option Trigger :=
  match b.toNat with
  | 0 => some .now | 1 => some .epoch | 2 => some .waypoint | _ => none
def readAccess (b : Byte) : Option Access :=
  match b.toNat with
  | 0 => some .none | 1 => some .read | 2 => some .account | 3 => some .control | _ => none
def readEventKind (b : Byte) : Option EventKind := EventKind.all[b.toNat]?

/-- A port, coded C0 to C3 as 0 to 3 and S0 to S3 as 4 to 7 (R186). -/
def readPort (b : Byte) : Option Port :=
  if h : b.toNat < 4 then some (.cell ⟨b.toNat, h⟩)
  else if h : b.toNat - 4 < 4 then some (.shore ⟨b.toNat - 4, h⟩)
  else none

/-- One of C0 to C3. -/
def readCellPort (b : Byte) : Option (Fin 4) :=
  match readPort b with
  | some (.cell i) => some i
  | _ => none

/-- One of S0 to S3. -/
def readShorePort (b : Byte) : Option (Fin 4) :=
  match readPort b with
  | some (.shore i) => some i
  | _ => none

/-- A class, 1 to 7. -/
def readClass (b : Byte) : Option Floor := if b.toNat = 0 then none else inRange 8 b.toNat

/-- A set of indexes: every member in range, kept ascending and without repeats. -/
def readSet (n : Nat) (bs : List Byte) : Option (List (Fin n)) :=
  if bs.all fun b => decide (b.toNat < n) then
    some ((List.finRange n).filter fun i => bs.any fun b => b.toNat == i.val)
  else none

/-- A roam set: realms 1 to 15 (R26). -/
def readRoamSet (bs : List Byte) : Option (List Realm) :=
  if bs.any fun b => b.toNat == 0 then none else readSet 16 bs

/-- A list of links without repeats (R143). -/
def readOrder : List Byte → Option (List LinkIx)
  | [] => some []
  | b :: bs =>
    match inRange 8 b.toNat, readOrder bs with
    | some k, some ks => if ks.contains k then none else some (k :: ks)
    | _, _ => none

/-- A list of event kinds (R181). -/
def readKinds : List Byte → Option (List EventKind)
  | [] => some []
  | b :: bs =>
    match readEventKind b, readKinds bs with
    | some k, some ks => some (k :: ks)
    | _, _ => none

/-! ## Items (R186) -/

/-- The value an item of identifier `id` carries. -/
def itemValue (id : Nat) (xs : List Item) : Option (List Byte) :=
  match xs.find? fun i => i.id.toNat == id with
  | some i => some i.value
  | none => none

/-- The number an item of identifier `id` carries; 0 where it is left out. -/
def itemNat (id : Nat) (xs : List Item) : Nat :=
  match itemValue id xs with
  | some v => ofBytes v
  | none => 0

def itemNat? (id : Nat) (xs : List Item) : Option Nat := (itemValue id xs).map ofBytes

/-- What check 4 of R173 asks of one argument: its identifier, the size of its value (exact, or at most
a limit for a set or list), and whether it may be left out. -/
structure ArgForm where
  id : Nat
  exact : Bool
  size : Nat
  optional : Bool
  deriving DecidableEq, Repr

def fixedArg (id size : Nat) : ArgForm := ⟨id, true, size, false⟩
def optArg (id size : Nat) : ArgForm := ⟨id, true, size, true⟩
def setArg (id limit : Nat) : ArgForm := ⟨id, false, limit, false⟩
def optSetArg (id limit : Nat) : ArgForm := ⟨id, false, limit, true⟩

def ArgForm.sizeOk (f : ArgForm) (i : Item) : Bool :=
  if f.exact then i.value.length == f.size else decide (i.value.length ≤ f.size)

/-- Check 4 of R173 as R186 spells it out: every item has an identifier and size the command takes, no
identifier twice, nothing required missing. -/
def itemsMeet (forms : List ArgForm) (xs : List Item) : Bool :=
  (xs.all fun i => forms.any fun f => f.id == i.id.toNat && f.sizeOk i)
  && decide ((xs.map fun i => i.id).Nodup)
  && (forms.all fun f => f.optional || xs.any fun i => i.id.toNat == f.id)

/-- The items of a body, each an identifier, a size and a value of that size; none where the bytes end
inside an item (log entry 13). The fuel bounds the number of items. -/
def splitItems : (fuel : Nat) → List Byte → Option (List Item)
  | _, [] => some []
  | 0, _ => none
  | fuel + 1, id :: rest =>
    match rest with
    | [] => none
    | size :: bs =>
      if bs.length < size.toNat then none
      else match splitItems fuel (bs.drop size.toNat) with
        | some xs => some (⟨id, bs.take size.toNat⟩ :: xs)
        | none => none

end Sys2Proof.Machine
end

