-- ==== Sys2Proof/Machine/Answer.lean ====
section
/-! DEFINITION. Requests and responses: the commands with their codes and levels (R174, R186), the checks
ME makes of every request, and the response it builds (R173). -/

namespace Sys2Proof.Machine

/-- The commands of R174, in the order of its table. -/
inductive Command where
  | readStatus
  | readContext
  | findContext
  | readZone
  | readLink
  | readRadioUnit
  | readEvents
  | readCounters
  | createContext
  | modifyContext
  | suspendContext
  | resumeContext
  | topUp
  | releaseContext
  | closePeriod
  | positionReport
  | writeZone
  | reloadZone
  | armWaypoint
  | disarmWaypoint
  | writeLink
  | stageLink
  | cancelStage
  | setFailoverOrder
  | writeRadioUnit
  | setFloor
  | openAttach
  | configure
  | clearEvents
  | reset
  deriving DecidableEq, Repr

/-- Command codes: READ from 1, ACCOUNT from 16, CONTROL from 32, each in the table's order (R186). -/
def Command.code : Command → Nat
  | .readStatus => 1
  | .readContext => 2
  | .findContext => 3
  | .readZone => 4
  | .readLink => 5
  | .readRadioUnit => 6
  | .readEvents => 7
  | .readCounters => 8
  | .createContext => 16
  | .modifyContext => 17
  | .suspendContext => 18
  | .resumeContext => 19
  | .topUp => 20
  | .releaseContext => 21
  | .closePeriod => 22
  | .positionReport => 32
  | .writeZone => 33
  | .reloadZone => 34
  | .armWaypoint => 35
  | .disarmWaypoint => 36
  | .writeLink => 37
  | .stageLink => 38
  | .cancelStage => 39
  | .setFailoverOrder => 40
  | .writeRadioUnit => 41
  | .setFloor => 42
  | .openAttach => 43
  | .configure => 44
  | .clearEvents => 45
  | .reset => 46

def Command.all : List Command :=
  [.readStatus, .readContext, .findContext, .readZone, .readLink, .readRadioUnit, .readEvents,
   .readCounters, .createContext, .modifyContext, .suspendContext, .resumeContext, .topUp,
   .releaseContext, .closePeriod, .positionReport, .writeZone, .reloadZone, .armWaypoint,
   .disarmWaypoint, .writeLink, .stageLink, .cancelStage, .setFailoverOrder, .writeRadioUnit, .setFloor,
   .openAttach, .configure, .clearEvents, .reset]

/-- The command of a code; none for any other code (check 1 of R173). -/
def commandOf (code : Byte) : Option Command := Command.all.find? fun c => c.code == code.toNat

/-- The level a command requires (table of R174). -/
def Command.level : Command → Access
  | .readStatus | .readContext | .findContext | .readZone | .readLink | .readRadioUnit | .readEvents
  | .readCounters => .read
  | .createContext | .modifyContext | .suspendContext | .resumeContext | .topUp | .releaseContext
  | .closePeriod => .account
  | .positionReport | .writeZone | .reloadZone | .armWaypoint | .disarmWaypoint | .writeLink | .stageLink
  | .cancelStage | .setFailoverOrder | .writeRadioUnit | .setFloor | .openAttach | .configure
  | .clearEvents | .reset => .control

/-- What a command answers: status, results, and whether a cold reset waits on the response (R182). -/
structure Reply where
  status : Status
  results : List Item
  cold : Bool := false
  deriving DecidableEq, Repr

def Reply.ok (results : List Item) : Reply := { status := .ok, results := results }
def Reply.refuse (status : Status) : Reply := { status := status, results := [] }

/-- The response to a request: addressed to its source, out of its arrival port, with its tag (R173). -/
def respond (rq : Request) (code : Byte) (r : Reply) (s : State) : State :=
  offerControl rq.port
    { dst := rq.src, body := .response rq.tag code r.status r.results r.cold } s

/-- The port's access level admits the command (check 2 of R173). -/
def State.admits (s : State) (rq : Request) (cmd : Command) : Bool :=
  decide (cmd.level.code ≤ (s.access rq.port).code)

/-- Checks 2 to 4 of R173, then the command's own checks and changes, then the response. -/
def handle (rq : Request) (cmd : Command) (body : State → Reply × State) (s : State) : State :=
  let code := BitVec.ofNat 8 cmd.code
  if !s.admits rq cmd then respond rq code (.refuse .denied) s
  else if s.me.coldPending != .none && cmd != .readStatus then respond rq code (.refuse .busy) s
  else if !rq.itemsOk then respond rq code (.refuse .badArgument) s
  else respond rq code (body s).1 (body s).2

/-- The access test of R5: a request on a port of level NONE is dropped BAD_FRAME and not answered. -/
def admitRequest (rq : Request) (f : State → State) (s : State) : State :=
  if s.access rq.port == .none then drop .badFrame (arrivalDir rq.port) s else f s

/-- A request of a known command arrives (R5, R173). -/
def ask (rq : Request) (cmd : Command) (body : State → Reply × State) (s : State) : State :=
  arrive rq.port (admitRequest rq (handle rq cmd body)) s

/-- A command that only reports (level READ): it changes no state. -/
def report (results : State → List Item) (s : State) : Reply × State := (.ok (results s), s)

/-- A refusal leaves everything as it was (R173). -/
def refused (status : Status) (s : State) : Reply × State := (.refuse status, s)

end Sys2Proof.Machine
end

