-- ==== Sys2Proof/Machine/Coverage.lean ====
section
/-! DEFINITION. CS: heartbeats (R165), the service level and the hand-over (R160, R161), the hold queue
(R154 to R157), the radio unit table (R166 to R169), the host floor (R164). -/

namespace Sys2Proof.Machine

/-! ## Heartbeats (R165) -/

/-- A Backhaul Status frame as the state stands when it is built (R165). -/
def heartbeatNow (s : State) : ControlBody :=
  .backhaulStatus s.cs.level s.zu.gate s.zu.zone.realm s.tc.floor
    (s.active.map fun k => (s.link k).cfg.kind) s.zu.gen s.now

/-- One Backhaul Status frame to a configured entry, counted in its heartbeats sent. -/
def sendHeartbeat (r : RuIx) (s : State) : State :=
  let u := s.ru r
  if u.state == .unused then s
  else
    offerControl (.cell u.port) { dst := u.addr, body := heartbeatNow s }
      (s.setRu r { u with heartbeats := u.heartbeats + 1 })

/-- A round: one frame for each configured entry, in ascending RU index (R165). -/
def round (s : State) : State := allRus.foldl (fun s r => sendHeartbeat r s) s

/-! ## Service level and hand-over (R160, R161) -/

/-- CS recomputes the level; a change raises SERVICE_LEVEL, and TC recomputes the floor (R161). -/
def recomputeLevel (s : State) : State :=
  if levelOf s == s.cs.level then s
  else recomputeFloor
    (raise .serviceLevel (some (.level (levelOf s))) { s with cs := { s.cs with level := levelOf s } })

/-- The recompute would change the level. -/
def levelChanges (s : State) : Bool := levelOf s != s.cs.level

/-- The grace timer at a switch (R160): loaded by a switch to none, stopped by a switch to a link. -/
def graceAtSwitch (new : Option LinkIx) (s : State) : State :=
  match new with
  | none =>
    { s with cs := { s.cs with
        grace := if s.cs.graceTime = 0 then none else some (timeAfter s.now (s.cs.graceTime * 1000000)) } }
  | some _ => { s with cs := { s.cs with grace := none } }

/-- A hand-over to CS (R161): grace timer, level, and one round if the level, the gate or the active link
has changed. `switched` is the new link of the switch made, if one was made. -/
def csHandover (gateChanged : Bool) (switched : Option (Option LinkIx)) (s : State) : State :=
  let s := match switched with
    | none => s
    | some new => graceAtSwitch new s
  if levelChanges s || gateChanged || switched.isSome then round (recomputeLevel s)
  else recomputeLevel s

/-- The grace timer expires (R160): the level is recomputed, with a round when it changes (R165). -/
def graceExpiry (s : State) : State :=
  match s.cs.grace with
  | none => s
  | some e =>
    if s.reached e then
      let s := { s with cs := { s.cs with grace := none } }
      if levelChanges s then round (recomputeLevel s) else s
    else s

/-- The next heartbeat time is reached (R165): a round, and the grid runs on. -/
def heartbeatTime (s : State) : State :=
  if s.reached s.cs.nextHeartbeat then
    let s := round s
    { s with cs := { s.cs with
        nextHeartbeat := timeAfter s.cs.nextHeartbeat (s.cs.heartbeatInterval * 1000) } }
  else s

/-! ## The hold queue (R154 to R157) -/

def State.setHold (s : State) (h : List UserEntry) : State := { s with cs := { s.cs with hold := h } }

/-- TC offers an entry to the tail (R155). -/
def holdJoin (e : UserEntry) (s : State) : State :=
  if holdRoom s.cs.hold e then s.setHold (s.cs.hold ++ [e])
  else raise .holdOverflow none (drop .holdFull .uplink s)

/-- The place of a returned entry: ahead of the first entry of later intake route time (R156). -/
def insertByIntake (e : UserEntry) : List UserEntry → List UserEntry
  | [] => [e]
  | x :: xs => if e.intake.toNat < x.intake.toNat then e :: x :: xs else x :: insertByIntake e xs

/-- The entries of a batch that fit beside `n` entries of `b` bytes, and those dropped from the last of
the batch backward (R151). -/
def fitBatch : (n b : Nat) → List UserEntry → List UserEntry × List UserEntry
  | _, _, [] => ([], [])
  | n, b, e :: es =>
    if n < holdMaxFrames ∧ b + e.length ≤ holdMaxBytes then
      let r := fitBatch (n + 1) (b + e.length) es
      (e :: r.1, r.2)
    else ([], e :: es)

/-- `n` drops of one reason and direction (R21). -/
def dropMany (n : Nat) (r : DropReason) (d : Dir) (s : State) : State :=
  { s with tc := { s.tc with
      drops := s.tc.drops.set (dropIx r d) (s.dropCount r d + BitVec.ofNat 32 n) } }

/-- A batch returned at blackout: cut to fit, then placed by intake (R151, R156). -/
def returnBatch (batch : List UserEntry) (s : State) : State :=
  let cut := fitBatch s.cs.hold.length (bytesOf s.cs.hold) batch
  let s := dropMany cut.2.length .holdFull .uplink s
  s.setHold (cut.1.foldl (fun h e => insertByIntake e h) s.cs.hold)

/-- Aging at an epoch boundary: head entries older than the limit are dropped HOLD_AGED (R157). -/
def ageHold (s : State) : State :=
  let old := s.cs.hold.takeWhile s.tooOld
  (dropMany old.length .holdAged .uplink s).setHold (s.cs.hold.dropWhile s.tooOld)

/-! ## The radio unit table (R166 to R169) -/

/-- A Radio Status frame of the matched entry (R168). -/
def radioStatusOf (r : RuIx) (attached : BitVec 16) (s : State) : State :=
  let u := s.ru r
  let s := s.setRu r { u with
    lastStatus := some s.now
    attached := attached
    deadline := some (timeAfter s.now (s.cs.ruTimeout * 1000000))
    state := .alive }
  if u.state == .lost then sendHeartbeat r s else s

/-- A Radio Status frame arrives: the source check of R6, then R168. -/
def radioStatusIn (port : Fin 4) (src : Addr) (attached : BitVec 16) (s : State) : State :=
  match matchRu s.cs.rus port src with
  | none => drop .unknownRu .uplink s
  | some r => radioStatusOf r attached s

/-- The liveness deadline of an ALIVE entry is reached (R168). -/
def livenessDeadline (r : RuIx) (s : State) : State :=
  let u := s.ru r
  match u.state, u.deadline with
  | .alive, some d =>
    if s.reached d then
      raise .ruLost (some (.ru r)) (s.setRu r { u with state := .lost, deadline := none })
    else s
  | _, _ => s

/-- Every field of a radio unit entry, as results (R166, R169). DESIGN CHOICE: the entry is one item for each
field, not one composite item (log entry 12); R167, R169 and R186 do not say which. -/
def ruItems (u : RadioUnit) : List Item :=
  items [yesNo (u.state != .unused), byte u.port.val, beBytes 6 u.addr.toNat, byte u.state.code,
    optBytes 8 (u.lastStatus.map BitVec.toNat), optBytes 8 (u.deadline.map BitVec.toNat),
    beBytes 2 u.attached.toNat, beBytes 4 u.heartbeats.toNat]

/-- Read Radio Unit (R169). -/
def readRadioUnit (index : Byte) (s : State) : Reply × State :=
  match inRange 16 index.toNat with
  | none => refused .badArgument s
  | some r => report (fun s => ruItems (s.ru r)) s

/-- What a Write Radio Unit that is taken makes of the entry (R167). -/
def writtenRu (u : RadioUnit) (configured : Bool) (port : Fin 4) (addr : Addr) : RadioUnit :=
  if configured then
    { u with port := port, addr := addr, state := .lost, lastStatus := none, deadline := none,
             attached := 0 }
  else
    { u with port := 0, addr := 0, state := .unused, lastStatus := none, deadline := none,
             attached := 0 }

/-- Write Radio Unit (R167). DESIGN CHOICE: the response gives the entry after the change as eight items, one
for each field (log entry 12); R167 and R186 do not say whether it is one composite item. -/
def writeRadioUnit (a : RuArgs) (s : State) : Reply × State :=
  match inRange 16 a.index.toNat, readYesNo a.configured, readCellPort a.cellPort with
  | some r, some configured, some port =>
    let u := writtenRu (s.ru r) configured port a.addr
    (.ok (ruItems u), s.setRu r u)
  | _, _, _ => refused .badArgument s

/-- Set Floor (R164). -/
def setFloor (floor : Byte) (s : State) : Reply × State :=
  match inRange 8 floor.toNat with
  | none => refused .badArgument s
  | some f =>
    let s := recomputeFloor { s with cs := { s.cs with hostFloor := f } }
    (.ok (items [byte s.cs.hostFloor.val, byte s.tc.floor.val]), s)

end Sys2Proof.Machine
end

