-- ==== Sys2Proof/Machine/Steering.lean ====
section
/-! DEFINITION. SU: switches and their markers (R147 to R151), successor choice and recovery (R145, R146),
the handling of link and zone changes (R144), stages (R139 to R142), the failover order (R143), the END
marker (R149) and the hold drain (R158). -/

namespace Sys2Proof.Machine

/-! ## Entries of a link -/

/-- The user entries labelled with link `k`, in the order they were placed (R151). -/
def labelled (k : LinkIx) (q : List Entry) : List UserEntry :=
  q.filterMap fun e => match e.body with
    | .up u l => if l == k then some u else none
    | _ => none

/-- The queue without them. -/
def withoutLabel (k : LinkIx) (q : List Entry) : List Entry := q.filter fun e => !e.hasLabel k

/-- The user entries labelled with `k` in the egress queues of the shore ports (R151). -/
def entriesOf (k : LinkIx) (s : State) : List UserEntry :=
  allShore.flatMap fun p => labelled k (s.port (.shore p)).queue

/-- They are taken out of their queue (R151). -/
def takeOut (k : LinkIx) (s : State) : State :=
  allShore.foldl (fun s p => s.setQueue (.shore p) (withoutLabel k (s.port (.shore p)).queue)) s

/-- The entries of one move go, relabelled, to the tail of the queue of `new`'s port; one that finds it
full goes to the hold queue by intake time, and once one of them has found no room there, every later one
sent there is dropped HOLD_FULL too (R151, R156). -/
def moveTo (new : LinkIx) : (shut : Bool) → List UserEntry → State → State
  | _, [], s => s
  | shut, e :: es, s =>
    let p := Port.shore (s.link new).cfg.port
    if s.hasRoom p then moveTo new shut es (place p (.up e new) s)
    else if !shut && holdRoom s.cs.hold e then
      moveTo new shut es (s.setHold (insertByIntake e s.cs.hold))
    else moveTo new true es (drop .holdFull .uplink s)

/-- A move of the entries of link `k` (R151): to the active link, or back to the hold queue in blackout. -/
def moveEntries (k : LinkIx) (s : State) : State :=
  let es := entriesOf k s
  let s := takeOut k s
  match s.active with
  | some new => moveTo new false es s
  | none => returnBatch es s

/-! ## A switch (R147) -/

/-- The last transmitted sequence number of a link (R133). -/
def lastSeq (l : Link) : Num32 := l.nextSeq - 1

/-- The SWITCH marker of a switch (R148). -/
def switchMarker (new : Link) (number : Num16) (old : Option Link) (cause : SwitchCause) : Control :=
  { dst := new.cfg.anchorAddr
    body := .switchMarker new.cfg.anchorId number (old.map fun l => (l.cfg.anchorId, lastSeq l))
      (cause == .failover) }

/-- Step 3 of R147: the marker is offered to the new link's shore port. -/
def offerMarker (old new : Option LinkIx) (cause : SwitchCause) (s : State) : State :=
  match new with
  | none => s
  | some k =>
    offerControl (.shore (s.link k).cfg.port)
      (switchMarker (s.link k) s.su.switchNumber (old.map s.link) cause) s

/-- Step 4 of R147: the old link's entries are moved at a forced switch, cause FAILOVER; at a graceful
one the old link joins the drain set with the new switch number (R149). -/
def settleOld (old : Option LinkIx) (cause : SwitchCause) (s : State) : State :=
  match old with
  | none => s
  | some k =>
    match cause with
    | .failover => moveEntries k s
    | _ => { s with su := { s.su with
               drain := s.su.drain ++ [{ link := k, switchNumber := s.su.switchNumber, endPlaced := false }] } }

/-- Step 5 of R147: SWITCH_DONE, and BLACKOUT for a switch to none (R146). -/
def raiseSwitch (old new : Option LinkIx) (cause : SwitchCause) (s : State) : State :=
  let s := raise .switchDone (some (.switch old new cause)) s
  match new with
  | none => raise .blackout none s
  | some _ => s

/-- The new link leaves the drain set when a switch makes it the active link again (R150). -/
def undrain (new : Option LinkIx) (su : Su) : Su :=
  match new with
  | none => su
  | some k => { su with drain := su.drain.filter fun m => m.link != k }

/-- Steps 1 to 6 of R147 but for the hand-off to CS: `write` writes the selector as the rule that makes
the switch gives. -/
def makeSwitch (cause : SwitchCause) (new : Option LinkIx) (write : Su → Su) (s : State) : State :=
  let old := s.active
  let su := undrain new (write s.su)
  let s := { s with su := { su with switchNumber := su.switchNumber + 1 } }
  let s := offerMarker old new cause s
  let s := settleOld old cause s
  let s := raiseSwitch old new cause s
  recomputeFloor s

/-- The selector when a stage commits: the staged slot comes into force, the other becomes EMPTY, and the
stage is absent (R140, R146). -/
def commitSlots (su : Su) : Su :=
  { su.setSlot su.inForce none with inForce := su.inForce.other, stage := none }

/-- The selector when a successor or a link of the list is chosen: it is written into the slot in force;
where it is the staged link, the stage becomes absent and its slot EMPTY (R141, R145, R146). -/
def writeSlots (new : Option LinkIx) (su : Su) : Su :=
  let chosen := su.setSlot su.inForce new
  if new.isSome && su.staged == new then
    { chosen.setSlot su.inForce.other none with stage := none }
  else chosen

/-- The cause of a stage's commit: STAGED while there is an active link, RECOVERY in blackout (R141). -/
def commitCause (s : State) : SwitchCause := if s.active.isSome then .staged else .recovery

/-- What SU's handling came to: the state, and the new link of the switch it made, if it made one. -/
structure Steered where
  state : State
  switched : Option (Option LinkIx)

def unswitched (s : State) : Steered := ⟨s, none⟩

/-- The pending stage commits to its link `k`. -/
def commitStage (k : LinkIx) (s : State) : Steered :=
  ⟨makeSwitch (commitCause s) (some k) commitSlots s, some (some k)⟩

/-- The first link of the failover order that is UP and usable, else the first that is IMPAIRED and usable
(R145, R146). -/
def fromOrder (s : State) : Option LinkIx :=
  match s.su.order.find? fun k => (s.link k).health == .up && s.usable k with
  | some k => some k
  | none => s.su.order.find? fun k => (s.link k).health == .impaired && s.usable k

/-- The successor: from the list, else the usable staged link (R145). -/
def successor (s : State) : Option LinkIx :=
  match fromOrder s with
  | some k => some k
  | none => s.usableStaged

/-- A switch from the active link to the successor, or to none (R144, R145). -/
def failover (cause : SwitchCause) (s : State) : Steered :=
  let new := successor s
  ⟨makeSwitch cause new (writeSlots new) s, some new⟩

/-- The recovery test, in blackout: the usable staged link, else a link of the list (R146). -/
def recoveryTest (s : State) : Steered :=
  match s.active with
  | some _ => unswitched s
  | none =>
    match s.usableStaged with
    | some k => commitStage k s
    | none =>
      match fromOrder s with
      | some k => ⟨makeSwitch .recovery (some k) (writeSlots (some k)) s, some (some k)⟩
      | none => unswitched s

/-- The hand-off of a switch to CS (R147, step 6), where it is a hand-over of its own. -/
def tellCs (r : Steered) : State :=
  match r.switched with
  | none => r.state
  | some _ => csHandover false r.switched r.state

/-- A row of R144: SU handles it, with its hand-off to CS, when its condition holds. -/
def steerIf (c : Bool) (f : State → Steered) (s : State) : State := if c then tellCs (f s) else s

def Health.dead (h : Health) : Bool := h == .off || h == .down

/-! ## Link changes and zone changes (R144) -/

/-- Row 1 of R144: the active link is now DOWN or OFF. -/
def failoverRow (k : LinkIx) (s : State) : State :=
  steerIf (s.active == some k && (s.link k).health.dead) (failover .failover) s

/-- Row 2 of R144: the active link is UP or IMPAIRED; no switch, and TC recomputes the floor (R131). -/
def floorRow (k : LinkIx) (s : State) : State :=
  if s.active == some k && (s.link k).health.carries then recomputeFloor s else s

/-- Row 3 of R144: a member of the drain set is now DOWN or OFF; it leaves the set and its remaining
entries are moved (R150, R151). -/
def drainRow (k : LinkIx) (s : State) : State :=
  if s.su.draining k && (s.link k).health.dead then
    moveEntries k { s with su := { s.su with drain := s.su.drain.filter fun m => m.link != k } }
  else s

/-- Row 4 of R144: the staged link of a WAITING stage is usable; the stage commits (R141). -/
def stageRow (k : LinkIx) (s : State) : State :=
  steerIf (s.waitingUsable && s.su.staged == some k) (commitStage k) s

/-- Row 5 of R144: in blackout, a usable link brings the recovery test (R146). -/
def recoveryRow (k : LinkIx) (s : State) : State :=
  steerIf (s.active.isNone && s.usable k) recoveryTest s

/-- SU handles a change of link health, or a Write Link, handed to it by LM: the rows of R144 in order,
each on the state as the earlier ones left it. -/
def suLinkChanged (k : LinkIx) (s : State) : State :=
  recoveryRow k (stageRow k (drainRow k (floorRow k (failoverRow k s))))

/-- A WAITING stage whose link is usable commits (R141, R144). -/
def commitWaiting (s : State) : Steered :=
  match s.usableStaged with
  | some k => if s.waitingUsable then commitStage k s else unswitched s
  | none => unswitched s

/-- SU handles a zone change handed to it by ZU (R144, R57 step 5). The hand-off of a switch to CS is part
of the zone change's own (R147). -/
def suZoneChanged (s : State) : Steered :=
  match s.active with
  | some k =>
    if s.zu.zone.linkMask.contains k then commitWaiting s
    else if s.waitingUsable then commitWaiting s
    else failover .zone s
  | none => if s.waitingUsable then commitWaiting s else recoveryTest s

/-! ## Stages (R139 to R142) -/

/-- The trigger of an UNTRIGGERED stage fires: it commits if its link is usable, else it is WAITING
(R140). -/
def fireTrigger (s : State) : Steered :=
  match s.usableStaged with
  | some k => commitStage k s
  | none =>
    unswitched { s with su := { s.su with
      stage := s.su.stage.map fun st => { st with condition := .waiting } } }

/-- A moment of trigger `t` comes: it reaches an UNTRIGGERED stage of that trigger (R140, R64). -/
def triggerMoment (t : Trigger) (s : State) : State :=
  match s.su.stage with
  | some st => steerIf (st.trigger == t && st.condition == .untriggered) fireTrigger s
  | none => s

/-- The stage as a result: link, trigger, condition, or nothing when no stage is pending. DESIGN CHOICE: that
the three are one item of three bytes, and not three items, is the model's (log entry 12); R139, R142, R176
and R186 do not say. -/
def stageBytes (su : Su) : List Byte :=
  match su.stage, su.staged with
  | some st, some k => byte k.val ++ byte st.trigger.code ++ byte st.condition.code
  | _, _ => []

/-- The steering state a Stage Link reports (R139). -/
def steeringItems (su : Su) : List Item :=
  items [optBytes 1 (su.active.map Fin.val), stageBytes su, beBytes 2 su.switchNumber.toNat]

/-- The stage is written into the staged slot, replacing any stage (R139). -/
def writeStage (k : LinkIx) (t : Trigger) (s : State) : State :=
  { s with su := { s.su.setSlot s.su.inForce.other (some k) with
      stage := some { trigger := t, condition := .untriggered } } }

/-- Stage Link (R139): the stage is written; trigger NOW fires at once; in blackout the recovery test is
made. -/
def stageLink (link trigger : Byte) (s : State) : Reply × State :=
  match inRange 8 link.toNat, readTrigger trigger with
  | some k, some t =>
    if s.active == some k then refused .wrongState s
    else
      let s := triggerMoment .now (writeStage k t s)
      let s := steerIf s.active.isNone recoveryTest s
      (.ok (steeringItems s.su), s)
  | _, _ => refused .badArgument s

/-- Cancel Stage (R142). DESIGN CHOICE: the response gives link, trigger and condition of the stage removed as
one item of three bytes, and an item of size 0 when none was pending (log entry 12); R142 and R186 do not say
whether they are one item or three. -/
def cancelStage (s : State) : Reply × State :=
  match s.su.stage with
  | none => (.ok (items [[]]), s)
  | some _ =>
    (.ok (items [stageBytes s.su]),
     { s with su := { s.su.setSlot s.su.inForce.other none with stage := none } })

/-- Set Failover Order (R143): the list is replaced, and in blackout the recovery test is made. -/
def setFailoverOrder (order : List Byte) (s : State) : Reply × State :=
  if order.length > 8 then refused .badArgument s
  else match readOrder order with
    | none => refused .badArgument s
    | some ks =>
      (.ok (items [ks.flatMap fun k => byte k.val]),
       steerIf s.active.isNone recoveryTest { s with su := { s.su with order := ks } })

/-! ## The END marker (R149) -/

/-- The END marker of member `m`. -/
def endMarkerOf (m : Member) (l : Link) : Control :=
  { dst := l.cfg.anchorAddr, body := .endMarker m.link l.cfg.anchorId m.switchNumber (lastSeq l) }

/-- The member whose END marker is to be placed now: it is not placed, and the queue of the link's shore
port holds no user entry of the link. No entry is in metering between two steps (R149). -/
def endDue (k : LinkIx) (s : State) : Option Member :=
  s.su.drain.find? fun m =>
    m.link == k && !m.endPlaced && !(s.port (.shore (s.link k).cfg.port)).queue.any (Entry.hasLabel k)

/-- SU places the END marker of link `k`, recorded as placed before it is offered (R149, R15). -/
def placeEndMarker (k : LinkIx) (s : State) : State :=
  match endDue k s with
  | none => s
  | some m =>
    let s := { s with su := { s.su with
      drain := s.su.drain.map fun n => if n.link == k then { n with endPlaced := true } else n } }
    offerControl (.shore (s.link k).cfg.port) (endMarkerOf m (s.link k)) s

/-! ## The hold drain (R158) -/

/-- One drain move: the head is dropped HOLD_AGED when too old, else labelled with the active link and
placed in its egress queue; made while there is an active link whose queue has room (R158). -/
def holdDrainMove (s : State) : State :=
  match s.active, s.cs.hold with
  | some k, e :: es =>
    if s.hasRoom (.shore (s.link k).cfg.port) then
      if s.tooOld e then (drop .holdAged .uplink s).setHold es
      else place (.shore (s.link k).cfg.port) (.up e k) (s.setHold es)
    else s
  | _, _ => s

end Sys2Proof.Machine
end

