-- ==== Sys2Proof/Machine/Links.lean ====
section
/-! DEFINITION. LM: Write Link and Read Link (R119 to R121), probes and echoes (R122 to R124), outcomes and
RTT (R126, R127), the health machine (R129 to R131), carrier changes (R1, R19, R132), sequence numbers
(R133, R134). -/

namespace Sys2Proof.Machine

/-! ## Outcomes and RTT (R126, R127) -/

/-- The reported RTT: floor(S8 / 8), none when S8 is none (R118). -/
def Link.rtt (l : Link) : Option Nat := l.s8.map fun x => x / 8

/-- S8 after a SUCCESS with sample `x` (R127). -/
def smooth (s8 : Option Nat) (x : Nat) : Nat :=
  match s8 with
  | none => 8 * x
  | some v => v - v / 8 + x

/-- A count that stops at 65,535 (R118). -/
def countTo (n : Nat) : Nat := min 65535 (n + 1)

/-- The outcome list with one more outcome, at most 16 (R126). -/
def pushOutcome (xs : List ProbeOutcome) (o : ProbeOutcome) : List ProbeOutcome :=
  (if xs.length ≥ 16 then xs.drop 1 else xs) ++ [o]

/-- SUCCESS with its RTT sample is recorded (R126). -/
def Link.succeed (l : Link) (sample : Nat) : Link :=
  { l with
    successes := countTo l.successes, losses := 0, outcomes := pushOutcome l.outcomes .success,
    s8 := some (smooth l.s8 sample) }

/-- LOSS is recorded (R126). -/
def Link.lose (l : Link) : Link :=
  { l with losses := countTo l.losses, successes := 0, outcomes := pushOutcome l.outcomes .loss }

/-- Losses in the list (R126). -/
def Link.listLosses (l : Link) : Nat := l.outcomes.countP fun o => o == .loss

def Link.rttAbove (l : Link) (limit : Nat) : Bool :=
  match l.rtt with
  | some r => decide (r > limit)
  | none => false

def Link.rttWithin (l : Link) (limit : Nat) : Bool :=
  match l.rtt with
  | some r => decide (r ≤ limit)
  | none => false

/-- The state the health machine gives after an outcome (table of R129). -/
def nextHealth (l : Link) (o : ProbeOutcome) : Health :=
  match l.health with
  | .off => .off
  | .down => match o with
    | .success => .trial
    | .loss => .down
  | .trial => match o with
    | .success => if l.successes ≥ l.cfg.upCount then .up else .trial
    | .loss => .down
  | .up =>
    if l.losses ≥ l.cfg.downCount then .down
    else if decide (l.listLosses ≥ l.cfg.impairLoss) || l.rttAbove l.cfg.rttLimit then .impaired
    else .up
  | .impaired =>
    if l.losses ≥ l.cfg.downCount then .down
    else if decide (l.listLosses ≤ l.cfg.recoverLoss) && l.rttWithin l.cfg.rttRecover then .up
    else .impaired

/-- The probe history is cleared (R130). -/
def Link.clear (l : Link) : Link := { l with successes := 0, losses := 0, outcomes := [], s8 := none }

/-- The link enters state `h`; entry to DOWN or TRIAL clears its probe history (R130). -/
def Link.enter (l : Link) (h : Health) : Link :=
  match h with
  | .down | .trial => { l.clear with health := h }
  | _ => { l with health := h }

/-- An entry to DOWN from TRIAL, UP or IMPAIRED (R131). -/
def isFault (before after : Health) : Bool :=
  after == .down && (before == .trial || before == .up || before == .impaired)

/-- The event of a change of health, with its fault count; none when the state is as it was (R131). -/
def healthEvent (k : LinkIx) (before after : Health) (s : State) : State :=
  if before == after then s
  else if isFault before after then
    raise .linkDown (some (.link k))
      (s.setLink k { s.link k with faults := (s.link k).faults + 1 })
  else raise .linkState (some (.linkState k after)) s

/-- The link's state becomes `h`; a change raises its event and is handed to SU (R131). -/
def changeHealth (k : LinkIx) (h : Health) (s : State) : State :=
  let before := (s.link k).health
  if before == h then s
  else suLinkChanged k (healthEvent k before h (s.setLink k ((s.link k).enter h)))

/-- A recorded outcome is followed by one evaluation of the health machine (R129). -/
def evaluate (k : LinkIx) (o : ProbeOutcome) (s : State) : State :=
  changeHealth k (nextHealth (s.link k) o) s

/-! ## Probes and echoes (R122 to R124) -/

/-- Step 1 of R122: an outstanding probe is a LOSS. -/
def loseOutstanding (k : LinkIx) (s : State) : State :=
  match (s.link k).outstanding with
  | none => s
  | some _ => evaluate k .loss (s.setLink k { (s.link k).lose with outstanding := none })

/-- Step 2 of R122: with carrier UP a PROBE is built, offered, and outstanding (R123). -/
def buildProbe (k : LinkIx) (s : State) : State :=
  let l := s.link k
  if (s.port (.shore l.cfg.port)).carrier then
    offerControl (.shore l.cfg.port)
      { dst := l.cfg.anchorAddr, body := .probe l.cfg.anchorId l.nextProbe s.now }
      (s.setLink k { l with outstanding := some (l.nextProbe, s.now), nextProbe := l.nextProbe + 1 })
  else s.setLink k { l with outstanding := none }

/-- The next probe time of a link that is not OFF is reached (R122). -/
def probeTime (k : LinkIx) (s : State) : State :=
  match (s.link k).health, (s.link k).probeAt with
  | .off, _ => s
  | _, none => s
  | _, some t =>
    if s.reached t then
      let s := buildProbe k (loseOutstanding k s)
      s.setLink k { s.link k with
        probeAt := some (timeAfter t ((s.link k).cfg.probeInterval * 1000)) }
    else s

/-- An echo of probe number `n` for link `k` (R124). -/
def echoOf (k : LinkIx) (n : Num16) (s : State) : State :=
  let l := s.link k
  let late := s.setLink k { l with lateEchoes := l.lateEchoes + 1 }
  match l.outstanding with
  | none => late
  | some (m, sent) =>
    if m == n then
      evaluate k .success (s.setLink k { l.succeed (elapsed s.now sent) with outstanding := none })
    else late

/-- An ECHO frame arrives: the link match of R7, then R124. -/
def echoIn (port : Fin 4) (anchorId : Num16) (n : Num16) (s : State) : State :=
  match matchLink s.links port anchorId with
  | none => drop .linkUnknown .downlink s
  | some k => echoOf k n s

/-! ## Carrier changes -/

/-- The response to a Reset COLD waits in the queue. -/
def holdsColdResponse (q : List Entry) : Bool :=
  q.any fun e => match e.body with
    | .control c => match c.body with
      | .response _ _ _ _ cold => cold
      | _ => false
    | _ => false

/-- The carrier of a port goes DOWN before the response to a Reset COLD is selected: the cold reset is due
(R182). -/
def coldOnCarrierLoss (p : Port) (s : State) : State :=
  if holdsColdResponse (s.port p).queue then { s with me := { s.me with coldPending := .due } } else s

def State.setCarrier (s : State) (p : Port) (up : Bool) : State :=
  s.setPort p { s.port p with carrier := up }

/-- LM takes one link bound to the port that lost its carrier (R132). -/
def carrierLost (port : Fin 4) (s : State) (k : LinkIx) : State :=
  let l := s.link k
  if l.cfg.port == port && l.health != .off then
    let s := s.setLink k { l with outstanding := none }
    if l.health == .down then s else changeHealth k .down s
  else s

/-- A shore port's carrier goes DOWN (R1, R132): each link bound to it, in ascending index, one after
another. -/
def shoreCarrierDown (port : Fin 4) (s : State) : State :=
  if (s.port (.shore port)).carrier then
    let s := s.setCarrier (.shore port) false
    if s.resetHeld then s
    else allLinks.foldl (carrierLost port) (coldOnCarrierLoss (.shore port) s)
  else s

/-- A shore port's carrier comes UP: LM changes no state (R1, R132). -/
def shoreCarrierUp (port : Fin 4) (s : State) : State := s.setCarrier (.shore port) true

/-- A cell port's carrier changes (R1, R19). -/
def cellCarrierChange (port : Fin 4) (up : Bool) (s : State) : State :=
  let lost := (s.port (.cell port)).carrier && !up && !s.resetHeld
  let s := s.setCarrier (.cell port) up
  if lost then coldOnCarrierLoss (.cell port) s else s

/-! ## Write Link and Read Link (R119 to R121) -/

/-- The configuration a Write Link takes, after clamping, or none where a check of R119 fails. -/
def readLinkConfig (a : LinkArgs) : Option LinkConfig :=
  match readYesNo a.enabled, readShorePort a.shorePort, readLinkKind a.kind with
  | some enabled, some port, some kind =>
    let impair := clamp 1 16 a.impairLoss.toNat
    let limit := clamp 1 9999999 a.rttLimit.toNat
    if a.recoverLoss.toNat < impair ∧ a.rttRecover.toNat ≤ limit then
      some
        { enabled := enabled, port := port, kind := kind, anchorId := a.anchorId
          anchorAddr := a.anchorAddr
          multiplier := clampMultiplier a.multiplier.toNat
          upFloor := clampFloor a.upFloor.toNat
          impairedFloor := clampFloor a.impairedFloor.toNat
          probeInterval := clamp 10 10000 a.probeInterval.toNat
          upCount := clamp 1 15 a.upCount.toNat
          downCount := clamp 1 15 a.downCount.toNat
          impairLoss := impair
          recoverLoss := a.recoverLoss.toNat
          rttLimit := limit
          rttRecover := a.rttRecover.toNat
          startSeq := a.startSeq }
    else none
  | _, _, _ => none

/-- What a Write Link makes of the record at route time `now` (R120). -/
def writtenLink (l : Link) (cfg : LinkConfig) (now : Time) : Link :=
  { l.clear with
    cfg := cfg
    outstanding := none
    nextSeq := cfg.startSeq
    health := if cfg.enabled then .down else .off
    probeAt := if cfg.enabled then some (timeAfter now (cfg.probeInterval * 1000)) else none }

/-- The configuration fields as results, in the order of R117. DESIGN CHOICE: one item for each field (log
entry 12). -/
def linkConfigBytes (c : LinkConfig) : List (List Byte) :=
  [yesNo c.enabled, byte (c.port.val + 4), byte c.kind.code, beBytes 2 c.anchorId.toNat,
   beBytes 6 c.anchorAddr.toNat, beBytes 2 c.multiplier.val, byte c.upFloor.val, byte c.impairedFloor.val,
   beBytes 4 c.probeInterval, byte c.upCount, byte c.downCount, byte c.impairLoss, byte c.recoverLoss,
   beBytes 4 c.rttLimit, beBytes 4 c.rttRecover, beBytes 4 c.startSeq.toNat]

/-- The dynamic fields as results, in the order of R118, and the reported RTT. DESIGN CHOICE: one item for each
field (log entry 12). -/
def linkDynamicBytes (l : Link) : List (List Byte) :=
  [byte l.health.code, beBytes 2 l.successes, beBytes 2 l.losses,
   l.outcomes.flatMap fun o => byte o.code, optBytes 4 l.s8,
   (match l.outstanding with
    | none => []
    | some (n, t) => beBytes 2 n.toNat ++ beBytes 8 t.toNat),
   beBytes 2 l.nextProbe.toNat, optBytes 8 (l.probeAt.map BitVec.toNat), beBytes 4 l.nextSeq.toNat,
   beBytes 8 l.framesSent.toNat, beBytes 8 l.bytesSent.toNat, beBytes 4 l.faults.toNat,
   beBytes 4 l.lateEchoes.toNat, optBytes 4 l.rtt]

/-- Write Link (R119, R120): the record is written, its event raised, and the write handed to SU whatever
the states before and after. -/
def writeLink (a : LinkArgs) (s : State) : Reply × State :=
  match inRange 8 a.index.toNat, readLinkConfig a with
  | some k, some cfg =>
    let before := (s.link k).health
    let s := s.setLink k (writtenLink (s.link k) cfg s.now)
    let s := healthEvent k before (s.link k).health s
    (.ok (items (linkConfigBytes cfg)), suLinkChanged k s)
  | _, _ => refused .badArgument s

/-- Read Link (R121). -/
def readLink (index : Byte) (s : State) : Reply × State :=
  match inRange 8 index.toNat with
  | none => refused .badArgument s
  | some k =>
    report (fun s => items (linkConfigBytes (s.link k).cfg ++ linkDynamicBytes (s.link k))) s

/-- A user frame of length `n` leaves on the link: its number is used, and it is counted (R133, R134). -/
def Link.sent (l : Link) (n : Nat) : Link :=
  { l with
    nextSeq := l.nextSeq + 1
    framesSent := add64 l.framesSent 1
    bytesSent := add64 l.bytesSent (BitVec.ofNat 64 n) }

end Sys2Proof.Machine
end

