-- ==== Sys2Proof/Machine/Usage.lean ====
section
/-! DEFINITION. UR: intervals and records (R97 to R100), the closing rule (R101), the awaiting list (R102),
the URQ and usage frames (R103 to R107), billing periods and the sweep (R108 to R112). -/

namespace Sys2Proof.Machine

/-- Capacity of the URQ (R103). -/
def urqCapacity : Nat := 256

def State.urqRoom (s : State) : Bool := decide (s.ur.urq.length < urqCapacity)

/-! ## Records (R100) -/

/-- The key of an interval: period, zone generation, plan (R97). -/
def Interval.key (iv : Interval) : Num32 × Num16 × Plan := (iv.period, iv.zoneGen, iv.plan)

/-- The key a frame of context `c` belongs to now (R81, R99). -/
def currentKey (s : State) (c : Context) : Num32 × Num16 × Plan := (s.ur.period, s.zu.gen, c.plan)

/-- A new empty interval of context `c` (R98). -/
def freshInterval (s : State) (c : Context) : Interval :=
  { period := s.ur.period, zoneIx := s.zu.zoneIx, zoneGen := s.zu.gen, realm := s.zu.zone.realm,
    plan := c.plan, start := s.now, last := s.now, up := 0, down := 0, free := 0, frames := 0, charge := 0 }

/-- The balance after of a record: the balance for PREPAID, 0 for POSTPAID (R100). -/
def balanceAfter (c : Context) : Int :=
  match c.account with
  | .prepaid => c.balance
  | .postpaid => 0

/-- The usage record of a closed interval (R100). -/
def recordOf (kind : RecordKind) (i : CtxIx) (c : Context) (iv : Interval) : Record :=
  { kind := kind, plan := iv.plan, zoneIx := iv.zoneIx, realm := iv.realm, period := iv.period, ctx := i
    incarnation := c.incarnation, bearerId := c.bearerId, zoneGen := iv.zoneGen, start := iv.start
    stop := iv.last, up := iv.up, down := iv.down, free := iv.free, frames := iv.frames
    charge := iv.charge, balanceAfter := balanceAfter c
    remainder := match kind with
      | .final => c.remainder
      | _ => 0 }

/-! ## Entering the URQ (R103, R112) -/

/-- An accumulator's record count plus one; past its 32 bits a free value (log entry 3). -/
def countUp (n : Num32) : Num32 := if n.toNat + 1 < 2 ^ 32 then n + 1 else Config.countBeyond32

/-- An accumulator with one more record (R103, R112). -/
def Acc.add (a : Acc) (charge : Total64) : Acc :=
  { a with count := countUp a.count, charge := add64 a.charge charge }

/-- A record of period `p` belongs to the accumulator of the current period (R112). -/
def inCurrent (ur : Ur) (p : Num32) : Bool := ur.accCurrent.period == p

/-- The accumulator of a period: the current one, else the other (R112). -/
def accOf (ur : Ur) (p : Num32) : Acc := if inCurrent ur p then ur.accCurrent else ur.accOther

/-- An INTERVAL or FINAL record enters the URQ at its tail: added to its period's accumulator, numbered by
the count after, and placed, waiting (R103). -/
def urqEnter (r : Record) (s : State) : State :=
  let acc := (accOf s.ur r.period).add r.charge
  let entry : UrqRecord := { body := r, number := acc.count }
  { s with ur :=
      if inCurrent s.ur r.period then { s.ur with accCurrent := acc, urq := s.ur.urq ++ [entry] }
      else { s.ur with accOther := acc, urq := s.ur.urq ++ [entry] } }

/-! ## The closing rule (R101) -/

/-- Where a record formed for context `i` goes: the URQ, the awaiting slot, or nowhere when the close
cannot be made (R101). -/
inductive Placing where
  | urq
  | slot
  | cannot
  deriving DecidableEq, Repr

def placing (i : CtxIx) (s : State) : Placing :=
  if s.urqRoom && s.ur.awaiting.isEmpty then .urq
  else if (s.ctx i).awaiting.isNone then .slot
  else .cannot

/-- Case 2 of R101: the record becomes the awaiting interval, and the context joins the tail. -/
def toAwaiting (i : CtxIx) (r : Record) (s : State) : State :=
  let s := s.setCtx i { s.ctx i with awaiting := some r }
  { s with ur := { s.ur with awaiting := s.ur.awaiting ++ [i] } }

/-- The context without its open interval. -/
def dropOpen (i : CtxIx) (s : State) : State := s.setCtx i { s.ctx i with openIv := none }

/-- The open interval `iv` of context `i` is closed as a record of kind INTERVAL under the closing rule;
none when the close cannot be made (R101). -/
def closeInterval (i : CtxIx) (iv : Interval) (s : State) : Option State :=
  let r := recordOf .interval i (s.ctx i) iv
  match placing i s with
  | .urq => some (urqEnter r (dropOpen i s))
  | .slot => some (toAwaiting i r (dropOpen i s))
  | .cannot => none

/-- RECORD_BACKLOG naming the context (R101). -/
def raiseBacklog (i : CtxIx) (s : State) : State := raise .recordBacklog (some (.context i)) s

/-! ## A context becomes FREE (R40) -/

def freeContext (i : CtxIx) (s : State) : State :=
  s.setCtx i (Context.freeAt (s.ctx i).incarnation)

/-! ## The awaiting list drains (R102, R104) -/

/-- The head context's awaiting interval enters the URQ, its slot becomes empty, it leaves the list, and
if it is CLOSING it becomes FREE (R102). -/
def drainAwaitingHead (s : State) : State :=
  match s.ur.awaiting with
  | [] => s
  | i :: rest =>
    let c := s.ctx i
    let s := { s with ur := { s.ur with awaiting := rest } }
    match c.awaiting with
    | none => s
    | some r =>
      let s := urqEnter r (s.setCtx i { c with awaiting := none })
      if c.state == .closing then freeContext i s else s

/-- At most `n` freed entries go to the awaiting list, in list order (R104). -/
def drainAwaiting : (n : Nat) → State → State
  | 0, s => s
  | n + 1, s => if s.ur.awaiting.isEmpty then s else drainAwaiting n (drainAwaitingHead s)

/-! ## The period summary (R111) -/

/-- The summary is due: SUMMARY_WAIT, and no context holds an awaiting interval of the closing period. -/
def summaryDue (s : State) : Option Num32 :=
  match s.ur.sweep, s.ur.closing with
  | .summaryWait, some p => if anyAwaiting s.contexts p then none else some p
  | _, _ => none

/-- The PERIOD_SUMMARY record of period `p` (R111, R187). -/
def summaryRecord (p : Num32) (a : Acc) : Record :=
  { kind := .periodSummary, plan := 0, zoneIx := 0, realm := 0, period := p, ctx := 0, incarnation := 0
    bearerId := 0, zoneGen := 0, start := 0, stop := 0, up := 0, down := 0, free := 0
    frames := BitVec.ofNat 64 a.count.toNat, charge := a.charge, balanceAfter := 0, remainder := 0 }

/-- The summary of closing period `p` is placed, numbered count plus one; PERIOD_CLOSED is raised and the
sweep goes IDLE (R111, R103). -/
def placeSummary (p : Num32) (s : State) : State :=
  let a := s.ur.accOther
  let entry : UrqRecord := { body := summaryRecord p a, number := countUp a.count }
  let s := { s with ur := { s.ur with urq := s.ur.urq ++ [entry] } }
  let s := raise .periodClosed (some (.period p)) s
  { s with ur := { s.ur with sweep := .idle, closing := none } }

/-- The PERIOD_SUMMARY step: placed when it is due and the URQ has room (R111). -/
def periodSummary (s : State) : State :=
  match summaryDue s with
  | some p => if s.urqRoom then placeSummary p s else s
  | none => s

/-! ## Usage frames (R104 to R107) -/

/-- The waiting records: those after the records in frame (R103). -/
def waitingRecords (s : State) : List UrqRecord := s.ur.urq.drop (s.ur.outstanding.getD 0)

/-- UR builds a usage frame when all conditions of R105 hold: up to 16 waiting records, in URQ order. -/
def usageFrameBuild (s : State) : State :=
  match s.ur.collector, s.ur.outstanding with
  | some (port, addr), none =>
    let records := s.ur.urq.take 16
    if !records.isEmpty && (s.port port).carrier && s.hasRoom port then
      offerControl port { dst := addr, body := .usage records }
        { s with ur := { s.ur with outstanding := some records.length } }
    else s
  | _, _ => s

/-- The conditions of R105. -/
def usageFrameDue (s : State) : Bool :=
  match s.ur.collector, s.ur.outstanding with
  | some (port, _), none => !s.ur.urq.isEmpty && (s.port port).carrier && s.hasRoom port
  | _, _ => false

/-- A PAUSED sweep returns to VISITING once the URQ has room and the awaiting list is empty (R110). -/
def resumeSweep (s : State) : State :=
  if s.ur.sweep == .paused && s.urqRoom && s.ur.awaiting.isEmpty then
    { s with ur := { s.ur with sweep := .visiting } }
  else s

/-- `k` freed entries are given out: to a due summary, then to the awaiting list (R104). -/
def giveOut (k : Nat) (s : State) : State :=
  match k, summaryDue s with
  | n + 1, some p => drainAwaiting n (placeSummary p s)
  | k, _ => drainAwaiting k s

/-- Completion of the outstanding usage frame (R106). -/
def usageCompleted (s : State) : State :=
  match s.ur.outstanding with
  | none => s
  | some k =>
    let s := { s with ur := { s.ur with urq := s.ur.urq.drop k, outstanding := none } }
    resumeSweep (giveOut k s)

/-! ## Billing periods (R108, R109) -/

/-- Close Period (R108). -/
def closePeriod (s : State) : Reply × State :=
  if s.ur.sweep != .idle then refused .busy s
  else
    let p := s.ur.period
    let ur := { s.ur with
      closing := some p, period := p + 1, accOther := s.ur.accCurrent
      accCurrent := { period := p + 1, count := 0, charge := 0 }, sweep := .visiting, position := 0 }
    (.ok (items [beBytes 4 p.toNat, beBytes 4 ur.period.toNat]), { s with ur := ur })

/-- The position advances by one, and past 4,095 the sweep goes to SUMMARY_WAIT (R109). -/
def advanceSweep (s : State) : State :=
  { s with ur := { s.ur with
      position := s.ur.position + 1
      sweep := if s.ur.position + 1 > 4095 then .summaryWait else .visiting } }

/-- The open interval of a context, when it is of the closing period (R109). -/
def closingInterval (s : State) (i : CtxIx) : Option Interval :=
  match (s.ctx i).openIv with
  | some iv => if some iv.period == s.ur.closing then some iv else none
  | none => none

/-- One visit in VISITING (R109). -/
def visit (s : State) : State :=
  match inRange 4096 s.ur.position with
  | none => { s with ur := { s.ur with sweep := .summaryWait } }
  | some i =>
    match closingInterval s i with
    | none => advanceSweep s
    | some iv =>
      if s.urqRoom && s.ur.awaiting.isEmpty then
        advanceSweep (urqEnter (recordOf .interval i (s.ctx i) iv) (dropOpen i s))
      else { s with ur := { s.ur with sweep := .paused } }

/-- The SWEEP_VISIT step: a PAUSED sweep first resumes where it may (R110), and a visit is made in
VISITING. -/
def sweepVisit (s : State) : State :=
  let s := resumeSweep s
  if s.ur.sweep == .visiting then visit s else s

end Sys2Proof.Machine
end

