-- ==== Sys2Proof/Machine/Charging.lean ====
section
/-! DEFINITION. CU: metering of a user entry (R80 to R92), and the barring failure of R70 that metering and
intake share. -/

namespace Sys2Proof.Machine

/-! ## Barring failures (R70) -/

/-- A barring failure of context `i`: in a generation not yet notified, the generation is written and a
BARRED notice is sent (R70). -/
def barringFailure (i : CtxIx) (s : State) : State :=
  let c := s.ctx i
  if c.notifiedGen == s.zu.gen then s
  else
    let c := { c with notifiedGen := s.zu.gen }
    sendBearerNotice i c (.barred s.zu.zone.realm s.zu.gen) (s.setCtx i c)

/-! ## The charge (R82 to R84) -/

/-- The divisor of stage 4: 1,000,000 bytes per MB times the multiplier scale of 256 (R84). -/
def chargeDivisor : Nat := 256000000

/-- What the four stages come to: free part, charge, new remainder (R82, R84). -/
structure Charge where
  free : Nat
  cost : Nat
  remainder : Nat
  deriving DecidableEq, Repr

/-- The charge of a payload of B bytes, allowance L, rate, multiplier M and remainder F (R82 to R84). -/
def chargeOf (b l rate m f : Nat) : Charge :=
  let free := min b l
  let p := (b - free) * (rate * m) + f
  { free := free, cost := p / chargeDivisor, remainder := p % chargeDivisor }

/-- The transmission multiplier of an entry (R17): of the label's link as it is now, or as captured. -/
def transmissionMultiplier (s : State) : EntryBody → Multiplier
  | .up _ k => (s.link k).cfg.multiplier
  | .down _ m _ => m
  | .control _ => 0

/-- The charge of an entry of `c` with multiplier `m`, at the rate of the zone in force for the plan
(R83). -/
def chargeFor (s : State) (c : Context) (payload : Nat) (m : Multiplier) : Charge :=
  chargeOf payload c.allowance (s.zu.zone.rates[c.plan]).toNat m.val c.remainder

/-! ## The stages of metering -/

/-- The checks of R80, in order: the reason of the first that fails. -/
def meterCheck (s : State) (e : UserEntry) : Option DropReason :=
  let c := s.ctx e.ctx
  if e.incarnation != c.incarnation then some .staleContext
  else match e.frame.kind with
    | .signal => if c.state == .active || c.state == .suspended then none else some .notActive
    | .bearer =>
      if c.state != .active then some .notActive
      else if !passesRealm s.zu.zone.realm c then some .roamBarred
      else if c.spent then some .exhausted
      else none

/-- A new empty interval is opened (R98). -/
def openInterval (i : CtxIx) (s : State) : State :=
  s.setCtx i { s.ctx i with openIv := some (freshInterval s (s.ctx i)) }

/-- The interval key step (R81): none when the close it needs cannot be made. -/
def keyStep (i : CtxIx) (s : State) : Option State :=
  match (s.ctx i).openIv with
  | none => some (openInterval i s)
  | some iv =>
    if iv.key = currentKey s (s.ctx i) then some s
    else match closeInterval i iv s with
      | none => none
      | some s => some (openInterval i s)

/-- The exhausted mark is set, with its event and notice (R87, R89). -/
def exhaust (i : CtxIx) (s : State) : State :=
  let c := { s.ctx i with exhausted := true }
  sendBearerNotice i c (.exhausted c.balance)
    (raise .quotaExhausted (some (.context i)) (s.setCtx i c))

/-- The exhausted test of a PREPAID context after the apply stage (R89). -/
def exhaustedTest (i : CtxIx) (s : State) : State :=
  if (s.ctx i).balance ≤ 0 then exhaust i s else s

/-- The low test (R90). -/
def lowTest (i : CtxIx) (s : State) : State :=
  let c := s.ctx i
  if c.balance < c.lowThreshold ∧ c.low = false then
    let c := { c with low := true }
    sendBearerNotice i c (.lowBalance c.balance)
      (raise .quotaLow (some (.context i)) (s.setCtx i c))
  else s

/-- Allowance and remainder after the apply stage; a PREPAID balance is reduced by the charge (R88,
R91). -/
def Context.apply (c : Context) (ch : Charge) : Context :=
  { c with
    allowance := c.allowance - ch.free
    remainder := ch.remainder
    balance := match c.account with
      | .prepaid => c.balance - ch.cost
      | .postpaid => c.balance }

/-- The frame is accumulated into an interval (R92). -/
def Interval.accumulate (iv : Interval) (d : Dir) (payload : Nat) (ch : Charge) (now : Time) : Interval :=
  { iv with
    up := match d with
      | .uplink => add64 iv.up (BitVec.ofNat 64 payload)
      | .downlink => iv.up
    down := match d with
      | .uplink => iv.down
      | .downlink => add64 iv.down (BitVec.ofNat 64 payload)
    free := add64 iv.free (BitVec.ofNat 64 ch.free)
    frames := add64 iv.frames 1
    charge := add64 iv.charge (BitVec.ofNat 64 ch.cost)
    last := now }

def accumulate (i : CtxIx) (d : Dir) (payload : Nat) (ch : Charge) (s : State) : State :=
  let c := s.ctx i
  s.setCtx i { c with openIv := c.openIv.map fun iv => iv.accumulate d payload ch s.now }

/-- The tests after the apply stage, for PREPAID only (R89 to R91). -/
def testsAfter (i : CtxIx) (s : State) : State :=
  match (s.ctx i).account with
  | .prepaid => lowTest i (exhaustedTest i s)
  | .postpaid => s

/-- The apply stage of a frame with charge `ch`: write, test, accumulate (R88 to R92). -/
def applyCharge (i : CtxIx) (d : Dir) (payload : Nat) (ch : Charge) (s : State) : State :=
  accumulate i d payload ch (testsAfter i (s.setCtx i ((s.ctx i).apply ch)))

/-- The quota refuses the frame: PREPAID, STOP_BEFORE, and the charge above the balance (R87). -/
def quotaRefuses (c : Context) (ch : Charge) : Bool :=
  c.account == .prepaid && c.limitMode == .stopBefore && decide (c.balance < ch.cost)

/-- Metering of a BEARER entry that passed R80 (R81 to R92): the reason of a refusal, and the state. -/
def meterBearer (e : UserEntry) (d : Dir) (m : Multiplier) (s : State) : Option DropReason × State :=
  match keyStep e.ctx s with
  | none => (some .backlog, raiseBacklog e.ctx s)
  | some s =>
    let ch := chargeFor s (s.ctx e.ctx) e.frame.payload.length m
    if quotaRefuses (s.ctx e.ctx) ch then (some .quota, exhaust e.ctx s)
    else (none, applyCharge e.ctx d e.frame.payload.length ch s)

/-- CU's answer to an entry offered for metering: none for SEND, or the reason of REFUSE (R17, R80). -/
def meter (e : UserEntry) (d : Dir) (m : Multiplier) (s : State) : Option DropReason × State :=
  match meterCheck s e with
  | some .roamBarred => (some .roamBarred, barringFailure e.ctx s)
  | some r => (some r, s)
  | none =>
    match e.frame.kind with
    | .signal => (none, s)
    | .bearer => meterBearer e d m s

end Sys2Proof.Machine
end

