-- ==== Sys2Proof/Machine/Contexts.lean ====
section
/-! DEFINITION. CXT: the requests that create, change, read and end contexts (R29 to R38), and Top Up (R93,
R94). -/

namespace Sys2Proof.Machine

/-- Largest balance, threshold and money amount (R30, R93). -/
def moneyMax : Int := 9999999999

/-- Largest free allowance (R93). -/
def allowanceMax : Nat := 4294967295

/-- The checks of R29 on a request that names a context by index and incarnation. -/
def named (n : CtxName) (f : CtxIx → Context → State → Reply × State) (s : State) : Reply × State :=
  match inRange 4096 n.index.toNat with
  | none => refused .badArgument s
  | some i =>
    if (s.ctx i).state == .free || (s.ctx i).incarnation != n.incarnation then refused .notFound s
    else f i (s.ctx i) s

/-! ## Results -/

/-- An interval as a result: its fields in the order of R97. -/
def intervalBytes : Option Interval → List Byte
  | none => []
  | some iv =>
    beBytes 4 iv.period.toNat ++ byte iv.zoneIx.val ++ beBytes 2 iv.zoneGen.toNat ++ byte iv.realm.val
    ++ byte iv.plan.val ++ beBytes 8 iv.start.toNat ++ beBytes 8 iv.last.toNat ++ beBytes 8 iv.up.toNat
    ++ beBytes 8 iv.down.toNat ++ beBytes 8 iv.free.toNat ++ beBytes 8 iv.frames.toNat
    ++ beBytes 8 iv.charge.toNat

/-- An awaiting interval as a result: the fields of R97, then those fixed at its close (R97, R100). -/
def awaitingBytes : Option Record → List Byte
  | none => []
  | some r =>
    intervalBytes (some
      { period := r.period, zoneIx := r.zoneIx, zoneGen := r.zoneGen, realm := r.realm, plan := r.plan,
        start := r.start, last := r.stop, up := r.up, down := r.down, free := r.free, frames := r.frames,
        charge := r.charge })
    ++ byte r.kind.code ++ beInt64 r.balanceAfter ++ beBytes 4 r.remainder

/-- Every field of R26, as results in the order of its table. DESIGN CHOICE: the record is one item for each
field, not one composite item (log entry 12); R32, R37 and R186 do not say which. -/
def contextBytes (c : Context) : List (List Byte) :=
  [byte c.state.code, beBytes 2 c.incarnation.toNat, beBytes 4 c.bearerId.toNat, byte c.cls.val,
   byte c.plan.val, byte c.homeRealm.val, c.roamSet.flatMap fun r => byte r.val, byte c.account.code,
   beInt64 c.balance, beBytes 8 c.lowThreshold, byte c.limitMode.code, yesNo c.exhausted, yesNo c.low,
   beBytes 4 c.allowance, beBytes 4 c.remainder, byte c.servingRu.val, beBytes 2 c.notifiedGen.toNat,
   intervalBytes c.openIv, awaitingBytes c.awaiting]

/-! ## Create Context (R30, R31) -/

/-- The values of a Create Context that pass check 1 of R30. -/
structure CreateValues where
  cls : Floor
  plan : Plan
  homeRealm : Realm
  roamSet : List Realm
  servingRu : RuIx
  account : Account
  limitMode : LimitMode
  deriving DecidableEq, Repr

/-- The limit mode: read for PREPAID, STOP_BEFORE for POSTPAID (R30, R31). -/
def createMode (account : Account) (b : Byte) : Option LimitMode :=
  match account with
  | .prepaid => readLimitMode b
  | .postpaid => some .stopBefore

/-- Check 1 of R30. -/
def createValues (a : CreateArgs) : Option CreateValues :=
  if a.bearerId = 0 ∨ a.roamSet.length > 15 then none
  else match readClass a.cls, inRange 4 a.plan.toNat, inRange 16 a.homeRealm.toNat,
      readRoamSet a.roamSet, inRange 16 a.servingRu.toNat, readAccount a.account with
    | some cls, some plan, some home, some roam, some ru, some account =>
      match createMode account a.limitMode with
      | some mode => some ⟨cls, plan, home, roam, ru, account, mode⟩
      | none => none
    | _, _, _, _, _, _ => none

/-- Check 2 of R30: an amount beyond its limit. -/
def createOverLimit (account : Account) (a : CreateArgs) : Bool :=
  match account with
  | .prepaid => decide (a.balance.toInt > moneyMax) || decide ((a.lowThreshold.toNat : Int) > moneyMax)
  | .postpaid => false

/-- Check 5 of R30: the gate is OPEN, or the class at least the admission level (R74). -/
def attachAllows (s : State) (cls : Floor) : Bool :=
  s.zu.gate == .open || decide (s.zu.zone.admission ≤ cls.val)

/-- The record of a new context (R31). -/
def newContext (incarnation : Num16) (gen : Num16) (a : CreateArgs) (v : CreateValues) : Context :=
  { state := .active, incarnation := incarnation, bearerId := a.bearerId, cls := v.cls, plan := v.plan
    homeRealm := v.homeRealm, roamSet := v.roamSet, account := v.account
    balance := match v.account with
      | .prepaid => a.balance.toInt
      | .postpaid => 0
    lowThreshold := match v.account with
      | .prepaid => a.lowThreshold.toNat
      | .postpaid => 0
    limitMode := v.limitMode, exhausted := false, low := false, allowance := a.allowance.toNat
    remainder := 0, servingRu := v.servingRu, notifiedGen := gen - 1, openIv := none, awaiting := none }

/-- Create Context: the checks of R30 in order, then the lowest FREE index is taken (R31). -/
def createContext (a : CreateArgs) (s : State) : Reply × State :=
  match createValues a with
  | none => refused .badArgument s
  | some v =>
    if createOverLimit v.account a then refused .overLimit s
    else if v.account == .prepaid && decide (a.balance.toInt < 1) then refused .badArgument s
    else if (lookupBearer s.contexts a.bearerId).isSome then refused .duplicate s
    else if !attachAllows s v.cls then refused .attachClosed s
    else match lowestFree s.contexts with
      | none => refused .tableFull s
      | some i =>
        let inc := (s.ctx i).incarnation + 1
        (.ok (items [beBytes 2 i.val, beBytes 2 inc.toNat]),
         s.setCtx i (newContext inc s.zu.gen a v))

/-! ## Modify Context (R32, R33) -/

/-- The values of a Modify Context that pass check 3 of R32. -/
structure ModifyValues where
  cls : Option Floor
  plan : Option Plan
  homeRealm : Option Realm
  roamSet : Option (List Realm)
  limitMode : Option LimitMode
  deriving DecidableEq, Repr

/-- An optional value, read where it is given. -/
def readOpt {α β : Type} (f : α → Option β) : Option α → Option (Option β)
  | none => some none
  | some x => match f x with
    | some y => some (some y)
    | none => none

/-- A roam set of at most 15 members (R186, R26). -/
def readRoamArg (bs : List Byte) : Option (List Realm) :=
  if bs.length > 15 then none else readRoamSet bs

/-- Check 3 of R32. -/
def modifyValues (a : ModifyArgs) : Option ModifyValues :=
  match readOpt readClass a.cls, readOpt (fun b => inRange 4 b.toNat) a.plan,
      readOpt (fun b => inRange 16 b.toNat) a.homeRealm, readOpt readRoamArg a.roamSet,
      readOpt readLimitMode a.limitMode with
  | some cls, some plan, some home, some roam, some mode => some ⟨cls, plan, home, roam, mode⟩
  | _, _, _, _, _ => none

/-- The record with the values given (R32). -/
def Context.modify (c : Context) (v : ModifyValues) (threshold : Option Nat) : Context :=
  { c with
    cls := v.cls.getD c.cls
    plan := v.plan.getD c.plan
    homeRealm := v.homeRealm.getD c.homeRealm
    roamSet := v.roamSet.getD c.roamSet
    limitMode := v.limitMode.getD c.limitMode
    lowThreshold := threshold.getD c.lowThreshold
    low := match threshold with
      | some t => c.low && decide (c.balance < t)
      | none => c.low }

/-- The interval that a change of plan closes (R33). -/
def planCloses (c : Context) (v : ModifyValues) : Option Interval :=
  match v.plan with
  | some p => if p = c.plan then none else c.openIv
  | none => none

/-- The state after the close that a plan change needs; none when it cannot be made (R33). -/
def closeForPlan (i : CtxIx) (v : ModifyValues) (s : State) : Option State :=
  match planCloses (s.ctx i) v with
  | none => some s
  | some iv => closeInterval i iv s

/-- Modify Context on the named context, in the order of R32. DESIGN CHOICE: the response gives the record as
one item for each field (log entry 12); R32 and R186 do not say whether it is one composite item. -/
def modifyNamed (a : ModifyArgs) (i : CtxIx) (c : Context) (s : State) : Reply × State :=
  if c.state == .closing then refused .wrongState s
  else if c.account == .postpaid && (a.lowThreshold.isSome || a.limitMode.isSome) then
    refused .wrongState s
  else match modifyValues a with
    | none => refused .badArgument s
    | some v =>
      let threshold := a.lowThreshold.map BitVec.toNat
      if threshold.any fun t : Nat => decide (moneyMax < (t : Int)) then refused .overLimit s
      else match closeForPlan i v s with
        | none => (.refuse .backlog, raiseBacklog i s)
        | some s =>
          let c := (s.ctx i).modify v threshold
          (.ok (items (contextBytes c)), s.setCtx i c)

/-- Modify Context (R32). -/
def modifyContext (n : CtxName) (a : ModifyArgs) : State → Reply × State := named n (modifyNamed a)

/-! ## Suspend and Resume (R34, R35) -/

def suspendNamed (i : CtxIx) (c : Context) (s : State) : Reply × State :=
  if c.state != .active then refused .wrongState s
  else
    let c := { c with state := .suspended }
    (.ok [], sendBearerNotice i c .suspended (s.setCtx i c))

/-- Suspend Context (R34). -/
def suspendContext (n : CtxName) : State → Reply × State := named n suspendNamed

def resumeNamed (i : CtxIx) (c : Context) (s : State) : Reply × State :=
  if c.state != .suspended then refused .wrongState s
  else
    let c := { c with state := .active }
    (.ok [], sendBearerNotice i c .resumed (s.setCtx i c))

/-- Resume Context (R35). -/
def resumeContext (n : CtxName) : State → Reply × State := named n resumeNamed

/-! ## Find and Read (R36, R37) -/

/-- Find Context (R36). -/
def findContext (id : Num32) (s : State) : Reply × State :=
  if id = 0 then refused .badArgument s
  else match lookupBearer s.contexts id with
    | none => refused .notFound s
    | some i =>
      report (fun s =>
        items [beBytes 2 i.val, beBytes 2 (s.ctx i).incarnation.toNat, byte (s.ctx i).state.code]) s

/-- Read Context (R37). -/
def readContext (index : Num16) (s : State) : Reply × State :=
  match inRange 4096 index.toNat with
  | none => refused .badArgument s
  | some i =>
    report (fun s => items (contextBytes (s.ctx i) ++ [yesNo (s.ur.awaiting.contains i)])) s

/-! ## Release (R38) -/

/-- The FINAL record: of the open interval, or one of zero totals formed in its place (R38, R98). -/
def finalRecord (i : CtxIx) (s : State) : Record :=
  recordOf .final i (s.ctx i) ((s.ctx i).openIv.getD (freshInterval s (s.ctx i)))

/-- Step 4 of R38: the FINAL record enters the URQ and the context becomes FREE, or it becomes the
awaiting interval and the context is CLOSING. -/
def placeFinal (i : CtxIx) (s : State) : State :=
  match placing i s with
  | .urq => freeContext i (urqEnter (finalRecord i s) s)
  | _ =>
    let s := toAwaiting i (finalRecord i s) s
    s.setCtx i { s.ctx i with state := .closing, openIv := none }

def releaseNamed (i : CtxIx) (c : Context) (s : State) : Reply × State :=
  if c.state == .closing then refused .wrongState s
  else if c.awaiting.isSome then (.refuse .backlog, raiseBacklog i s)
  else
    let s := placeFinal i s
    (.ok (items [byte (s.ctx i).state.code]), sendBearerNotice i c .released s)

/-- Release Context (R38). -/
def releaseContext (n : CtxName) : State → Reply × State := named n releaseNamed

/-! ## Top Up (R93, R94) -/

/-- The record after a Top Up (R94). -/
def Context.topUp (c : Context) (money : Nat) (allowance : Nat) : Context :=
  let balance := c.balance + money
  { c with
    balance := balance
    allowance := c.allowance + allowance
    exhausted := c.exhausted && decide (balance ≤ 0)
    low := c.low && decide (balance < c.lowThreshold) }

/-- Top Up on the named context, in the order of R93. DESIGN CHOICE: the response gives the two marks as two
items, the exhausted mark under identifier 3 and the low mark under 4, each 0 for set and 1 for clear (log
entry 12); R94 and R186 do not say whether "both marks" are two items of one identifier. -/
def topUpNamed (money : BitVec 64) (allowance : BitVec 32) (i : CtxIx) (c : Context) (s : State) :
    Reply × State :=
  if c.state == .closing then refused .wrongState s
  else if c.account == .postpaid then refused .wrongState s
  else if money = 0 ∧ allowance = 0 then refused .badArgument s
  else if (money.toNat : Int) > moneyMax then refused .overLimit s
  else if c.balance + money.toNat > moneyMax then refused .overLimit s
  else if c.allowance + allowance.toNat > allowanceMax then refused .overLimit s
  else
    let c := c.topUp money.toNat allowance.toNat
    (.ok (items [beInt64 c.balance, beBytes 4 c.allowance, yesNo c.exhausted, yesNo c.low]), s.setCtx i c)

/-- Top Up (R93, R94). -/
def topUp (n : CtxName) (money : BitVec 64) (allowance : BitVec 32) : State → Reply × State :=
  named n (topUpNamed money allowance)

end Sys2Proof.Machine
end

