-- ==== Sys2Proof/Machine/Zones.lean ====
section
/-! DEFINITION. ZU: position reports and deadlines (R46 to R52), zone selection, confirmation and zone change
(R55 to R57), zone requests (R59 to R61), waypoints (R62 to R64), the attach gate (R73, R75, R76). -/

namespace Sys2Proof.Machine

/-! ## Zone change (R57) -/

/-- The gate a descriptor's entry kind sets (R73). -/
def gateOf : EntryKind → Gate
  | .open => .open
  | .guarded => .closed

/-- Steps 1 to 4 of R57: descriptor `d` is copied, the generation counted up, ZONE_CHANGE raised, the
attach gate set. -/
def enterZone (d : ZoneIx) (s : State) : State :=
  let zone := s.zu.table[d]
  let s := { s with zu := { s.zu with zoneIx := d, zone := zone, gen := s.zu.gen + 1 } }
  let s := raise .zoneChange (some (.zone d s.zu.gen)) s
  { s with zu := { s.zu with gate := gateOf zone.entryKind } }

/-- A zone change to descriptor `d` (R57): steps 1 to 4, then SU, then CS in one hand-over. -/
def zoneChange (d : ZoneIx) (s : State) : State :=
  let gate := s.zu.gate
  let r := suZoneChanged (enterZone d s)
  csHandover (r.state.zu.gate != gate) r.switched r.state

/-! ## Candidate and confirmation (R55, R56) -/

/-- A descriptor's span holds A and its cross limit covers X (R55). -/
def Zone.covers (z : Zone) (a : Nat) (x : Int) : Bool :=
  decide (z.start ≤ a) && decide (a < z.start + z.length) && decide (x.natAbs ≤ z.crossLimit)

/-- The first of descriptors 1 to 63 that covers the position, present or not (R55). -/
def firstMatch (t : Vector Zone 64) (a : Nat) (x : Int) : Option ZoneIx :=
  firstFin fun d : ZoneIx => d.val != 0 && t[d].covers a x

/-- The candidate: the first match when present; 0 when it is absent or there is none (R55). -/
def candidateOf (t : Vector Zone 64) (a : Nat) (x : Int) : ZoneIx :=
  match firstMatch t a x with
  | some d => if t[d].present then d else 0
  | none => 0

/-- ZONE_FAULT is raised when the first match is absent (R55). -/
def zoneFault (a : Nat) (x : Int) (s : State) : State :=
  match firstMatch s.zu.table a x with
  | some d => if s.zu.table[d].present then s else raise .zoneFault (some (.zoneIndex d)) s
  | none => s

def setCandidate (c : Option ZoneIx) (n : Nat) (s : State) : State :=
  { s with zu := { s.zu with candidate := c, count := n } }

/-- The count of a candidate that differs from the zone in force (R56). -/
def confirmCountOf (s : State) (c : ZoneIx) : Nat :=
  if s.zu.candidate = some c then s.zu.count + 1 else 1

/-- Confirmation of candidate `c` (R56). -/
def confirm (c : ZoneIx) (s : State) : State :=
  if c = s.zu.zoneIx then setCandidate none 0 s
  else if confirmCountOf s c ≥ s.zu.confirmCount then setCandidate none 0 (zoneChange c s)
  else setCandidate (some c) (confirmCountOf s c) s

/-- The zone decision of the first accepted report after LOST (R52). -/
def enterAtOnce (c : ZoneIx) (s : State) : State :=
  if c = s.zu.zoneIx then setCandidate none 0 s
  else setCandidate none 0 (zoneChange c s)

/-! ## Waypoints (R63, R64) -/

/-- The comparator is armed, and the two positions straddle its value in its direction (R63). -/
def Waypoint.fires (w : Waypoint) (before after : Nat) : Bool :=
  w.armed && match w.heading with
    | .increasing => decide (before < w.value) && decide (w.value ≤ after)
    | .decreasing => decide (before > w.value) && decide (w.value ≥ after)

def Zu.waypoint (z : Zu) : WaypointId → Waypoint
  | .w0 => z.w0
  | .w1 => z.w1

def State.setWaypoint (s : State) (i : WaypointId) (w : Waypoint) : State :=
  match i with
  | .w0 => { s with zu := { s.zu with w0 := w } }
  | .w1 => { s with zu := { s.zu with w1 := w } }

/-- A comparator is tested: where it fires, WAYPOINT is raised, it is disarmed, and a COMMIT firing is
handed to SU (R63, R64). -/
def testWaypoint (i : WaypointId) (before after : Nat) (s : State) : State :=
  let w := s.zu.waypoint i
  if w.fires before after then
    let s := (raise .waypoint (some (.waypoint i)) s).setWaypoint i { w with armed := false }
    match w.action with
    | .commit => triggerMoment .waypoint s
    | .notify => s
  else s

/-! ## Position Report (R46 to R49) -/

/-- The difference of two along-track positions. -/
def stepSize (a b : Nat) : Nat := max a b - min a b

/-- The outcome of a taken report (R46). -/
inductive ReportOutcome where
  | notUsed
  | rejected
  | used
  deriving DecidableEq, Repr

def ReportOutcome.code : ReportOutcome → Nat
  | .notUsed => 0 | .rejected => 1 | .used => 2

/-- The record of an accepted report (R49). -/
def acceptPosition (a : Nat) (x : Int) (q : Quality) (fix : Time) (s : State) : State :=
  { s with zu := { s.zu with pos := { s.zu.pos with
      state := .fresh, a := a, x := x, fixTime := fix, quality := q
      stale := some (timeAfter s.now (s.zu.staleTimeout * 1000000))
      lost := some (timeAfter s.now (s.zu.lostTimeout * 1000000)) } } }

/-- An accepted report (R49): the record, the zone decision, and, but for the first report after LOST, the
comparators W0 and then W1. -/
def acceptReport (a : Nat) (x : Int) (q : Quality) (fix : Time) (s : State) : State :=
  let before := s.zu.pos
  let s := zoneFault a x (acceptPosition a x q fix s)
  let c := candidateOf s.zu.table a x
  match before.state with
  | .lost => enterAtOnce c s
  | _ => testWaypoint .w1 before.a a (testWaypoint .w0 before.a a (confirm c s))

/-- A report that passes the checks of R46 is handled by ZU (R47 to R49). -/
def takeReport (a : Nat) (x : Int) (q : Quality) (fix : Time) (s : State) : ReportOutcome × State :=
  match q with
  | .none => (.notUsed, s)
  | _ =>
    if s.zu.pos.state != .lost && decide (stepSize a s.zu.pos.a > s.zu.maxStep) then
      (.rejected, { s with zu := { s.zu with pos := { s.zu.pos with rejected := s.zu.pos.rejected + 1 } } })
    else (.used, acceptReport a x q fix s)

/-- The comparators that this report fired: those armed before and not after. -/
def firedItems (before after : Zu) : List Item :=
  (if before.w0.armed && !after.w0.armed then [item 8 (byte 0)] else [])
  ++ (if before.w1.armed && !after.w1.armed then [item 8 (byte 1)] else [])

/-- What the response to a Position Report gives: the outcome, and ZU as it stands after the report, with
the comparators that fired since `before` (R46). -/
def reportItems (o : ReportOutcome) (before after : Zu) : List Item :=
  items
    [byte o.code, byte after.pos.state.code, byte after.zoneIx.val, beBytes 2 after.gen.toNat,
     optBytes 1 (after.candidate.map Fin.val), byte after.count, beBytes 4 after.pos.rejected.toNat]
  ++ firedItems before after

/-- Position Report (R46). -/
def positionReport (a : PositionArgs) (s : State) : Reply × State :=
  match readQuality a.quality with
  | some q =>
    if a.a.toNat > 1048575 ∨ a.fixTime.toNat > s.now.toNat then refused .badArgument s
    else
      let r := takeReport a.a.toNat a.x.toInt q a.fixTime s
      (.ok (reportItems r.1 s.zu r.2.zu), r.2)
  | none => refused .badArgument s

/-! ## Deadlines (R50, R51) -/

/-- The stale deadline is reached in state FRESH (R50). -/
def staleDeadline (s : State) : State :=
  match s.zu.pos.state, s.zu.pos.stale with
  | .fresh, some d =>
    if s.reached d then
      raise .positionStale none
        { s with zu := { s.zu with pos := { s.zu.pos with state := .stale, stale := none } } }
    else s
  | _, _ => s

/-- The lost deadline is reached in state STALE (R51). -/
def lostDeadline (s : State) : State :=
  match s.zu.pos.state, s.zu.pos.lost with
  | .stale, some d =>
    if s.reached d then
      let s := { s with zu := { s.zu with pos := { s.zu.pos with state := .lost, lost := none } } }
      zoneChange 0 (setCandidate none 0 (raise .positionLost none s))
    else s
  | _, _ => s

/-! ## Write, Read, Reload Zone (R59 to R61) -/

/-- The descriptor a Write Zone gives, or none where a field is outside its range (R59, R53). -/
def readZoneFields (a : ZoneArgs) : Option Zone :=
  match readYesNo a.present, readZoneKind a.kind, inRange 16 a.realm.toNat, readPermit a.permit,
      readEntryKind a.entryKind, readSet 8 a.linkMask with
  | some present, some kind, some realm, some permit, some entry, some mask =>
    if a.linkMask.length ≤ 8 ∧ a.start.toNat ≤ 1048575 ∧ 1 ≤ a.length.toNat ∧ a.length.toNat ≤ 1048576
        ∧ a.crossLimit.toNat ≤ 32767 ∧ 1 ≤ a.admission.toNat ∧ a.admission.toNat ≤ 8 then
      some
        { present := present, start := a.start.toNat, length := a.length.toNat
          crossLimit := a.crossLimit.toNat, kind := kind, realm := realm, permit := permit
          entryKind := entry, admission := a.admission.toNat, rates := a.rates, linkMask := mask }
    else none
  | _, _, _, _, _, _ => none

/-- Write Zone (R59). -/
def writeZone (a : ZoneArgs) (s : State) : Reply × State :=
  match inRange 64 a.index.toNat, readZoneFields a with
  | some d, some z =>
    if d = 0 ∧ z.present = false then refused .badArgument s
    else
      (.ok (items [yesNo (d == s.zu.zoneIx)]),
       { s with zu := { s.zu with table := s.zu.table.set d z } })
  | _, _ => refused .badArgument s

/-- A descriptor as one result: its fields in the order of R53 (R186). -/
def zoneBytes (z : Zone) : List Byte :=
  yesNo z.present ++ beBytes 4 z.start ++ beBytes 4 z.length ++ beBytes 2 z.crossLimit ++ byte z.kind.code
  ++ byte z.realm.val ++ byte z.permit.code ++ byte z.entryKind.code ++ byte z.admission
  ++ (z.rates.toList.flatMap fun r => beBytes 2 r.toNat) ++ setField (z.linkMask.map Fin.val)

/-- Read Zone: a descriptor as the table holds it, or, for 255, the zone in force (R60, R186). -/
def readZone (index : Byte) (s : State) : Reply × State :=
  if index.toNat = 255 then
    report (fun s => items [byte s.zu.zoneIx.val, zoneBytes s.zu.zone, beBytes 2 s.zu.gen.toNat]) s
  else match inRange 64 index.toNat with
    | none => refused .badArgument s
    | some d => report (fun s => items [zoneBytes s.zu.table[d], yesNo (d == s.zu.zoneIx)]) s

/-- Reload Zone (R61). -/
def reloadZone (s : State) : Reply × State :=
  if s.zu.table[s.zu.zoneIx].present then
    let s := zoneChange s.zu.zoneIx s
    (.ok (items [byte s.zu.zoneIx.val, beBytes 2 s.zu.gen.toNat]), s)
  else refused .notPresent s

/-! ## Arm and Disarm Waypoint (R62) -/

/-- Arm Waypoint (R62). -/
def armWaypoint (a : WaypointArgs) (s : State) : Reply × State :=
  match readWaypointId a.comparator, readHeading a.direction, readAction a.action with
  | some i, some heading, some action =>
    if a.value.toNat > 1048575 then refused .badArgument s
    else
      (.ok [], s.setWaypoint i
        { value := a.value.toNat, heading := heading, action := action, armed := true })
  | _, _, _ => refused .badArgument s

/-- Disarm Waypoint (R62). -/
def disarmWaypoint (comparator : Byte) (s : State) : Reply × State :=
  match readWaypointId comparator with
  | none => refused .badArgument s
  | some i =>
    (.ok (items [yesNo (s.zu.waypoint i).armed]),
     s.setWaypoint i { s.zu.waypoint i with armed := false })

/-! ## Open Attach (R75, R76) -/

/-- Open Attach: the gate is OPEN; a change of it is handed to CS, which sends one round (R75, R165). DESIGN
CHOICE: the response says what the gate was by one item, identifier 1, of the gate's code, 0 OPEN or 1 CLOSED
(log entry 12); R75 and R186 give no form for it, and a yes or no item would say the same. -/
def openAttach (s : State) : Reply × State :=
  match s.zu.gate with
  | .open => (.ok (items [byte Gate.open.code]), s)
  | .closed => (.ok (items [byte Gate.closed.code]), round { s with zu := { s.zu with gate := .open } })

end Sys2Proof.Machine
end

