-- ==== Sys2Proof/Machine/Traffic.lean ====
section
/-! DEFINITION. The traffic path: admission (R8, R9), user entries (R10), routing (R12, R13), selection,
metering and transmission (R16 to R18), completion (R18). -/

namespace Sys2Proof.Machine

/-! ## Admission (R8, R9) -/

/-- The tests of R9 for a BEARER frame of context `c`, in order: the reason of the first that fails. -/
def bearerTests (s : State) (c : Context) : Option DropReason :=
  if !passesRealm s.zu.zone.realm c then some .roamBarred
  else if c.spent then some .exhausted
  else if s.cs.level == .silent then some .silent
  else if decide (c.cls ≤ s.tc.floor) then some .floor
  else none

/-- The state test of R8, and for a BEARER frame the tests of R9: the reason of a drop. -/
def admissionTest (s : State) (c : Context) (kind : BearerKind) : Option DropReason :=
  match kind with
  | .signal => if c.state == .active || c.state == .suspended then none else some .notActive
  | .bearer => if c.state == .active then bearerTests s c else some .notActive

/-- The user entry TC builds on admission (R10). -/
def userEntry (s : State) (i : CtxIx) (f : BearerFrame) : UserEntry :=
  { frame := f, ctx := i, incarnation := (s.ctx i).incarnation, cls := (s.ctx i).cls, intake := s.now }

/-- An admitted uplink entry: to the active link's egress queue, labelled, when the hold queue is empty
and that queue has room; else offered to the tail of the hold queue (R12). -/
def routeUplink (e : UserEntry) (s : State) : State :=
  match s.active with
  | some k =>
    if s.cs.hold.isEmpty && s.hasRoom (.shore (s.link k).cfg.port) then
      place (.shore (s.link k).cfg.port) (.up e k) s
    else holdJoin e s
  | none => holdJoin e s

/-- An admitted downlink entry: to the cell port of the serving RU when ALIVE (R13). -/
def routeDownlink (e : UserEntry) (m : Multiplier) (s : State) : State :=
  let u := s.ru (s.ctx e.ctx).servingRu
  if u.state == .alive then
    if s.hasRoom (.cell u.port) then place (.cell u.port) (.down e m u.addr) s
    else drop .egressFull .downlink s
  else drop .ruLost .downlink s

/-- The serving RU follows the source RU of an admitted uplink frame (R41). -/
def followRu (i : CtxIx) (r : RuIx) (s : State) : State :=
  s.setCtx i { s.ctx i with servingRu := r }

/-- Where an admitted frame came from: its source RU, or its captured multiplier (section 1.4). -/
inductive Source where
  | uplink (ru : RuIx)
  | downlink (captured : Multiplier)
  deriving DecidableEq, Repr

def Source.dir : Source → Dir
  | .uplink _ => .uplink
  | .downlink _ => .downlink

/-- The admitted frame of context `i` follows, is built into an entry and routed (R10, R12, R13, R41). -/
def carry (src : Source) (i : CtxIx) (f : BearerFrame) (s : State) : State :=
  match src with
  | .uplink r => routeUplink (userEntry s i f) (followRu i r s)
  | .downlink m => routeDownlink (userEntry s i f) m s

/-- A SIGNAL frame that fails the realm test is carried, and its failure then goes to R70 (R68). -/
def signalFailure (i : CtxIx) (f : BearerFrame) (failed : Bool) (s : State) : State :=
  match f.kind with
  | .signal => if failed then barringFailure i s else s
  | .bearer => s

/-- Admission of a bearer frame (R8 to R10, R68). -/
def admitFrame (src : Source) (f : BearerFrame) (s : State) : State :=
  match lookupBearer s.contexts f.bearerId with
  | none => drop .noContext src.dir s
  | some i =>
    match admissionTest s (s.ctx i) f.kind with
    | some .roamBarred => barringFailure i (drop .roamBarred src.dir s)
    | some r => drop r src.dir s
    | none => signalFailure i f (!passesRealm s.zu.zone.realm (s.ctx i)) (carry src i f s)

/-- Check 6 of R4: bearer ID not 0, payload at most 9,000 bytes. The lengths agree by construction. -/
def bearerOk (f : BearerFrame) : Bool := f.bearerId != 0 && decide (f.payload.length ≤ 9000)

/-- A BEARER or SIGNAL frame arrives on a cell port (R4 check 6, R5, R6, R8). -/
def bearerIn (port : Fin 4) (src : Addr) (f : BearerFrame) (s : State) : State :=
  if !bearerOk f then drop .badFrame .uplink s
  else match matchRu s.cs.rus port src with
    | none => drop .unknownRu .uplink s
    | some r => admitFrame (.uplink r) f s

/-- A LINK frame arrives on a shore port (R4 check 6, R5, R7): its inner frame goes to admission with the
multiplier of the matched link. -/
def linkFrameIn (port : Fin 4) (anchorId : Num16) (f : BearerFrame) (s : State) : State :=
  if !bearerOk f then drop .badFrame .downlink s
  else match matchLink s.links port anchorId with
    | none => drop .linkUnknown .downlink s
    | some k => admitFrame (.downlink (s.link k).cfg.multiplier) f s

/-! ## Selection and transmission (R16 to R18) -/

/-- The station address of a port: the eight are consecutive, C0 first (R185). -/
def stationAddr (p : Port) : Addr := Config.stationBase + BitVec.ofNat 48 (portIx p).val

/-- A frame begins transmission on port `p`, with the JZ frame type in force (R4, R185). -/
def transmit (p : Port) (dst : Addr) (c : Carried) (s : State) : State :=
  s.setPort p { s.port p with
    sending := some { dst := dst, src := stationAddr p, frameType := s.me.frameType, carried := c } }

/-- The length of the LINK frame around an entry: its own length and the 4 + 6 bytes of the outer JZ
header and link header, less nothing (R134, R185). -/
def linkFrameLength (e : UserEntry) : Nat := e.length + 10

/-- A user entry answered SEND with link label `k` leaves as a LINK frame (R18, R133, R134). -/
def transmitLink (p : Port) (e : UserEntry) (k : LinkIx) (s : State) : State :=
  let l := s.link k
  transmit p l.cfg.anchorAddr (.link l.cfg.anchorId l.nextSeq e) (s.setLink k (l.sent (linkFrameLength e)))

/-- A selected entry is transmitted at once, or offered to CU first and transmitted or discarded (R17). -/
def offerSelected (p : Port) (e : EntryBody) (s : State) : State :=
  match e with
  | .control c => transmit p c.dst (.control c.body) s
  | .up u k =>
    match meter u .uplink (transmissionMultiplier s e) s with
    | (some r, s) => drop r .uplink s
    | (none, s) => transmitLink p u k s
  | .down u _ dst =>
    match meter u .downlink (transmissionMultiplier s e) s with
    | (some r, s) => drop r .downlink s
    | (none, s) => transmit p dst (.bare u) s

/-- The conditions of R16: carrier UP, nothing in transmission, queue not empty. -/
def canSelect (s : State) (p : Port) : Bool :=
  (s.port p).carrier && (s.port p).sending.isNone && !(s.port p).queue.isEmpty

/-- PI selects an entry of port `p` (R16, R17). -/
def entrySelection (p : Port) (s : State) : State :=
  if canSelect s p then
    match selectEntry (s.port p).queue with
    | some (e, q) => offerSelected p e.body (s.setQueue p q)
    | none => s
  else s

/-- The completion is reported to the block that originated a control frame (R18): UR for a usage frame,
SU for an END marker (R150), ME for the response to a Reset COLD (R182). -/
def reportCompletion (c : Carried) (s : State) : State :=
  match c with
  | .control (.usage _) => usageCompleted s
  | .control (.endMarker k _ number _) => leaveDrain k number s
  | .control (.response _ _ _ _ true) => { s with me := { s.me with coldPending := .due } }
  | _ => s

/-- A transmission on port `p` completes (R18). -/
def transmissionCompletion (p : Port) (s : State) : State :=
  match (s.port p).sending with
  | none => s
  | some w =>
    reportCompletion w.carried
      (s.setPort p { s.port p with sending := none, transmitted := (s.port p).transmitted + 1 })

end Sys2Proof.Machine
end

