-- ==== Sys2Proof/Machine/Management.lean ====
section
/-! DEFINITION. ME: Configure (R175), Read Status (R176), Read Counters (R177), Read Events and Clear Events
(R180, R181), epoch boundaries (R24), and the resets (R182 to R184). -/

namespace Sys2Proof.Machine

/-! ## Configure (R175) -/

/-- Every setting of R175, in the order of its table. -/
structure Settings where
  epochLength : Nat
  frameType : BitVec 16
  noticeDest : Option (Port × Addr)
  collector : Option (Port × Addr)
  access : Vector Access 8
  staleTimeout : Nat
  lostTimeout : Nat
  ruTimeout : Nat
  heartbeatInterval : Nat
  graceTime : Nat
  holdAge : Nat
  maxStep : Nat
  confirmCount : Nat
  limitedFloor : Floor
  noticeFloor : Floor
  levels : Vector Floor 16
  deriving DecidableEq, Repr

/-- The settings as they stand. -/
def settingsOf (s : State) : Settings where
  epochLength := s.me.epochLength
  frameType := s.me.frameType
  noticeDest := s.me.noticeDest
  collector := s.ur.collector
  access := s.me.access
  staleTimeout := s.zu.staleTimeout
  lostTimeout := s.zu.lostTimeout
  ruTimeout := s.cs.ruTimeout
  heartbeatInterval := s.cs.heartbeatInterval
  graceTime := s.cs.graceTime
  holdAge := s.cs.holdAge
  maxStep := s.zu.maxStep
  confirmCount := s.zu.confirmCount
  limitedFloor := s.cs.limitedFloor
  noticeFloor := s.me.noticeFloor
  levels := s.me.events.map EventEntry.level

/-- A destination as given: left as it is, set to none, or a port of the eight and an address. -/
def readDest (kept : Option (Port × Addr)) : Option (Option DestArg) → Option (Option (Port × Addr))
  | none => some kept
  | some none => some none
  | some (some d) => match readPort d.port with
    | some p => some (some (p, d.addr))
    | none => none

/-- The access levels with the pairs of a Configure written in order. -/
def writeAccess : List PairArg → Vector Access 8 → Option (Vector Access 8)
  | [], v => some v
  | a :: as, v => match readPort a.selector, readAccess a.value with
    | some p, some l => writeAccess as (v.set (portIx p) l)
    | _, _ => none

/-- The event levels with the pairs of a Configure written in order, each clamped to 0 to 7. -/
def writeLevels : List PairArg → Vector Floor 16 → Option (Vector Floor 16)
  | [], v => some v
  | a :: as, v => match readEventKind a.selector with
    | some k => writeLevels as (v.set k.ix (clampFloor a.value.toNat))
    | none => none

/-- A frame type below 0x0600 is refused (R175). -/
def readFrameType (kept : BitVec 16) : Option (BitVec 16) → Option (BitVec 16)
  | none => some kept
  | some t => if t.toNat < 0x0600 then none else some t

/-- A clamped setting: the value given, brought to the nearest bound, or the value kept (R175, step 2). -/
def clamped (lo hi kept : Nat) : Option Nat → Nat
  | none => kept
  | some x => clamp lo hi x

/-- The lost timeout as given, clamped at 3,600, or as kept (R175, steps 2 and 3). -/
def lostTaken (kept : Nat) : Option (BitVec 32) → Nat
  | none => kept
  | some x => min 3600 x.toNat

/-- A clamped floor, or the one kept. -/
def floorTaken (kept : Floor) : Option Byte → Floor
  | none => kept
  | some x => clampFloor x.toNat

/-- Steps 1 to 3 of R175 against the settings as they stand: the settings after the request, or none where
it is refused. -/
def newSettings (a : ConfigureArgs) (v : Settings) : Option Settings :=
  match readFrameType v.frameType a.frameType, readDest v.noticeDest a.noticeDest,
      readDest v.collector a.collector, writeAccess a.access v.access,
      writeLevels a.eventLevels v.levels with
  | some frameType, some noticeDest, some collector, some access, some levels =>
    let stale := clamped 1 600 v.staleTimeout (a.staleTimeout.map BitVec.toNat)
    let lost := lostTaken v.lostTimeout a.lostTimeout
    if lost ≤ stale then none
    else some
      { epochLength := clamped 1 1000 v.epochLength (a.epochLength.map BitVec.toNat)
        frameType := frameType, noticeDest := noticeDest, collector := collector, access := access
        staleTimeout := stale, lostTimeout := lost
        ruTimeout := clamped 1 60 v.ruTimeout (a.ruTimeout.map BitVec.toNat)
        heartbeatInterval := clamped 100 10000 v.heartbeatInterval (a.heartbeatInterval.map BitVec.toNat)
        graceTime := clamped 0 300 v.graceTime (a.graceTime.map BitVec.toNat)
        holdAge := clamped 1 120 v.holdAge (a.holdAge.map BitVec.toNat)
        maxStep := clamped 1 65535 v.maxStep (a.maxStep.map BitVec.toNat)
        confirmCount := clamped 1 8 v.confirmCount (a.confirmCount.map BitVec.toNat)
        limitedFloor := floorTaken v.limitedFloor a.limitedFloor
        noticeFloor := floorTaken v.noticeFloor a.noticeFloor
        levels := levels }
  | _, _, _, _, _ => none

/-- The event table with the levels given. -/
def setLevels (events : Vector EventEntry 16) (levels : Vector Floor 16) : Vector EventEntry 16 :=
  Vector.ofFn fun i => { events[i] with level := levels[i] }

/-- All settings are written at once (R175). -/
def writeSettings (v : Settings) (s : State) : State :=
  { s with
    me := { s.me with
      epochLength := v.epochLength, frameType := v.frameType, noticeDest := v.noticeDest
      access := v.access, noticeFloor := v.noticeFloor, events := setLevels s.me.events v.levels }
    ur := { s.ur with collector := v.collector }
    zu := { s.zu with
      staleTimeout := v.staleTimeout, lostTimeout := v.lostTimeout, maxStep := v.maxStep
      confirmCount := v.confirmCount }
    cs := { s.cs with
      ruTimeout := v.ruTimeout, heartbeatInterval := v.heartbeatInterval, graceTime := v.graceTime
      holdAge := v.holdAge, limitedFloor := v.limitedFloor } }

/-- A destination as a result: port and address, or nothing for none (R186). -/
def destBytes : Option (Port × Addr) → List Byte
  | none => []
  | some (p, a) => byte (portIx p).val ++ beBytes 6 a.toNat

/-- Every setting, as results in the order of R175; access levels and event levels are one item for each
port and each kind (R186; log entry 12). -/
def settingItems (v : Settings) : List Item :=
  [item 1 (beBytes 4 v.epochLength), item 2 (beBytes 2 v.frameType.toNat), item 3 (destBytes v.noticeDest),
   item 4 (destBytes v.collector)]
  ++ (v.access.toList.map fun l => item 5 (byte l.code))
  ++ [item 6 (beBytes 4 v.staleTimeout), item 7 (beBytes 4 v.lostTimeout), item 8 (beBytes 4 v.ruTimeout),
    item 9 (beBytes 4 v.heartbeatInterval), item 10 (beBytes 4 v.graceTime), item 11 (beBytes 4 v.holdAge),
    item 12 (beBytes 2 v.maxStep), item 13 (byte v.confirmCount), item 14 (byte v.limitedFloor.val),
    item 15 (byte v.noticeFloor.val)]
  ++ (v.levels.toList.map fun l => item 16 (byte l.val))

/-- Configure (R175); a change of the LIMITED floor has TC recompute the floor in force (R11). -/
def configure (a : ConfigureArgs) (s : State) : Reply × State :=
  match newSettings a (settingsOf s) with
  | none => refused .badArgument s
  | some v =>
    (.ok (settingItems v),
     if v.limitedFloor = s.cs.limitedFloor then writeSettings v s
     else recomputeFloor (writeSettings v s))

/-! ## Read Status (R176) -/

/-- A comparator as a result: its fields in the order of R62. -/
def waypointBytes (w : Waypoint) : List Byte :=
  beBytes 4 w.value ++ byte w.heading.code ++ byte w.action.code ++ yesNo w.armed

/-- An accumulator as a result: period, record count, total charge (R112). -/
def accBytes (a : Acc) : List Byte :=
  beBytes 4 a.period.toNat ++ beBytes 4 a.count.toNat ++ beBytes 8 a.charge.toNat

/-- The members of the drain set as results, in ascending link index (R137, R186). -/
def drainItems (id : Nat) (drain : List Member) : List Item :=
  allLinks.flatMap fun k => (drain.filter fun m => m.link == k).map fun m =>
    item id (byte m.link.val ++ beBytes 2 m.switchNumber.toNat ++ yesNo m.endPlaced)

/-- The staged link with its trigger and condition, or nothing (R176). -/
def stagedBytes (su : Su) : List Byte := stageBytes su

/-- The state Read Status reports, in the order of R176. -/
def statusItems (s : State) : List Item :=
  itemsFrom 1
    [beBytes 8 s.me.clock.toNat, beBytes 4 s.me.epochNumber.toNat, beBytes 2 s.me.frameType.toNat,
     yesNo (s.me.coldPending != .none),
     byte s.zu.pos.state.code, beBytes 4 s.zu.pos.a, beBytes 2 (BitVec.ofInt 16 s.zu.pos.x).toNat,
     beBytes 8 s.zu.pos.fixTime.toNat, byte s.zu.pos.quality.code, byte s.zu.zoneIx.val,
     beBytes 2 s.zu.gen.toNat, byte s.zu.zone.kind.code, optBytes 1 (s.zu.candidate.map Fin.val),
     byte s.zu.count, byte s.zu.gate.code]
  ++ [item 16 (waypointBytes s.zu.w0), item 16 (waypointBytes s.zu.w1)]
  ++ itemsFrom 17
    [optBytes 1 (s.active.map Fin.val), byte s.su.inForce.code, stagedBytes s.su,
     beBytes 2 s.su.switchNumber.toNat, s.su.order.flatMap fun k => byte k.val]
  ++ drainItems 22 s.su.drain
  ++ itemsFrom 23
    [byte s.cs.level.code, optBytes 8 (s.cs.grace.map BitVec.toNat), beBytes 2 s.cs.hold.length,
     beBytes 4 (bytesOf s.cs.hold), byte s.tc.floor.val, beBytes 2 s.ur.urq.length,
     yesNo s.ur.outstanding.isSome, beBytes 2 s.ur.awaiting.length, beBytes 4 s.ur.period.toNat,
     byte s.ur.sweep.code, beBytes 2 s.ur.position, optBytes 4 (s.ur.closing.map BitVec.toNat)]
  ++ [item 35 (accBytes s.ur.accCurrent), item 35 (accBytes s.ur.accOther)]

/-- Read Status (R176). -/
def readStatus (s : State) : Reply × State := report statusItems s

/-! ## Read Counters (R177) -/

/-- The sixteen reasons in the order of the table of R21. -/
def DropReason.all : List DropReason :=
  [.badFrame, .unknownRu, .linkUnknown, .noContext, .notActive, .roamBarred, .exhausted, .silent, .floor,
   .ruLost, .egressFull, .holdFull, .holdAged, .staleContext, .quota, .backlog]

/-- The directions the table of R21 gives a reason. -/
def DropReason.dirs : DropReason → List Dir
  | .unknownRu | .holdFull | .holdAged => [.uplink]
  | .linkUnknown | .ruLost => [.downlink]
  | .badFrame | .noContext | .notActive | .roamBarred | .exhausted | .silent | .floor | .egressFull
  | .staleContext | .quota | .backlog => [.uplink, .downlink]

/-- What Read Counters reports: the drop counters by reason and direction, each port's two counts, the
rejected count (R177; log entry 12). -/
def counterItems (s : State) : List Item :=
  (DropReason.all.flatMap fun r => r.dirs.map fun d => item 1 (beBytes 4 (s.dropCount r d).toNat))
  ++ (allPorts.map fun p =>
    item 2 (beBytes 4 (s.port p).received.toNat ++ beBytes 4 (s.port p).transmitted.toNat))
  ++ [item 3 (beBytes 4 s.zu.pos.rejected.toNat)]

/-- Read Counters (R177). -/
def readCounters (s : State) : Reply × State := report counterItems s

/-! ## Read Events and Clear Events (R180, R181) -/

/-- The entry of a pending kind as a result: kind, level, detail, seen (R180). -/
def eventItem (s : State) (k : EventKind) : Item :=
  item 1 (byte k.ix.val ++ byte (s.event k).level.val ++ detailBytes (s.event k).detail
    ++ yesNo (s.event k).seen)

/-- A pending entry is marked seen (R180). -/
def EventEntry.shown (e : EventEntry) : EventEntry := if e.pending then { e with seen := true } else e

/-- Read Events (R180). -/
def readEvents (s : State) : Reply × State :=
  (.ok ((EventKind.all.filter fun k => (s.event k).pending).map (eventItem s)),
   { s with me := { s.me with events := s.me.events.map EventEntry.shown } })

/-- A Clear Events acts on the entry: pending and seen (R181). -/
def EventEntry.clears (e : EventEntry) : Bool := e.pending && e.seen

/-- A cleared entry keeps its level and detail (R181). -/
def EventEntry.cleared (e : EventEntry) : EventEntry :=
  if e.clears then { e with pending := false, seen := false } else e

/-- The event table after a Clear Events that names `ks` (R181). -/
def clearKinds (ks : List EventKind) (events : Vector EventEntry 16) : Vector EventEntry 16 :=
  Vector.ofFn fun i => if ks.any (fun k => k.ix == i) then events[i].cleared else events[i]

/-- Clear Events (R181). -/
def clearEvents (kinds : List Byte) (s : State) : Reply × State :=
  if kinds.length > 16 then refused .badArgument s
  else match readKinds kinds with
    | none => refused .badArgument s
    | some ks =>
      let named := EventKind.all.filter fun k => ks.contains k
      (.ok (items
        [(named.filter fun k => (s.event k).clears).flatMap fun k => byte k.ix.val,
         (named.filter fun k => (s.event k).pending && !(s.event k).clears).flatMap fun k => byte k.ix.val]),
       { s with me := { s.me with events := clearKinds ks s.me.events } })

/-! ## Epoch boundaries (R24) -/

/-- The epoch number and the next boundary after a boundary (R24, R25). -/
def nextEpoch (s : State) : State :=
  { s with me := { s.me with
      epochNumber := s.me.epochNumber + 1
      nextBoundary := timeAfter s.me.nextBoundary (s.me.epochLength * 1000) } }

/-- The route clock reaches the next boundary: CS ages the hold queue, then SU fires EPOCH stages (R24). -/
def epochBoundary (s : State) : State :=
  if s.reached s.me.nextBoundary then triggerMoment .epoch (ageHold (nextEpoch s)) else s

/-! ## Warm reset (R184) -/

/-- An event entry with its level alone kept (R184, step 1). -/
def EventEntry.blank (e : EventEntry) : EventEntry := EventEntry.cold e.level

/-- Step 1 of R184. -/
def warmEvents (s : State) : State :=
  { s with
    me := { s.me with events := s.me.events.map EventEntry.blank }
    tc := { s.tc with drops := Vector.replicate 32 0 } }

/-- The egress queue is emptied; a frame in transmission and both counts stay (R20, R22). -/
def PortState.warm (p : PortState) : PortState := { p with queue := [] }

/-- A usage frame is in transmission on some port. -/
def usageOnWire (s : State) : Bool :=
  allPorts.any fun p => match (s.port p).sending with
    | some w => match w.carried with
      | .control (.usage _) => true
      | _ => false
    | none => false

/-- A usage frame discarded with its queue leaves its records waiting; one in transmission stays
outstanding (R116). -/
def warmUr (s : State) : Ur :=
  { s.ur with outstanding := if usageOnWire s then s.ur.outstanding else none }

/-- A link record at a warm reset taken at `now` (R136). -/
def Link.warm (now : Time) (l : Link) : Link :=
  match l.health with
  | .off => { l with outstanding := none, probeAt := none }
  | _ =>
    { l.clear with
      health := .down, outstanding := none
      probeAt := some (timeAfter now (l.cfg.probeInterval * 1000)) }

/-- SU at a warm reset: the switch number and the list are kept (R153). -/
def Su.warm (su : Su) : Su :=
  { slotA := none, slotB := none, inForce := .a, stage := none, switchNumber := su.switchNumber
    order := su.order, drain := [] }

/-- A radio unit entry at a warm reset (R172). -/
def RadioUnit.warm (u : RadioUnit) : RadioUnit :=
  match u.state with
  | .unused => u
  | _ => { u with state := .lost, deadline := none }

/-- CS at a warm reset, before its recompute (R172). -/
def Cs.warm (cs : Cs) : Cs := { cs with hold := [], grace := none, rus := cs.rus.map RadioUnit.warm }

/-- ZU at a warm reset, before its zone change (R66). -/
def Zu.warm (zu : Zu) : Zu :=
  { zu with
    pos := { zu.pos with state := .lost, stale := none, lost := none }
    candidate := none
    count := 0 }

/-- Step 2 of R184. -/
def warmTraffic (s : State) : State :=
  { s with
    ports := s.ports.map PortState.warm
    ur := warmUr s
    links := s.links.map (Link.warm s.now)
    su := s.su.warm
    cs := s.cs.warm
    zu := s.zu.warm }

/-- Step 3 of R184: the zone change to descriptor 0, handled by SU, and then CS recomputes the level, TC
the floor, and one round is sent (R66, R172). SU makes no switch, every enabled link being DOWN (R153). -/
def warmZone (s : State) : State :=
  round (recomputeFloor (recomputeLevel (suZoneChanged (enterZone 0 s)).state))

/-- A warm reset (R184). -/
def warmReset (s : State) : State := warmZone (warmTraffic (warmEvents s))

/-- Reset WARM: the response follows the reset (R182). -/
def resetWarm (s : State) : Reply × State := (.ok [], warmReset s)

/-! ## Cold reset (R182, R183) -/

/-- The response to a Reset COLD reports that a cold reset follows (R182). DESIGN CHOICE: it reports it by one
yes or no item, identifier 1, value 0 for yes (log entry 12); R182 and R186 give no form for it. -/
def coldReply : Reply := { status := .ok, results := items [yesNo true], cold := true }

/-- Reset COLD on a port: a cold reset is pending, and due at once where the carrier is DOWN (R182). -/
def resetCold (p : Port) (s : State) : Reply × State :=
  (coldReply,
   { s with me := { s.me with coldPending := if (s.port p).carrier then .waiting else .due } })

/-- A port at a cold reset: the carrier stays the state of its line (R1, R183). -/
def PortState.afterCold (p : PortState) : PortState := { PortState.cold with carrier := p.carrier }

/-- The cold-reset state of every block (R183); `held` is whether the reset input is still asserted. The
commands waiting outside the part stay. -/
def coldState (held : Bool) (s : State) : State :=
  { State.reset with
    ports := s.ports.map PortState.afterCold
    resetHeld := held
    pending := s.pending }

/-- A cold reset from one of its three causes (R182, R183). Power-on with the input asserted leaves the
part held; a release needs an assertion before it; a pending cold reset must be due. -/
def coldReset (cause : ColdCause) (s : State) : State :=
  match cause with
  | .powerOn => coldState s.resetHeld s
  | .inputReleased => if s.resetHeld then coldState false s else s
  | .pendingReset =>
    if !s.resetHeld && s.me.coldPending == .due then coldState false s else s

/-- A port when the reset input is asserted: every frame in it is discarded, and the signal of a frame in
transmission stops (R183). -/
def PortState.held (p : PortState) : PortState := { p with queue := [], sending := none }

/-- The reset input is asserted: the part is held in reset, and every frame in it is discarded (R183). -/
def resetInputAsserted (s : State) : State :=
  { s with
    ports := s.ports.map PortState.held
    cs := { s.cs with hold := [] }
    ur := { s.ur with outstanding := none }
    resetHeld := true }

end Sys2Proof.Machine
end

