-- ==== Sys2Proof/Machine/Clock.lean ====
section
/-! DEFINITION. What the part does when no command waits (log entry 1): the work its own conditions call
for and the deadlines that are due are put in the queue as commands, and when there is none the route clock
advances by one microsecond (R23). -/

namespace Sys2Proof.Machine

/-- A command, where its condition holds. -/
def when (c : Bool) (i : Instr) : List Instr := if c then [i] else []

/-- A hold drain move can be made (R158). -/
def drainDue (s : State) : Bool :=
  match s.active with
  | some k => !s.cs.hold.isEmpty && s.hasRoom (.shore (s.link k).cfg.port)
  | none => false

/-- A sweep visit can be made (R109, R110). -/
def sweepDue (s : State) : Bool := (resumeSweep s).ur.sweep == .visiting

/-- The steps that the state of the part calls for now. -/
def readyWork (s : State) : List Instr :=
  when (s.me.coldPending == .due) (.coldReset .pendingReset)
  ++ (allPorts.filter (canSelect s)).map .entrySelection
  ++ (allLinks.filter fun k => (endDue k s).isSome).map .endMarker
  ++ when (drainDue s) .holdDrainMove
  ++ when (usageFrameDue s) .usageFrameBuild
  ++ when (sweepDue s) .sweepVisit
  ++ when ((summaryDue s).isSome && s.urqRoom) .periodSummary

/-- A deadline that is set and reached. -/
def State.due (s : State) (d : Option Time) : Bool := d.any s.reached

/-- The deadlines that are due now (section 1.9). -/
def dueDeadlines (s : State) : List Instr :=
  when (s.reached s.me.nextBoundary) .epochBoundary
  ++ when (s.zu.pos.state == .fresh && s.due s.zu.pos.stale) .staleDeadline
  ++ when (s.zu.pos.state == .stale && s.due s.zu.pos.lost) .lostDeadline
  ++ (allLinks.filter fun k => (s.link k).health != .off && s.due (s.link k).probeAt).map .probeTime
  ++ when (s.due s.cs.grace) .graceExpiry
  ++ when (s.reached s.cs.nextHeartbeat) .heartbeatTime
  ++ (allRus.filter fun r => (s.ru r).state == .alive && s.due (s.ru r).deadline).map .livenessDeadline

/-- The route clock advances by one microsecond (R23). -/
def tick (s : State) : State := { s with me := { s.me with clock := timeAfter s.me.clock 1 } }

/-- The part with no command waiting: held in reset it does nothing (R183). -/
def idle (s : State) : State :=
  if s.resetHeld then s
  else match readyWork s ++ dueDeadlines s with
    | [] => tick s
    | is => { s with pending := is }

end Sys2Proof.Machine
end

