-- ==== Sys2Proof/Machine/Requests.lean ====
section
/-! DEFINITION. A request as its frame spells it: the argument items each command takes (R186), the
arguments read from them, and ME's answer to a command code with its items (R173). -/

namespace Sys2Proof.Machine

/-! ## The arguments of each command (R186) -/

/-- Identifiers `first` on, required, of the sizes given. -/
def fixedArgs : (first : Nat) → List Nat → List ArgForm
  | _, [] => []
  | k, n :: ns => fixedArg k n :: fixedArgs (k + 1) ns

/-- The arguments of Create Context; the last three may be left out for a POSTPAID account. -/
def createForms (postpaid : Bool) : List ArgForm :=
  fixedArgs 1 [4, 1, 1, 1] ++ [setArg 5 15] ++ fixedArgs 6 [1, 1, 4]
  ++ [⟨9, true, 8, postpaid⟩, ⟨10, true, 8, postpaid⟩, ⟨11, true, 1, postpaid⟩]

/-- The arguments of a command, but for those of Configure; `xs` are the items given, whose account says
which arguments Create Context may leave out. -/
def argForms (xs : List Item) : Command → List ArgForm
  | .readStatus | .readEvents | .readCounters | .closePeriod | .reloadZone | .cancelStage | .openAttach
  | .configure => []
  | .readContext => fixedArgs 1 [2]
  | .findContext => fixedArgs 1 [4]
  | .readZone | .readLink | .readRadioUnit | .disarmWaypoint | .setFloor | .reset => fixedArgs 1 [1]
  | .createContext => createForms (itemNat 6 xs == 1)
  | .modifyContext =>
    fixedArgs 1 [2, 2] ++ [optArg 3 1, optArg 4 1, optArg 5 1, optSetArg 6 15, optArg 7 8, optArg 8 1]
  | .suspendContext | .resumeContext | .releaseContext => fixedArgs 1 [2, 2]
  | .topUp => fixedArgs 1 [2, 2, 8, 4]
  | .positionReport => fixedArgs 1 [4, 2, 1, 8]
  | .writeZone => fixedArgs 1 [1, 1, 4, 4, 2, 1, 1, 1, 1, 1, 8] ++ [setArg 12 8]
  | .armWaypoint => fixedArgs 1 [1, 4, 1, 1]
  | .writeLink => fixedArgs 1 [1, 1, 1, 1, 2, 6, 2, 1, 1, 4, 1, 1, 1, 1, 4, 4, 4]
  | .stageLink => fixedArgs 1 [1, 1]
  | .setFailoverOrder => [setArg 1 8]
  | .writeRadioUnit => fixedArgs 1 [1, 1, 1, 6]
  | .clearEvents => [setArg 1 16]

/-! ## The items of Configure (R175, R186) -/

/-- The identifiers that take selector and value pairs: rows 5 and 16 of R175 (log entry 12). -/
def isPairId (id : Nat) : Bool := id == 5 || id == 16

/-- The sizes a Configure item of an identifier may have. -/
def configureSizeOk (i : Item) : Bool :=
  match i.id.toNat with
  | 1 | 6 | 7 | 8 | 9 | 10 | 11 => i.value.length == 4
  | 2 | 12 => i.value.length == 2
  | 3 | 4 => i.value.length == 0 || i.value.length == 7
  | 5 | 13 | 14 | 15 | 16 => i.value.length == 1
  | _ => false

/-- The items of one identifier, in their order. -/
def itemsOf (id : Nat) (xs : List Item) : List Item := xs.filter fun i => i.id.toNat == id

/-- Check 4 of R173 for Configure: known identifiers and sizes, none twice but in the pairs, and every
pair whole (R186). -/
def configureItemsOk (xs : List Item) : Bool :=
  xs.all configureSizeOk
  && decide (((xs.filter fun i => !isPairId i.id.toNat).map fun i => i.id).Nodup)
  && (itemsOf 5 xs).length % 2 == 0 && (itemsOf 16 xs).length % 2 == 0

/-- The first byte of an item's value. -/
def Item.byte (i : Item) : Byte := i.value.headD 0

/-- Selector and value, pair by pair. -/
def pairsOf : List Item → List PairArg
  | a :: b :: rest => ⟨Item.byte a, Item.byte b⟩ :: pairsOf rest
  | _ => []

/-- A destination item: none of size 0, else the port and the address (R186). -/
def destArg (id : Nat) (xs : List Item) : Option (Option DestArg) :=
  match itemValue id xs with
  | none => none
  | some [] => some none
  | some (p :: a) => some (some ⟨p, BitVec.ofNat 48 (ofBytes a)⟩)

/-- A number of a given width in an optional item. -/
def bits? (w id : Nat) (xs : List Item) : Option (BitVec w) := (itemNat? id xs).map (BitVec.ofNat w)

/-- A number of a given width in an item. -/
def bits (w id : Nat) (xs : List Item) : BitVec w := BitVec.ofNat w (itemNat id xs)

/-- The members of a set or list item. -/
def members (id : Nat) (xs : List Item) : List Byte := (itemValue id xs).getD []

/-- The arguments of a Configure. -/
def configureArgs (xs : List Item) : ConfigureArgs where
  epochLength := bits? 32 1 xs
  frameType := bits? 16 2 xs
  noticeDest := destArg 3 xs
  collector := destArg 4 xs
  access := pairsOf (itemsOf 5 xs)
  staleTimeout := bits? 32 6 xs
  lostTimeout := bits? 32 7 xs
  ruTimeout := bits? 32 8 xs
  heartbeatInterval := bits? 32 9 xs
  graceTime := bits? 32 10 xs
  holdAge := bits? 32 11 xs
  maxStep := bits? 16 12 xs
  confirmCount := bits? 8 13 xs
  limitedFloor := bits? 8 14 xs
  noticeFloor := bits? 8 15 xs
  eventLevels := pairsOf (itemsOf 16 xs)

/-! ## The arguments of the other commands -/

/-- Index and incarnation, the first two arguments of every command that names a context. -/
def nameArg (xs : List Item) : CtxName := ⟨bits 16 1 xs, bits 16 2 xs⟩

def createArgs (xs : List Item) : CreateArgs where
  bearerId := bits 32 1 xs
  cls := bits 8 2 xs
  plan := bits 8 3 xs
  homeRealm := bits 8 4 xs
  roamSet := members 5 xs
  account := bits 8 6 xs
  servingRu := bits 8 7 xs
  allowance := bits 32 8 xs
  balance := bits 64 9 xs
  lowThreshold := bits 64 10 xs
  limitMode := bits 8 11 xs

def modifyArgs (xs : List Item) : ModifyArgs where
  cls := bits? 8 3 xs
  plan := bits? 8 4 xs
  homeRealm := bits? 8 5 xs
  roamSet := itemValue 6 xs
  lowThreshold := bits? 64 7 xs
  limitMode := bits? 8 8 xs

def positionArgs (xs : List Item) : PositionArgs where
  a := bits 32 1 xs
  x := bits 16 2 xs
  quality := bits 8 3 xs
  fixTime := bits 64 4 xs

/-- The four rates of a descriptor, plan 0 first, two bytes each (R186). -/
def ratesOf (bs : List Byte) : Vector (BitVec 16) 4 :=
  Vector.ofFn fun i => BitVec.ofNat 16 (ofBytes ((bs.drop (2 * i.val)).take 2))

def zoneArgs (xs : List Item) : ZoneArgs where
  index := bits 8 1 xs
  present := bits 8 2 xs
  start := bits 32 3 xs
  length := bits 32 4 xs
  crossLimit := bits 16 5 xs
  kind := bits 8 6 xs
  realm := bits 8 7 xs
  permit := bits 8 8 xs
  entryKind := bits 8 9 xs
  admission := bits 8 10 xs
  rates := ratesOf (members 11 xs)
  linkMask := members 12 xs

def waypointArgs (xs : List Item) : WaypointArgs where
  comparator := bits 8 1 xs
  value := bits 32 2 xs
  direction := bits 8 3 xs
  action := bits 8 4 xs

def linkArgs (xs : List Item) : LinkArgs where
  index := bits 8 1 xs
  enabled := bits 8 2 xs
  shorePort := bits 8 3 xs
  kind := bits 8 4 xs
  anchorId := bits 16 5 xs
  anchorAddr := bits 48 6 xs
  multiplier := bits 16 7 xs
  upFloor := bits 8 8 xs
  impairedFloor := bits 8 9 xs
  probeInterval := bits 32 10 xs
  upCount := bits 8 11 xs
  downCount := bits 8 12 xs
  impairLoss := bits 8 13 xs
  recoverLoss := bits 8 14 xs
  rttLimit := bits 32 15 xs
  rttRecover := bits 32 16 xs
  startSeq := bits 32 17 xs

def ruArgs (xs : List Item) : RuArgs where
  index := bits 8 1 xs
  configured := bits 8 2 xs
  cellPort := bits 8 3 xs
  addr := bits 48 4 xs

/-- Reset: COLD, WARM, or refused (R182). -/
def reset (p : Port) (kind : Byte) (s : State) : Reply × State :=
  match kind.toNat with
  | 0 => resetCold p s
  | 1 => resetWarm s
  | _ => refused .badArgument s

/-! ## A command code with its items -/

/-- Check 4 of R173 on the items of a command. -/
def argsOk (cmd : Command) (xs : List Item) : Bool :=
  match cmd with
  | .configure => configureItemsOk xs
  | _ => itemsMeet (argForms xs cmd) xs

/-- What a command does with its items: its own checks and changes. -/
def bodyOf (p : Port) (xs : List Item) : Command → State → Reply × State
  | .readStatus => readStatus
  | .readContext => readContext (bits 16 1 xs)
  | .findContext => findContext (bits 32 1 xs)
  | .readZone => readZone (bits 8 1 xs)
  | .readLink => readLink (bits 8 1 xs)
  | .readRadioUnit => readRadioUnit (bits 8 1 xs)
  | .readEvents => readEvents
  | .readCounters => readCounters
  | .createContext => createContext (createArgs xs)
  | .modifyContext => modifyContext (nameArg xs) (modifyArgs xs)
  | .suspendContext => suspendContext (nameArg xs)
  | .resumeContext => resumeContext (nameArg xs)
  | .topUp => topUp (nameArg xs) (bits 64 3 xs) (bits 32 4 xs)
  | .releaseContext => releaseContext (nameArg xs)
  | .closePeriod => closePeriod
  | .positionReport => positionReport (positionArgs xs)
  | .writeZone => writeZone (zoneArgs xs)
  | .reloadZone => reloadZone
  | .armWaypoint => armWaypoint (waypointArgs xs)
  | .disarmWaypoint => disarmWaypoint (bits 8 1 xs)
  | .writeLink => writeLink (linkArgs xs)
  | .stageLink => stageLink (bits 8 1 xs) (bits 8 2 xs)
  | .cancelStage => cancelStage
  | .setFailoverOrder => setFailoverOrder (members 1 xs)
  | .writeRadioUnit => writeRadioUnit (ruArgs xs)
  | .setFloor => setFloor (bits 8 1 xs)
  | .openAttach => openAttach
  | .configure => configure (configureArgs xs)
  | .clearEvents => clearEvents (members 1 xs)
  | .reset => reset p (bits 8 1 xs)

/-- A request that reaches ME with a command code: an unknown code is refused BAD_COMMAND with the code
repeated (check 1 of R173, R186), a known one goes on to the other checks. -/
def meRequest (rq : Request) (code : Byte) (xs : List Item) (s : State) : State :=
  match commandOf code with
  | none => respond rq code (.refuse .badCommand) s
  | some cmd =>
    handle { rq with itemsOk := rq.itemsOk && argsOk cmd xs } cmd (bodyOf rq.port xs cmd) s

end Sys2Proof.Machine
end

