-- ==== Sys2Proof/Machine/Commands.lean ====
section
/-! DEFINITION. The meanings of the commands that are requests of R174: each arrives on a port, passes the
access test of R5 and the checks of R173, and is taken by its own rule (rows READ_STATUS to RESET_COLD). -/

namespace Sys2Proof.Machine

/-- READ_STATUS (R176). -/
def execReadStatus (rq : Request) (s : State) : Host.Outcome State Fault Refusal :=
  .next (ask rq .readStatus readStatus s)

/-- READ_CONTEXT (R37). -/
def execReadContext (rq : Request) (index : Num16) (s : State) : Host.Outcome State Fault Refusal :=
  .next (ask rq .readContext (readContext index) s)

/-- FIND_CONTEXT (R36). -/
def execFindContext (rq : Request) (bearerId : Num32) (s : State) : Host.Outcome State Fault Refusal :=
  .next (ask rq .findContext (findContext bearerId) s)

/-- READ_ZONE (R60). -/
def execReadZone (rq : Request) (index : Byte) (s : State) : Host.Outcome State Fault Refusal :=
  .next (ask rq .readZone (readZone index) s)

/-- READ_LINK (R121). -/
def execReadLink (rq : Request) (index : Byte) (s : State) : Host.Outcome State Fault Refusal :=
  .next (ask rq .readLink (readLink index) s)

/-- READ_RADIO_UNIT (R169). -/
def execReadRadioUnit (rq : Request) (index : Byte) (s : State) : Host.Outcome State Fault Refusal :=
  .next (ask rq .readRadioUnit (readRadioUnit index) s)

/-- READ_EVENTS (R180). -/
def execReadEvents (rq : Request) (s : State) : Host.Outcome State Fault Refusal :=
  .next (ask rq .readEvents readEvents s)

/-- READ_COUNTERS (R177). -/
def execReadCounters (rq : Request) (s : State) : Host.Outcome State Fault Refusal :=
  .next (ask rq .readCounters readCounters s)

/-- CREATE_CONTEXT (R30, R31). -/
def execCreateContext (rq : Request) (args : CreateArgs) (s : State) :
    Host.Outcome State Fault Refusal :=
  .next (ask rq .createContext (createContext args) s)

/-- MODIFY_CONTEXT (R29, R32, R33). -/
def execModifyContext (rq : Request) (name : CtxName) (args : ModifyArgs) (s : State) :
    Host.Outcome State Fault Refusal :=
  .next (ask rq .modifyContext (modifyContext name args) s)

/-- SUSPEND_CONTEXT (R29, R34). -/
def execSuspendContext (rq : Request) (name : CtxName) (s : State) : Host.Outcome State Fault Refusal :=
  .next (ask rq .suspendContext (suspendContext name) s)

/-- RESUME_CONTEXT (R29, R35). -/
def execResumeContext (rq : Request) (name : CtxName) (s : State) : Host.Outcome State Fault Refusal :=
  .next (ask rq .resumeContext (resumeContext name) s)

/-- TOP_UP (R29, R93, R94). -/
def execTopUp (rq : Request) (name : CtxName) (money : BitVec 64) (allowance : BitVec 32) (s : State) :
    Host.Outcome State Fault Refusal :=
  .next (ask rq .topUp (topUp name money allowance) s)

/-- RELEASE_CONTEXT (R29, R38). -/
def execReleaseContext (rq : Request) (name : CtxName) (s : State) : Host.Outcome State Fault Refusal :=
  .next (ask rq .releaseContext (releaseContext name) s)

/-- CLOSE_PERIOD (R108). -/
def execClosePeriod (rq : Request) (s : State) : Host.Outcome State Fault Refusal :=
  .next (ask rq .closePeriod closePeriod s)

/-- POSITION_REPORT (R46 to R49). -/
def execPositionReport (rq : Request) (args : PositionArgs) (s : State) :
    Host.Outcome State Fault Refusal :=
  .next (ask rq .positionReport (positionReport args) s)

/-- WRITE_ZONE (R59). -/
def execWriteZone (rq : Request) (args : ZoneArgs) (s : State) : Host.Outcome State Fault Refusal :=
  .next (ask rq .writeZone (writeZone args) s)

/-- RELOAD_ZONE (R61). -/
def execReloadZone (rq : Request) (s : State) : Host.Outcome State Fault Refusal :=
  .next (ask rq .reloadZone reloadZone s)

/-- ARM_WAYPOINT (R62). -/
def execArmWaypoint (rq : Request) (args : WaypointArgs) (s : State) :
    Host.Outcome State Fault Refusal :=
  .next (ask rq .armWaypoint (armWaypoint args) s)

/-- DISARM_WAYPOINT (R62). -/
def execDisarmWaypoint (rq : Request) (comparator : Byte) (s : State) :
    Host.Outcome State Fault Refusal :=
  .next (ask rq .disarmWaypoint (disarmWaypoint comparator) s)

/-- WRITE_LINK (R119, R120). -/
def execWriteLink (rq : Request) (args : LinkArgs) (s : State) : Host.Outcome State Fault Refusal :=
  .next (ask rq .writeLink (writeLink args) s)

/-- STAGE_LINK (R139 to R141). -/
def execStageLink (rq : Request) (link : Byte) (trigger : Byte) (s : State) :
    Host.Outcome State Fault Refusal :=
  .next (ask rq .stageLink (stageLink link trigger) s)

/-- CANCEL_STAGE (R142). -/
def execCancelStage (rq : Request) (s : State) : Host.Outcome State Fault Refusal :=
  .next (ask rq .cancelStage cancelStage s)

/-- SET_FAILOVER_ORDER (R143). -/
def execSetFailoverOrder (rq : Request) (order : List Byte) (s : State) :
    Host.Outcome State Fault Refusal :=
  .next (ask rq .setFailoverOrder (setFailoverOrder order) s)

/-- WRITE_RADIO_UNIT (R167). -/
def execWriteRadioUnit (rq : Request) (args : RuArgs) (s : State) : Host.Outcome State Fault Refusal :=
  .next (ask rq .writeRadioUnit (writeRadioUnit args) s)

/-- SET_FLOOR (R164). -/
def execSetFloor (rq : Request) (floor : Byte) (s : State) : Host.Outcome State Fault Refusal :=
  .next (ask rq .setFloor (setFloor floor) s)

/-- OPEN_ATTACH (R75, R76). -/
def execOpenAttach (rq : Request) (s : State) : Host.Outcome State Fault Refusal :=
  .next (ask rq .openAttach openAttach s)

/-- CONFIGURE (R175). -/
def execConfigure (rq : Request) (args : ConfigureArgs) (s : State) :
    Host.Outcome State Fault Refusal :=
  .next (ask rq .configure (configure args) s)

/-- CLEAR_EVENTS (R181). -/
def execClearEvents (rq : Request) (kinds : List Byte) (s : State) : Host.Outcome State Fault Refusal :=
  .next (ask rq .clearEvents (clearEvents kinds) s)

/-- RESET_WARM (R182, R184). -/
def execResetWarm (rq : Request) (s : State) : Host.Outcome State Fault Refusal :=
  .next (ask rq .reset resetWarm s)

/-- RESET_COLD (R182). -/
def execResetCold (rq : Request) (s : State) : Host.Outcome State Fault Refusal :=
  .next (ask rq .reset (resetCold rq.port) s)

end Sys2Proof.Machine
end

