-- ==== Sys2Proof/Machine/Layout.lean ====
section
/-! DEFINITION. The byte layouts of chapter 11 (R185 to R187): the frame a port's line carries, byte by
byte, and the reading of a frame that arrives. -/

namespace Sys2Proof.Machine

/-! ## Frames the part sends -/

/-- The JZ header: version 1, kind code, JZ length (R185). -/
def jzHeader (kind length : Nat) : List Byte := byte 1 ++ byte kind ++ beBytes 2 length

/-- A JZ frame of a kind: header and body, whose lengths make the JZ length (R185). -/
def jzFrame (kind : Nat) (body : List Byte) : List Byte := jzHeader kind (4 + body.length) ++ body

def bearerKindCode : BearerKind → Nat
  | .bearer => 1
  | .signal => 2

/-- The JZ frame of a bearer frame: bearer header and payload (R185). -/
def bearerJz (f : BearerFrame) : List Byte :=
  jzFrame (bearerKindCode f.kind) (beBytes 4 f.bearerId.toNat ++ beBytes 2 f.payload.length ++ f.payload)

/-- The link header (R185). -/
def linkHeader (anchorId : Num16) (sequence : Num32) : List Byte :=
  beBytes 2 anchorId.toNat ++ beBytes 4 sequence.toNat

/-- Byte 12 to 18 of a SWITCH marker: the old link, and whether the switch lost it (R185). -/
def oldLinkBytes (old : Option (Num16 × Num32)) (lost : Bool) : List Byte :=
  match old with
  | none => byte 0 ++ beBytes 2 0 ++ beBytes 4 0
  | some (a, n) => byte (if lost then 2 else 1) ++ beBytes 2 a.toNat ++ beBytes 4 n.toNat

/-- Bytes 13 and 14 to 21 of a bearer notice: realm, and generation or balance (R185). -/
def noticeDetail : BearerNotice → List Byte
  | .barred realm gen => byte realm.val ++ beBytes 6 0 ++ beBytes 2 gen.toNat
  | .exhausted b | .lowBalance b => byte 0 ++ beInt64 b
  | .suspended | .resumed | .released => byte 0 ++ beBytes 8 0

/-- An item: identifier, size, value (R186). -/
def itemBytes (i : Item) : List Byte := i.id :: byte i.value.length ++ i.value

/-- The detail of a NOTICE: packed from byte 14, the rest 0 (R186). -/
def detailField (d : Option Detail) : List Byte :=
  detailBytes d ++ List.replicate (8 - (detailBytes d).length) 0

/-- A usage record, 90 bytes (R187). -/
def recordBytes (r : UrqRecord) : List Byte :=
  byte r.body.kind.code ++ byte r.body.plan.val ++ byte r.body.zoneIx.val ++ byte r.body.realm.val
  ++ beBytes 4 r.body.period.toNat ++ beBytes 4 r.number.toNat ++ beBytes 2 r.body.ctx.val
  ++ beBytes 2 r.body.incarnation.toNat ++ beBytes 4 r.body.bearerId.toNat
  ++ beBytes 2 r.body.zoneGen.toNat ++ beBytes 8 r.body.start.toNat ++ beBytes 8 r.body.stop.toNat
  ++ beBytes 8 r.body.up.toNat ++ beBytes 8 r.body.down.toNat ++ beBytes 8 r.body.free.toNat
  ++ beBytes 8 r.body.frames.toNat ++ beBytes 8 r.body.charge.toNat ++ beInt64 r.body.balanceAfter
  ++ beBytes 4 r.body.remainder

/-- The JZ frame of a control frame (R185 to R187). -/
def controlJz : ControlBody → List Byte
  | .probe a n t => jzFrame 4 (linkHeader a 0 ++ beBytes 2 n.toNat ++ beBytes 8 t.toNat)
  | .switchMarker a n old lost => jzFrame 6 (linkHeader a 0 ++ beBytes 2 n.toNat ++ oldLinkBytes old lost)
  | .endMarker _ a n last => jzFrame 7 (linkHeader a 0 ++ beBytes 2 n.toNat ++ beBytes 4 last.toNat)
  | .backhaulStatus l g r f k gen t =>
    jzFrame 9 (byte l.code ++ byte g.code ++ byte r.val ++ byte f.val ++ byte (linkKindCode k)
      ++ beBytes 2 gen.toNat ++ beBytes 8 t.toNat)
  | .bearerNotice n id i inc =>
    jzFrame 10 (byte n.code ++ beBytes 4 id.toNat ++ beBytes 2 i.val ++ beBytes 2 inc.toNat
      ++ noticeDetail n)
  | .response tag code st rs _ =>
    jzFrame 12 (beBytes 2 tag.toNat ++ [code] ++ byte st.code ++ rs.flatMap itemBytes)
  | .notice k l t d => jzFrame 13 (byte k.ix.val ++ byte l.val ++ beBytes 8 t.toNat ++ detailField d)
  | .usage rs => jzFrame 14 (byte rs.length ++ rs.flatMap recordBytes)

/-- The JZ frame a line carries: a LINK frame around an uplink bearer frame, or the frame itself (R185). -/
def Carried.jz : Carried → List Byte
  | .bare e => bearerJz e.frame
  | .link a n e => jzFrame 3 (linkHeader a n ++ bearerJz e.frame)
  | .control c => controlJz c

/-- Padding with zero bytes to 60 bytes (R185). -/
def padFrame (bs : List Byte) : List Byte := bs ++ List.replicate (60 - bs.length) 0

/-- The whole Ethernet frame before its frame check sequence (R185). -/
def Wire.bytes (w : Wire) : List Byte :=
  padFrame (beBytes 6 w.dst.toNat ++ beBytes 6 w.src.toNat ++ beBytes 2 w.frameType.toNat ++ w.carried.jz)

/-! ## Frames that arrive -/

/-- What an accepted frame is (R3, R5). -/
inductive Arrival where
  | bearer (src : Addr) (f : BearerFrame)
  | link (src : Addr) (anchorId : Num16) (sequence : Num32) (f : BearerFrame)
  | echo (src : Addr) (anchorId : Num16) (sequence : Num32) (number : Num16) (sendTime : Time)
  | radioStatus (src : Addr) (attached : BitVec 16)
  | request (src : Addr) (tag : Num16) (code : Byte) (argBytes : List Byte)
  deriving DecidableEq, Repr

/-- The JZ frame of something that may arrive (R185, R186). -/
def Arrival.jz : Arrival → List Byte
  | .bearer _ f => bearerJz f
  | .link _ a n f => jzFrame 3 (linkHeader a n ++ bearerJz f)
  | .echo _ a n k t => jzFrame 5 (linkHeader a n ++ beBytes 2 k.toNat ++ beBytes 8 t.toNat)
  | .radioStatus _ n => jzFrame 8 (beBytes 2 n.toNat)
  | .request _ tag code bs => jzFrame 11 (beBytes 2 tag.toNat ++ [code] ++ bs)

/-- The source address of a frame. -/
def Arrival.src : Arrival → Addr
  | .bearer src _ => src
  | .link src _ _ _ => src
  | .echo src _ _ _ _ => src
  | .radioStatus src _ => src
  | .request src _ _ _ => src

/-- The whole frame as its sender lays it out, to a destination and under a frame type (R185). -/
def Arrival.frame (ft : BitVec 16) (dst : Addr) (a : Arrival) : List Byte :=
  padFrame (beBytes 6 dst.toNat ++ beBytes 6 a.src.toNat ++ beBytes 2 ft.toNat ++ a.jz)

/-- The number in the `n` bytes of a frame from byte `i` on. -/
def field (bs : List Byte) (i n : Nat) : Nat := ofBytes ((bs.drop i).take n)

/-- A bearer frame read from its JZ frame, whose bytes are all of `bs` (checks 3 and 6 of R4): version 1,
kind BEARER or SIGNAL, JZ length all of it, payload length 10 less, bearer ID not 0, at most 9,000. -/
def readBearer (bs : List Byte) : Option BearerFrame :=
  let kind := match field bs 1 1 with
    | 1 => some BearerKind.bearer
    | 2 => some BearerKind.signal
    | _ => none
  match kind with
  | none => none
  | some k =>
    if bs.length < 10 ∨ field bs 0 1 ≠ 1 ∨ field bs 2 2 ≠ bs.length ∨ field bs 8 2 ≠ bs.length - 10
        ∨ bs.length - 10 > 9000 ∨ field bs 4 4 = 0 then none
    else some { kind := k, bearerId := BitVec.ofNat 32 (field bs 4 4), payload := bs.drop 10 }

/-- A JZ frame accepted on a side, by kind (checks 5 and 6 of R4, R3): on the cell side BEARER, SIGNAL,
RADIO_STATUS and REQUEST, on the shore side LINK, ECHO and REQUEST; ECHO and RADIO_STATUS have fixed JZ
lengths (R185). -/
def readJz (p : Port) (src : Addr) (jz : List Byte) : Option Arrival :=
  match p, field jz 1 1 with
  | _, 11 =>
    if jz.length < 7 then none
    else some (.request src (BitVec.ofNat 16 (field jz 4 2)) (BitVec.ofNat 8 (field jz 6 1)) (jz.drop 7))
  | .cell _, 1 | .cell _, 2 => (readBearer jz).map fun f => .bearer src f
  | .cell _, 8 =>
    if jz.length = 6 then some (.radioStatus src (BitVec.ofNat 16 (field jz 4 2))) else none
  | .shore _, 3 =>
    (readBearer (jz.drop 10)).map fun f =>
      .link src (BitVec.ofNat 16 (field jz 4 2)) (BitVec.ofNat 32 (field jz 6 4)) f
  | .shore _, 5 =>
    if jz.length = 20 then
      some (.echo src (BitVec.ofNat 16 (field jz 4 2)) (BitVec.ofNat 32 (field jz 6 4))
        (BitVec.ofNat 16 (field jz 10 2)) (BitVec.ofNat 64 (field jz 12 8)))
    else none
  | _, _ => none

/-- Check 4 of R4: the JZ length is the received length less 14, or, at exactly 60 bytes, at most that
(R185). -/
def lengthAgrees (received jz : Nat) : Bool :=
  jz + 14 == received || (received == 60 && decide (jz + 14 ≤ received))

/-- The intake checks of R4 on a frame as received on port `p`, with frame type `ft` in force: what the
frame is, or none where a check fails. -/
def intake (ft : BitVec 16) (p : Port) (bs : List Byte) : Option Arrival :=
  if bs.length < 18 ∨ field bs 12 2 ≠ ft.toNat ∨ bs.length > 9216 ∨ field bs 14 1 ≠ 1
      ∨ lengthAgrees bs.length (field bs 16 2) = false then none
  else readJz p (BitVec.ofNat 48 (field bs 6 6)) ((bs.drop 14).take (field bs 16 2))

end Sys2Proof.Machine
end

