-- ==== Sys2Proof/Machine/Intake.lean ====
section
/-! DEFINITION. A frame as its bytes arrive: the intake checks of R4, and the passing on by kind of R5. -/

namespace Sys2Proof.Machine

/-- A request frame whose item bytes are `bs`; bytes that end inside an item are refused at check 4
(log entry 13). -/
def requestBytes (p : Port) (src : Addr) (tag : Num16) (code : Byte) (bs : List Byte) (s : State) : State :=
  let xs := splitItems bs.length bs
  let rq : Request := ⟨p, src, tag, xs.isSome⟩
  admitRequest rq (meRequest rq code (xs.getD [])) s

/-- An accepted frame is passed on by kind (R5). The intake checks leave a kind only on a side that accepts
it (R3), so the last row is not reached. -/
def passOn (p : Port) (a : Arrival) (s : State) : State :=
  match a, p with
  | .bearer src f, .cell i => bearerIn i src f s
  | .radioStatus src n, .cell i => radioStatusIn i src n s
  | .link _ anchorId _ f, .shore i => linkFrameIn i anchorId f s
  | .echo _ anchorId _ n _, .shore i => echoIn i anchorId n s
  | .request src tag code bs, p => requestBytes p src tag code bs s
  | _, p => drop .badFrame (arrivalDir p) s

/-- The bytes of a frame arrive on a port: dropped BAD_FRAME where a check of R4 fails, else passed on. -/
def takeIn (p : Port) (bs : List Byte) (s : State) : State :=
  match intake s.me.frameType p bs with
  | none => drop .badFrame (arrivalDir p) s
  | some a => passOn p a s

end Sys2Proof.Machine
end

