-- ==== Sys2Proof/Machine/Frames.lean ====
section
/-! DEFINITION. The meanings of the commands that are frames arriving on a port, and of a request with a
command code (rows BAD_FRAME to BAD_COMMAND of the opcode table). -/

namespace Sys2Proof.Machine

/-- BAD_FRAME: the bytes of a frame arrive and go through the intake checks (R4, R5). -/
def execBadFrame (port : Port) (bytes : List Byte) (s : State) : Host.Outcome State Fault Refusal :=
  .next (arrive port (takeIn port bytes) s)

/-- BEARER_UPLINK_INTAKE (R6, R8 to R12, R41). -/
def execBearerUplinkIntake (port : Fin 4) (src : Addr) (frame : BearerFrame) (s : State) :
    Host.Outcome State Fault Refusal :=
  .next (arrive (.cell port) (bearerIn port src frame) s)

/-- LINK_FRAME_INTAKE (R7 to R10, R13). The source address is not compared and the sequence number not
tested (R7). -/
def execLinkFrameIntake (port : Fin 4) (_src : Addr) (anchorId : Num16) (_sequence : Num32)
    (inner : BearerFrame) (s : State) : Host.Outcome State Fault Refusal :=
  .next (arrive (.shore port) (linkFrameIn port anchorId inner) s)

/-- ECHO (R7, R124). Of its body only the probe number is read (R185). -/
def execEcho (port : Fin 4) (_src : Addr) (anchorId : Num16) (_sequence : Num32) (probeNumber : Num16)
    (_sendTime : Time) (s : State) : Host.Outcome State Fault Refusal :=
  .next (arrive (.shore port) (echoIn port anchorId probeNumber) s)

/-- RADIO_STATUS (R6, R168). -/
def execRadioStatus (port : Fin 4) (src : Addr) (attached : BitVec 16) (s : State) :
    Host.Outcome State Fault Refusal :=
  .next (arrive (.cell port) (radioStatusIn port src attached) s)

/-- BAD_COMMAND: a request with a command code that R174 does not know is refused; a code it knows is
handled as that command's request (R173, R186). -/
def execBadCommand (rq : Request) (code : Byte) (items : List Item) (s : State) :
    Host.Outcome State Fault Refusal :=
  .next (arrive rq.port (admitRequest rq (meRequest rq code items)) s)

end Sys2Proof.Machine
end

