-- ==== Sys2Proof/Machine/Steps.lean ====
section
/-! DEFINITION. The meanings of the commands that come from the route clock, from the lines and pins, and
from the part's own conditions (rows COLD_RESET to RESET_INPUT_ASSERTED). One whose condition does not hold
does nothing (log entry 1). While the reset input is held asserted nothing happens but what comes from the
lines and the pin itself (R183). -/

namespace Sys2Proof.Machine

/-- COLD_RESET (R183). -/
def execColdReset (cause : ColdCause) (s : State) : Host.Outcome State Fault Refusal :=
  .next (coldReset cause s)

/-- EPOCH_BOUNDARY (R24). -/
def execEpochBoundary (s : State) : Host.Outcome State Fault Refusal := .next (unlessHeld epochBoundary s)

/-- STALE_DEADLINE (R50). -/
def execStaleDeadline (s : State) : Host.Outcome State Fault Refusal := .next (unlessHeld staleDeadline s)

/-- LOST_DEADLINE (R51). -/
def execLostDeadline (s : State) : Host.Outcome State Fault Refusal := .next (unlessHeld lostDeadline s)

/-- PROBE_TIME (R122). -/
def execProbeTime (link : LinkIx) (s : State) : Host.Outcome State Fault Refusal :=
  .next (unlessHeld (probeTime link) s)

/-- GRACE_EXPIRY (R160). -/
def execGraceExpiry (s : State) : Host.Outcome State Fault Refusal := .next (unlessHeld graceExpiry s)

/-- HEARTBEAT_TIME (R165). -/
def execHeartbeatTime (s : State) : Host.Outcome State Fault Refusal := .next (unlessHeld heartbeatTime s)

/-- LIVENESS_DEADLINE (R168). -/
def execLivenessDeadline (ru : RuIx) (s : State) : Host.Outcome State Fault Refusal :=
  .next (unlessHeld (livenessDeadline ru) s)

/-- SHORE_CARRIER_DOWN (R1, R132). -/
def execShoreCarrierDown (port : Fin 4) (s : State) : Host.Outcome State Fault Refusal :=
  .next (shoreCarrierDown port s)

/-- SHORE_CARRIER_UP (R1, R132). -/
def execShoreCarrierUp (port : Fin 4) (s : State) : Host.Outcome State Fault Refusal :=
  .next (shoreCarrierUp port s)

/-- CELL_CARRIER_CHANGE (R1, R19). -/
def execCellCarrierChange (port : Fin 4) (up : Bool) (s : State) : Host.Outcome State Fault Refusal :=
  .next (cellCarrierChange port up s)

/-- ENTRY_SELECTION (R16 to R18). -/
def execEntrySelection (port : Port) (s : State) : Host.Outcome State Fault Refusal :=
  .next (unlessHeld (entrySelection port) s)

/-- TRANSMISSION_COMPLETION (R18). -/
def execTransmissionCompletion (port : Port) (s : State) : Host.Outcome State Fault Refusal :=
  .next (unlessHeld (transmissionCompletion port) s)

/-- USAGE_FRAME_BUILD (R105). -/
def execUsageFrameBuild (s : State) : Host.Outcome State Fault Refusal := .next (unlessHeld usageFrameBuild s)

/-- HOLD_DRAIN_MOVE (R158). -/
def execHoldDrainMove (s : State) : Host.Outcome State Fault Refusal := .next (unlessHeld holdDrainMove s)

/-- SWEEP_VISIT (R109, R110). -/
def execSweepVisit (s : State) : Host.Outcome State Fault Refusal := .next (unlessHeld sweepVisit s)

/-- PERIOD_SUMMARY (R111). -/
def execPeriodSummary (s : State) : Host.Outcome State Fault Refusal := .next (unlessHeld periodSummary s)

/-- END_MARKER (R149). -/
def execEndMarker (link : LinkIx) (s : State) : Host.Outcome State Fault Refusal :=
  .next (unlessHeld (placeEndMarker link) s)

/-- RESET_INPUT_ASSERTED (R183). -/
def execResetInputAsserted (s : State) : Host.Outcome State Fault Refusal := .next (resetInputAsserted s)

end Sys2Proof.Machine
end

