-- ==== Sys2Proof/Machine/Dispatch.lean ====
section
/-! DEFINITION. The dispatch of a command to its meaning, one arm for each row of opcode_table.json. -/

namespace Sys2Proof.Machine

/-- The effect of a command on everything but the queue of waiting commands. -/
def exec (i : Instr) (s : State) : Host.Outcome State Fault Refusal :=
  match i with
  | .badFrame port bytes => Sys2Proof.Machine.execBadFrame port bytes s
  | .bearerUplinkIntake port src frame => Sys2Proof.Machine.execBearerUplinkIntake port src frame s
  | .linkFrameIntake port src anchorId sequence inner => Sys2Proof.Machine.execLinkFrameIntake port src anchorId sequence inner s
  | .echo port src anchorId sequence probeNumber sendTime => Sys2Proof.Machine.execEcho port src anchorId sequence probeNumber sendTime s
  | .radioStatus port src attached => Sys2Proof.Machine.execRadioStatus port src attached s
  | .badCommand rq code items => Sys2Proof.Machine.execBadCommand rq code items s
  | .readStatus rq => Sys2Proof.Machine.execReadStatus rq s
  | .readContext rq index => Sys2Proof.Machine.execReadContext rq index s
  | .findContext rq bearerId => Sys2Proof.Machine.execFindContext rq bearerId s
  | .readZone rq index => Sys2Proof.Machine.execReadZone rq index s
  | .readLink rq index => Sys2Proof.Machine.execReadLink rq index s
  | .readRadioUnit rq index => Sys2Proof.Machine.execReadRadioUnit rq index s
  | .readEvents rq => Sys2Proof.Machine.execReadEvents rq s
  | .readCounters rq => Sys2Proof.Machine.execReadCounters rq s
  | .createContext rq args => Sys2Proof.Machine.execCreateContext rq args s
  | .modifyContext rq name args => Sys2Proof.Machine.execModifyContext rq name args s
  | .suspendContext rq name => Sys2Proof.Machine.execSuspendContext rq name s
  | .resumeContext rq name => Sys2Proof.Machine.execResumeContext rq name s
  | .topUp rq name money allowance => Sys2Proof.Machine.execTopUp rq name money allowance s
  | .releaseContext rq name => Sys2Proof.Machine.execReleaseContext rq name s
  | .closePeriod rq => Sys2Proof.Machine.execClosePeriod rq s
  | .positionReport rq args => Sys2Proof.Machine.execPositionReport rq args s
  | .writeZone rq args => Sys2Proof.Machine.execWriteZone rq args s
  | .reloadZone rq => Sys2Proof.Machine.execReloadZone rq s
  | .armWaypoint rq args => Sys2Proof.Machine.execArmWaypoint rq args s
  | .disarmWaypoint rq comparator => Sys2Proof.Machine.execDisarmWaypoint rq comparator s
  | .writeLink rq args => Sys2Proof.Machine.execWriteLink rq args s
  | .stageLink rq link trigger => Sys2Proof.Machine.execStageLink rq link trigger s
  | .cancelStage rq => Sys2Proof.Machine.execCancelStage rq s
  | .setFailoverOrder rq order => Sys2Proof.Machine.execSetFailoverOrder rq order s
  | .writeRadioUnit rq args => Sys2Proof.Machine.execWriteRadioUnit rq args s
  | .setFloor rq floor => Sys2Proof.Machine.execSetFloor rq floor s
  | .openAttach rq => Sys2Proof.Machine.execOpenAttach rq s
  | .configure rq args => Sys2Proof.Machine.execConfigure rq args s
  | .clearEvents rq kinds => Sys2Proof.Machine.execClearEvents rq kinds s
  | .resetWarm rq => Sys2Proof.Machine.execResetWarm rq s
  | .resetCold rq => Sys2Proof.Machine.execResetCold rq s
  | .coldReset cause => Sys2Proof.Machine.execColdReset cause s
  | .epochBoundary => Sys2Proof.Machine.execEpochBoundary s
  | .staleDeadline => Sys2Proof.Machine.execStaleDeadline s
  | .lostDeadline => Sys2Proof.Machine.execLostDeadline s
  | .probeTime link => Sys2Proof.Machine.execProbeTime link s
  | .graceExpiry => Sys2Proof.Machine.execGraceExpiry s
  | .heartbeatTime => Sys2Proof.Machine.execHeartbeatTime s
  | .livenessDeadline ru => Sys2Proof.Machine.execLivenessDeadline ru s
  | .shoreCarrierDown port => Sys2Proof.Machine.execShoreCarrierDown port s
  | .shoreCarrierUp port => Sys2Proof.Machine.execShoreCarrierUp port s
  | .cellCarrierChange port up => Sys2Proof.Machine.execCellCarrierChange port up s
  | .entrySelection port => Sys2Proof.Machine.execEntrySelection port s
  | .transmissionCompletion port => Sys2Proof.Machine.execTransmissionCompletion port s
  | .usageFrameBuild => Sys2Proof.Machine.execUsageFrameBuild s
  | .holdDrainMove => Sys2Proof.Machine.execHoldDrainMove s
  | .sweepVisit => Sys2Proof.Machine.execSweepVisit s
  | .periodSummary => Sys2Proof.Machine.execPeriodSummary s
  | .endMarker link => Sys2Proof.Machine.execEndMarker link s
  | .resetInputAsserted => Sys2Proof.Machine.execResetInputAsserted s

end Sys2Proof.Machine
end

