-- ==== Sys2Proof/WellFormed.lean ====
section
/-! DEFINITION. Which terms of `Instr` stand for something that can arrive: the limits R4, R185 and R186
put on frames, items, sets and lists. The machine answers an ill-formed term as well (it drops the frame
BAD_FRAME or refuses the request BAD_ARGUMENT), so no meaning rests on these checks. -/

namespace Sys2Proof

/-- Check 6 of R4: a bearer ID that is not 0 and a payload of at most 9,000 bytes. -/
def BearerFrame.wf (f : BearerFrame) : Bool :=
  f.bearerId != 0 && decide (f.payload.length ≤ 9000)

/-- An item's size is one byte (R186). -/
def Item.wf (i : Item) : Bool := decide (i.value.length ≤ 255)

/-- The limits R186 sets on sets and lists: 15 realms, 8 links, 16 event kinds. -/
def CreateArgs.wf (a : CreateArgs) : Bool := decide (a.roamSet.length ≤ 15)

def ModifyArgs.wf (a : ModifyArgs) : Bool :=
  match a.roamSet with
  | none => true
  | some r => decide (r.length ≤ 15)

def ZoneArgs.wf (a : ZoneArgs) : Bool := decide (a.linkMask.length ≤ 8)

/-- The frame or request can arrive as it is written. -/
def Instr.wf : Instr → Bool
  | .badFrame _ bytes => !bytes.isEmpty
  | .bearerUplinkIntake _ _ f => f.wf
  | .linkFrameIntake _ _ _ _ f => f.wf
  | .badCommand _ _ items => items.all Item.wf
  | .createContext _ a => a.wf
  | .modifyContext _ _ a => a.wf
  | .writeZone _ a => a.wf
  | .setFailoverOrder _ order => decide (order.length ≤ 8)
  | .clearEvents _ kinds => decide (kinds.length ≤ 16)
  | .echo .. | .radioStatus .. | .readStatus .. | .readContext .. | .findContext .. | .readZone ..
  | .readLink .. | .readRadioUnit .. | .readEvents .. | .readCounters .. | .suspendContext ..
  | .resumeContext .. | .topUp .. | .releaseContext .. | .closePeriod .. | .positionReport ..
  | .reloadZone .. | .armWaypoint .. | .disarmWaypoint .. | .writeLink .. | .stageLink ..
  | .cancelStage .. | .writeRadioUnit .. | .setFloor .. | .openAttach .. | .configure ..
  | .resetWarm .. | .resetCold .. | .coldReset .. | .epochBoundary | .staleDeadline | .lostDeadline
  | .probeTime .. | .graceExpiry | .heartbeatTime | .livenessDeadline .. | .shoreCarrierDown ..
  | .shoreCarrierUp .. | .cellCarrierChange .. | .entrySelection .. | .transmissionCompletion ..
  | .usageFrameBuild | .holdDrainMove | .sweepVisit | .periodSummary | .endMarker ..
  | .resetInputAsserted => true

end Sys2Proof
end

