-- ==== Sys2Proof/Safety.lean ====
section
/-! DEFINITION. What counts as a safe state, in the terms the statements use: the conditions under which a
frame arrives and a request is taken, and the invariants that the rules state of the whole part. -/

namespace Sys2Proof.Machine

/-! ## Conditions on a state and a command -/

/-- A frame on port `p` arrives: its carrier is UP (R1) and the part is not held in reset (R183). -/
def Receives (s : State) (p : Port) : Prop := s.resetHeld = false ∧ (s.port p).carrier = true

/-- A request of a known command passes the access test of R5 and checks 2 to 4 of R173. -/
def Passes (s : State) (rq : Request) (cmd : Command) : Prop :=
  Receives s rq.port ∧ cmd.level.code ≤ (s.access rq.port).code ∧ s.me.coldPending = .none
  ∧ rq.itemsOk = true

/-- The OK response to a request, offered after the changes `t` (R173). -/
def answerOk (rq : Request) (cmd : Command) (results : List Item) (t : State) : State :=
  respond rq (BitVec.ofNat 8 cmd.code) (.ok results) t

/-- The refusal of a request that changed nothing but what `t` holds (R173). -/
def answerNo (rq : Request) (cmd : Command) (status : Status) (t : State) : State :=
  respond rq (BitVec.ofNat 8 cmd.code) (.refuse status) t

/-- The state a frame that arrived on `p` is taken in: the port's received count has it (R22). -/
def State.got (s : State) (p : Port) : State := countReceived p s

/-- A refusal at intake, test by test, but for the realm test (R8, R9). -/
def RefusedAtIntake (s : State) (c : Context) (kind : BearerKind) : DropReason → Prop
  | .notActive =>
    (kind = .bearer ∧ c.state ≠ .active) ∨ (kind = .signal ∧ c.state ≠ .active ∧ c.state ≠ .suspended)
  | .exhausted => kind = .bearer ∧ c.state = .active ∧ passesRealm s.zu.zone.realm c = true ∧ c.spent = true
  | .silent =>
    kind = .bearer ∧ c.state = .active ∧ passesRealm s.zu.zone.realm c = true ∧ c.spent = false
    ∧ s.cs.level = .silent
  | .floor =>
    kind = .bearer ∧ c.state = .active ∧ passesRealm s.zu.zone.realm c = true ∧ c.spent = false
    ∧ s.cs.level ≠ .silent ∧ c.cls ≤ s.tc.floor
  | _ => False

/-- An admitted frame whose realm test passes as well (R8, R9). -/
def Admissible (s : State) (c : Context) (kind : BearerKind) : Prop :=
  passesRealm s.zu.zone.realm c = true
  ∧ ((kind = .bearer ∧ c.state = .active ∧ c.spent = false ∧ s.cs.level ≠ .silent ∧ s.tc.floor < c.cls)
    ∨ (kind = .signal ∧ (c.state = .active ∨ c.state = .suspended)))

/-- The command is a request of R174: its request and the command it carries. -/
def requestOf : Instr → Option (Request × Command)
  | .readStatus rq => some (rq, .readStatus)
  | .readContext rq _ => some (rq, .readContext)
  | .findContext rq _ => some (rq, .findContext)
  | .readZone rq _ => some (rq, .readZone)
  | .readLink rq _ => some (rq, .readLink)
  | .readRadioUnit rq _ => some (rq, .readRadioUnit)
  | .readEvents rq => some (rq, .readEvents)
  | .readCounters rq => some (rq, .readCounters)
  | .createContext rq _ => some (rq, .createContext)
  | .modifyContext rq _ _ => some (rq, .modifyContext)
  | .suspendContext rq _ => some (rq, .suspendContext)
  | .resumeContext rq _ => some (rq, .resumeContext)
  | .topUp rq _ _ _ => some (rq, .topUp)
  | .releaseContext rq _ => some (rq, .releaseContext)
  | .closePeriod rq => some (rq, .closePeriod)
  | .positionReport rq _ => some (rq, .positionReport)
  | .writeZone rq _ => some (rq, .writeZone)
  | .reloadZone rq => some (rq, .reloadZone)
  | .armWaypoint rq _ => some (rq, .armWaypoint)
  | .disarmWaypoint rq _ => some (rq, .disarmWaypoint)
  | .writeLink rq _ => some (rq, .writeLink)
  | .stageLink rq _ _ => some (rq, .stageLink)
  | .cancelStage rq => some (rq, .cancelStage)
  | .setFailoverOrder rq _ => some (rq, .setFailoverOrder)
  | .writeRadioUnit rq _ => some (rq, .writeRadioUnit)
  | .setFloor rq _ => some (rq, .setFloor)
  | .openAttach rq => some (rq, .openAttach)
  | .configure rq _ => some (rq, .configure)
  | .clearEvents rq _ => some (rq, .clearEvents)
  | .resetWarm rq => some (rq, .reset)
  | .resetCold rq => some (rq, .reset)
  | _ => none

/-- The command is a request that names a context by index and incarnation (R29). -/
def namingOf : Instr → Option (Request × Command × CtxName)
  | .modifyContext rq n _ => some (rq, .modifyContext, n)
  | .suspendContext rq n => some (rq, .suspendContext, n)
  | .resumeContext rq n => some (rq, .resumeContext, n)
  | .topUp rq n _ _ => some (rq, .topUp, n)
  | .releaseContext rq n => some (rq, .releaseContext, n)
  | _ => none

/-- The named context exists in the incarnation named, and is not CLOSING (R29). -/
def Names (s : State) (n : CtxName) (i : CtxIx) : Prop :=
  n.index.toNat = i.val ∧ (s.ctx i).state ≠ .free ∧ (s.ctx i).incarnation = n.incarnation

/-! ## Requests as their items spell them (R186) -/

/-- An argument that may be left out: no item, or one of its identifier. -/
def given (id : Nat) (value : Option (List Byte)) : List Item :=
  match value with
  | none => []
  | some v => [item id v]

/-- The selector and value items of a Configure, pair by pair. -/
def pairItems (id : Nat) (ps : List PairArg) : List Item :=
  ps.flatMap fun p => [item id [p.selector], item id [p.value]]

/-- A destination: port and address, or size 0 for none. -/
def destValue : Option DestArg → List Byte
  | none => []
  | some d => d.port :: beBytes 6 d.addr.toNat

/-- The index and the incarnation of a context. -/
def nameValues (n : CtxName) : List (List Byte) := [beBytes 2 n.index.toNat, beBytes 2 n.incarnation.toNat]

/-- The command code of a request and its items, in the order of their identifiers: what its sender puts in
the frame (R186). -/
def spelling : Instr → Option (Request × Byte × List Item)
  | .readStatus rq => some (rq, 1, [])
  | .readContext rq i => some (rq, 2, items [beBytes 2 i.toNat])
  | .findContext rq b => some (rq, 3, items [beBytes 4 b.toNat])
  | .readZone rq i => some (rq, 4, items [[i]])
  | .readLink rq i => some (rq, 5, items [[i]])
  | .readRadioUnit rq i => some (rq, 6, items [[i]])
  | .readEvents rq => some (rq, 7, [])
  | .readCounters rq => some (rq, 8, [])
  | .createContext rq a =>
    some (rq, 16, items
      [beBytes 4 a.bearerId.toNat, [a.cls], [a.plan], [a.homeRealm], a.roamSet, [a.account], [a.servingRu],
       beBytes 4 a.allowance.toNat, beBytes 8 a.balance.toNat, beBytes 8 a.lowThreshold.toNat, [a.limitMode]])
  | .modifyContext rq n a =>
    some (rq, 17, items (nameValues n)
      ++ given 3 (a.cls.map fun b => [b]) ++ given 4 (a.plan.map fun b => [b])
      ++ given 5 (a.homeRealm.map fun b => [b]) ++ given 6 a.roamSet
      ++ given 7 (a.lowThreshold.map fun x => beBytes 8 x.toNat) ++ given 8 (a.limitMode.map fun b => [b]))
  | .suspendContext rq n => some (rq, 18, items (nameValues n))
  | .resumeContext rq n => some (rq, 19, items (nameValues n))
  | .topUp rq n money allowance =>
    some (rq, 20, items (nameValues n ++ [beBytes 8 money.toNat, beBytes 4 allowance.toNat]))
  | .releaseContext rq n => some (rq, 21, items (nameValues n))
  | .closePeriod rq => some (rq, 22, [])
  | .positionReport rq a =>
    some (rq, 32, items [beBytes 4 a.a.toNat, beBytes 2 a.x.toNat, [a.quality], beBytes 8 a.fixTime.toNat])
  | .writeZone rq a =>
    some (rq, 33, items
      [[a.index], [a.present], beBytes 4 a.start.toNat, beBytes 4 a.length.toNat, beBytes 2 a.crossLimit.toNat,
       [a.kind], [a.realm], [a.permit], [a.entryKind], [a.admission],
       a.rates.toList.flatMap fun r => beBytes 2 r.toNat, a.linkMask])
  | .reloadZone rq => some (rq, 34, [])
  | .armWaypoint rq a => some (rq, 35, items [[a.comparator], beBytes 4 a.value.toNat, [a.direction], [a.action]])
  | .disarmWaypoint rq c => some (rq, 36, items [[c]])
  | .writeLink rq a =>
    some (rq, 37, items
      [[a.index], [a.enabled], [a.shorePort], [a.kind], beBytes 2 a.anchorId.toNat, beBytes 6 a.anchorAddr.toNat,
       beBytes 2 a.multiplier.toNat, [a.upFloor], [a.impairedFloor], beBytes 4 a.probeInterval.toNat,
       [a.upCount], [a.downCount], [a.impairLoss], [a.recoverLoss], beBytes 4 a.rttLimit.toNat,
       beBytes 4 a.rttRecover.toNat, beBytes 4 a.startSeq.toNat])
  | .stageLink rq k t => some (rq, 38, items [[k], [t]])
  | .cancelStage rq => some (rq, 39, [])
  | .setFailoverOrder rq order => some (rq, 40, items [order])
  | .writeRadioUnit rq a =>
    some (rq, 41, items [[a.index], [a.configured], [a.cellPort], beBytes 6 a.addr.toNat])
  | .setFloor rq f => some (rq, 42, items [[f]])
  | .openAttach rq => some (rq, 43, [])
  | .configure rq a =>
    some (rq, 44,
      given 1 (a.epochLength.map fun x => beBytes 4 x.toNat) ++ given 2 (a.frameType.map fun x => beBytes 2 x.toNat)
      ++ given 3 (a.noticeDest.map destValue) ++ given 4 (a.collector.map destValue)
      ++ pairItems 5 a.access ++ given 6 (a.staleTimeout.map fun x => beBytes 4 x.toNat)
      ++ given 7 (a.lostTimeout.map fun x => beBytes 4 x.toNat)
      ++ given 8 (a.ruTimeout.map fun x => beBytes 4 x.toNat)
      ++ given 9 (a.heartbeatInterval.map fun x => beBytes 4 x.toNat)
      ++ given 10 (a.graceTime.map fun x => beBytes 4 x.toNat) ++ given 11 (a.holdAge.map fun x => beBytes 4 x.toNat)
      ++ given 12 (a.maxStep.map fun x => beBytes 2 x.toNat) ++ given 13 (a.confirmCount.map fun b => [b])
      ++ given 14 (a.limitedFloor.map fun b => [b]) ++ given 15 (a.noticeFloor.map fun b => [b])
      ++ pairItems 16 a.eventLevels)
  | .clearEvents rq kinds => some (rq, 45, items [kinds])
  | .resetCold rq => some (rq, 46, items [[0]])
  | .resetWarm rq => some (rq, 46, items [[1]])
  | _ => none

/-- The number of arguments a command takes, those that may be left out included. -/
def argCount : Command → Nat
  | .readStatus | .readEvents | .readCounters | .closePeriod | .reloadZone | .cancelStage | .openAttach => 0
  | .readContext | .findContext | .readZone | .readLink | .readRadioUnit | .disarmWaypoint
  | .setFailoverOrder | .setFloor | .clearEvents | .reset => 1
  | .suspendContext | .resumeContext | .releaseContext | .stageLink => 2
  | .topUp | .positionReport | .armWaypoint | .writeRadioUnit => 4
  | .modifyContext => 8
  | .createContext => 11
  | .writeZone => 12
  | .configure => 16
  | .writeLink => 17

/-- The limit of an argument that is a set or list; none for any other argument. -/
def setLimit : Command → Nat → Option Nat
  | .createContext, 5 => some 15
  | .modifyContext, 6 => some 15
  | .writeZone, 12 => some 8
  | .setFailoverOrder, 1 => some 8
  | .clearEvents, 1 => some 16
  | _, _ => none

/-- Argument `id` of a request has to be given (R186). -/
def Required : Instr → Nat → Prop
  | .configure .., _ => False
  | .modifyContext .., id => id ≤ 2
  | .createContext _ a, id => id ≤ 8 ∨ a.account ≠ 1
  | _, _ => True

/-- Argument `id` of a command takes no value of `v`'s size, where its natural size is `n` (R186). -/
def Missized (cmd : Command) (id n : Nat) (v : List Byte) : Prop :=
  match setLimit cmd id with
  | some limit => limit < v.length
  | none => v.length ≠ n ∧ (cmd = .configure → id = 3 ∨ id = 4 → v.length ≠ 0 ∧ v.length ≠ 7)

/-- A value given in a Modify Context is outside its range or list, or its roam set beyond its limit (R32,
R186). -/
def Unlisted (a : ModifyArgs) : Prop :=
  (∃ b, a.cls = some b ∧ (b.toNat = 0 ∨ 7 < b.toNat))
  ∨ (∃ b, a.plan = some b ∧ 3 < b.toNat)
  ∨ (∃ b, a.homeRealm = some b ∧ 15 < b.toNat)
  ∨ (∃ bs, a.roamSet = some bs ∧ (15 < bs.length ∨ ∃ b ∈ bs, b.toNat = 0 ∨ 15 < b.toNat))
  ∨ (∃ b, a.limitMode = some b ∧ 1 < b.toNat)

/-- `v` holds exactly the values given in a Modify Context, a roam set as its members in ascending order
(log entry 11). -/
def GivesValues (a : ModifyArgs) (v : ModifyValues) : Prop :=
  ¬ Unlisted a
  ∧ v.cls.map Fin.val = a.cls.map BitVec.toNat
  ∧ v.plan.map Fin.val = a.plan.map BitVec.toNat
  ∧ v.homeRealm.map Fin.val = a.homeRealm.map BitVec.toNat
  ∧ v.limitMode.map LimitMode.code = a.limitMode.map BitVec.toNat
  ∧ (a.roamSet = none → v.roamSet = none)
  ∧ (∀ bs, a.roamSet = some bs → ∃ rs, v.roamSet = some rs ∧ rs.Pairwise (· < ·)
      ∧ ∀ r, r ∈ rs ↔ ∃ b ∈ bs, b.toNat = r.val)

/-! ## Frames as they stand on the line (R185 to R187) -/

/-- The code of the kind of what a frame carries (table of R185). -/
def jzKind : Carried → Nat
  | .bare e => if e.frame.kind = .bearer then 1 else 2
  | .link .. => 3
  | .control (.probe ..) => 4
  | .control (.switchMarker ..) => 6
  | .control (.endMarker ..) => 7
  | .control (.backhaulStatus ..) => 9
  | .control (.bearerNotice ..) => 10
  | .control (.response ..) => 12
  | .control (.notice ..) => 13
  | .control (.usage _) => 14

/-- Its JZ length (table of R185). -/
def jzLength : Carried → Nat
  | .bare e => 10 + e.frame.payload.length
  | .link _ _ e => 10 + (10 + e.frame.payload.length)
  | .control (.probe ..) => 20
  | .control (.switchMarker ..) => 19
  | .control (.endMarker ..) => 16
  | .control (.backhaulStatus ..) => 19
  | .control (.bearerNotice ..) => 22
  | .control (.response _ _ _ rs _) => 8 + (rs.map fun x => 2 + x.value.length).sum
  | .control (.notice ..) => 22
  | .control (.usage rs) => 5 + 90 * rs.length

/-- What the part can send: a payload of at most 9,000 bytes (R4), a response of a JZ length of at most 9,202
(R186), 1 to 16 records in a usage frame (R187), each with a remainder in its range (R26). -/
def Sendable : Carried → Prop
  | .bare e => e.frame.payload.length ≤ 9000
  | .link _ _ e => e.frame.payload.length ≤ 9000
  | .control (.response a b c rs d) => jzLength (.control (.response a b c rs d)) ≤ 9202
  | .control (.usage rs) => rs ≠ [] ∧ rs.length ≤ 16 ∧ ∀ r ∈ rs, r.body.remainder < 256000000
  | .control _ => True

/-- A JZ header stands at byte `i`: version 1, kind and JZ length (R185). -/
def HeaderAt (bs : List Byte) (i kind length : Nat) : Prop :=
  field bs i 1 = 1 ∧ field bs (i + 1) 1 = kind ∧ field bs (i + 2) 2 = length

/-- The Ethernet frame of a wire: its addresses and frame type, the JZ header at byte 14, and zero bytes up to
60 where it is shorter (R185). -/
def Framed (w : Wire) (bs : List Byte) : Prop :=
  field bs 0 6 = w.dst.toNat ∧ field bs 6 6 = w.src.toNat ∧ field bs 12 2 = w.frameType.toNat
  ∧ HeaderAt bs 14 (jzKind w.carried) (jzLength w.carried)
  ∧ bs.length = max 60 (14 + jzLength w.carried)
  ∧ ∀ b ∈ bs.drop (14 + jzLength w.carried), b = 0

/-- The bearer header of `f`, 4 bytes after the start of its JZ frame at byte `i`, and its payload (R185). -/
def BearerAt (bs : List Byte) (i : Nat) (f : BearerFrame) : Prop :=
  field bs (i + 4) 4 = f.bearerId.toNat ∧ field bs (i + 8) 2 = f.payload.length
  ∧ (bs.drop (i + 10)).take f.payload.length = f.payload

/-- The detail of a notice, packed from byte `i` on, and the rest of its 8 bytes 0 (R186). -/
def DetailAt (bs : List Byte) (i : Nat) : Option Detail → Prop
  | none => field bs i 8 = 0
  | some (.link k) => field bs i 1 = k.val ∧ field bs (i + 1) 7 = 0
  | some (.linkState k h) =>
    field bs i 1 = k.val ∧ field bs (i + 2) 6 = 0
    ∧ ([.off, .down, .trial, .up, .impaired] : List Health)[field bs (i + 1) 1]? = some h
  | some (.switch old new cause) =>
    field bs i 1 = (old.map Fin.val).getD 255 ∧ field bs (i + 1) 1 = (new.map Fin.val).getD 255
    ∧ ([.staged, .failover, .zone, .recovery] : List SwitchCause)[field bs (i + 2) 1]? = some cause
    ∧ field bs (i + 3) 5 = 0
  | some (.level l) =>
    ([.full, .limited, .silent] : List ServiceLevel)[field bs i 1]? = some l ∧ field bs (i + 1) 7 = 0
  | some (.zone d g) => field bs i 1 = d.val ∧ field bs (i + 1) 2 = g.toNat ∧ field bs (i + 3) 5 = 0
  | some (.zoneIndex d) => field bs i 1 = d.val ∧ field bs (i + 1) 7 = 0
  | some (.waypoint w) => field bs i 1 = (if w = .w0 then 0 else 1) ∧ field bs (i + 1) 7 = 0
  | some (.context j) => field bs i 2 = j.val ∧ field bs (i + 2) 6 = 0
  | some (.ru r) => field bs i 1 = r.val ∧ field bs (i + 1) 7 = 0
  | some (.period p) => field bs i 4 = p.toNat ∧ field bs (i + 4) 4 = 0

/-- A usage record of 90 bytes from byte `i` on (table of R187). -/
def RecordAt (bs : List Byte) (i : Nat) (r : UrqRecord) : Prop :=
  ([.interval, .final, .periodSummary] : List RecordKind)[field bs i 1]? = some r.body.kind
  ∧ field bs (i + 1) 1 = r.body.plan.val ∧ field bs (i + 2) 1 = r.body.zoneIx.val
  ∧ field bs (i + 3) 1 = r.body.realm.val ∧ field bs (i + 4) 4 = r.body.period.toNat
  ∧ field bs (i + 8) 4 = r.number.toNat ∧ field bs (i + 12) 2 = r.body.ctx.val
  ∧ field bs (i + 14) 2 = r.body.incarnation.toNat ∧ field bs (i + 16) 4 = r.body.bearerId.toNat
  ∧ field bs (i + 20) 2 = r.body.zoneGen.toNat ∧ field bs (i + 22) 8 = r.body.start.toNat
  ∧ field bs (i + 30) 8 = r.body.stop.toNat ∧ field bs (i + 38) 8 = r.body.up.toNat
  ∧ field bs (i + 46) 8 = r.body.down.toNat ∧ field bs (i + 54) 8 = r.body.free.toNat
  ∧ field bs (i + 62) 8 = r.body.frames.toNat ∧ field bs (i + 70) 8 = r.body.charge.toNat
  ∧ field bs (i + 78) 8 = (BitVec.ofInt 64 r.body.balanceAfter).toNat
  ∧ field bs (i + 86) 4 = r.body.remainder

/-- The body of a bearer notice from byte `i` on, after its kind, bearer ID, context and incarnation: the
realm, then 8 bytes of generation or balance (R185). -/
def NoticeAt (bs : List Byte) (i : Nat) : BearerNotice → Prop
  | .barred realm gen => field bs (i + 9) 1 = realm.val ∧ field bs (i + 10) 8 = gen.toNat ∧ field bs i 1 = 0
  | .suspended => field bs (i + 9) 9 = 0 ∧ field bs i 1 = 1
  | .resumed => field bs (i + 9) 9 = 0 ∧ field bs i 1 = 2
  | .released => field bs (i + 9) 9 = 0 ∧ field bs i 1 = 3
  | .exhausted b =>
    field bs (i + 9) 1 = 0 ∧ field bs (i + 10) 8 = (BitVec.ofInt 64 b).toNat ∧ field bs i 1 = 4
  | .lowBalance b =>
    field bs (i + 9) 1 = 0 ∧ field bs (i + 10) 8 = (BitVec.ofInt 64 b).toNat ∧ field bs i 1 = 5

/-- The body of the JZ frame that stands at byte `i`, field by field as the tables of R185 to R187 place
them. -/
def BodyAt (bs : List Byte) (i : Nat) : Carried → Prop
  | .bare e => BearerAt bs i e.frame
  | .link a n e =>
    field bs (i + 4) 2 = a.toNat ∧ field bs (i + 6) 4 = n.toNat
    ∧ HeaderAt bs (i + 10) (jzKind (.bare e)) (jzLength (.bare e)) ∧ BearerAt bs (i + 10) e.frame
  | .control (.probe a n t) =>
    field bs (i + 4) 2 = a.toNat ∧ field bs (i + 6) 4 = 0 ∧ field bs (i + 10) 2 = n.toNat
    ∧ field bs (i + 12) 8 = t.toNat
  | .control (.switchMarker a n old lost) =>
    field bs (i + 4) 2 = a.toNat ∧ field bs (i + 6) 4 = 0 ∧ field bs (i + 10) 2 = n.toNat
    ∧ (old = none → field bs (i + 12) 7 = 0)
    ∧ (∀ b m, old = some (b, m) → field bs (i + 12) 1 = (if lost = true then 2 else 1)
        ∧ field bs (i + 13) 2 = b.toNat ∧ field bs (i + 15) 4 = m.toNat)
  | .control (.endMarker _ a n last) =>
    field bs (i + 4) 2 = a.toNat ∧ field bs (i + 6) 4 = 0 ∧ field bs (i + 10) 2 = n.toNat
    ∧ field bs (i + 12) 4 = last.toNat
  | .control (.backhaulStatus level gate realm floor kind gen built) =>
    ([.full, .limited, .silent] : List ServiceLevel)[field bs (i + 4) 1]? = some level
    ∧ ([.open, .closed] : List Gate)[field bs (i + 5) 1]? = some gate
    ∧ field bs (i + 6) 1 = realm.val ∧ field bs (i + 7) 1 = floor.val
    ∧ ([none, some .microwave, some .shoreCell, some .satellite] : List (Option LinkKind))[
        field bs (i + 8) 1]? = some kind
    ∧ field bs (i + 9) 2 = gen.toNat ∧ field bs (i + 11) 8 = built.toNat
  | .control (.bearerNotice n id c inc) =>
    NoticeAt bs (i + 4) n ∧ field bs (i + 5) 4 = id.toNat ∧ field bs (i + 9) 2 = c.val
    ∧ field bs (i + 11) 2 = inc.toNat
  | .control (.response tag code status rs _) =>
    field bs (i + 4) 2 = tag.toNat ∧ field bs (i + 6) 1 = code.toNat
    ∧ ([.ok, .busy, .denied, .badCommand, .badArgument, .notFound, .duplicate, .tableFull, .wrongState,
        .attachClosed, .backlog, .notPresent, .overLimit] : List Status)[field bs (i + 7) 1]? = some status
    ∧ (bs.drop (i + 8)).take (rs.map fun x => 2 + x.value.length).sum
        = rs.flatMap fun x => x.id :: BitVec.ofNat 8 x.value.length :: x.value
  | .control (.notice k level raised detail) =>
    ([.linkDown, .linkState, .switchDone, .blackout, .serviceLevel, .zoneChange, .zoneFault, .positionStale,
      .positionLost, .waypoint, .quotaLow, .quotaExhausted, .recordBacklog, .ruLost, .holdOverflow,
      .periodClosed] : List EventKind)[field bs (i + 4) 1]? = some k
    ∧ field bs (i + 5) 1 = level.val ∧ field bs (i + 6) 8 = raised.toNat ∧ DetailAt bs (i + 14) detail
  | .control (.usage rs) =>
    field bs (i + 4) 1 = rs.length
    ∧ ∀ (j : Nat) (r : UrqRecord), rs[j]? = some r → RecordAt bs (i + 5 + 90 * j) r

/-! ## What the part does with no command waiting (log entry 1) -/

/-- The part's own condition, or a deadline, calls for a command now. -/
def Due (s : State) : Instr → Prop
  | .coldReset c => c = .pendingReset ∧ s.me.coldPending = .due
  | .entrySelection p => (s.port p).carrier = true ∧ (s.port p).sending = none ∧ (s.port p).queue ≠ []
  | .endMarker k =>
    (∃ m ∈ s.su.drain, m.link = k ∧ m.endPlaced = false)
    ∧ ∀ x ∈ (s.port (.shore (s.link k).cfg.port)).queue, ∀ e, x.body ≠ .up e k
  | .holdDrainMove =>
    s.cs.hold ≠ [] ∧ ∃ k, s.active = some k ∧ (s.port (.shore (s.link k).cfg.port)).queue.length < 512
  | .usageFrameBuild =>
    s.ur.outstanding = none ∧ s.ur.urq ≠ []
    ∧ ∃ p a, s.ur.collector = some (p, a) ∧ (s.port p).carrier = true ∧ (s.port p).queue.length < 512
  | .sweepVisit =>
    s.ur.sweep = .visiting ∨ (s.ur.sweep = .paused ∧ s.ur.urq.length < 256 ∧ s.ur.awaiting = [])
  | .periodSummary =>
    s.ur.sweep = .summaryWait ∧ s.ur.urq.length < 256
    ∧ ∃ pd, s.ur.closing = some pd ∧ ∀ i r, (s.ctx i).awaiting = some r → r.period ≠ pd
  | .epochBoundary => s.me.nextBoundary.toNat ≤ s.me.clock.toNat
  | .staleDeadline => s.zu.pos.state = .fresh ∧ ∃ d, s.zu.pos.stale = some d ∧ d.toNat ≤ s.me.clock.toNat
  | .lostDeadline => s.zu.pos.state = .stale ∧ ∃ d, s.zu.pos.lost = some d ∧ d.toNat ≤ s.me.clock.toNat
  | .probeTime k => (s.link k).health ≠ .off ∧ ∃ d, (s.link k).probeAt = some d ∧ d.toNat ≤ s.me.clock.toNat
  | .graceExpiry => ∃ d, s.cs.grace = some d ∧ d.toNat ≤ s.me.clock.toNat
  | .heartbeatTime => s.cs.nextHeartbeat.toNat ≤ s.me.clock.toNat
  | .livenessDeadline r => (s.ru r).state = .alive ∧ ∃ d, (s.ru r).deadline = some d ∧ d.toNat ≤ s.me.clock.toNat
  | _ => False

/-! ## The links SU may choose (R145, R146) -/

/-- `k` is the first link of the failover order that is in health state `h` and usable. -/
def FirstInOrder (s : State) (h : Health) (k : LinkIx) : Prop :=
  ∃ pre post, s.su.order = pre ++ k :: post ∧ (s.link k).health = h ∧ s.usable k = true
    ∧ ∀ j ∈ pre, ¬ ((s.link j).health = h ∧ s.usable j = true)

/-- No link of the failover order is in health state `h` and usable. -/
def NoneInOrder (s : State) (h : Health) : Prop :=
  ∀ j ∈ s.su.order, ¬ ((s.link j).health = h ∧ s.usable j = true)

/-- What the failover order gives: its first usable UP link, else its first usable IMPAIRED link, else
none. -/
def FromOrder (s : State) : Option LinkIx → Prop
  | some k => FirstInOrder s .up k ∨ (NoneInOrder s .up ∧ FirstInOrder s .impaired k)
  | none => NoneInOrder s .up ∧ NoneInOrder s .impaired

/-- A stage is pending, and its link `k` is usable. -/
def StagedUsable (s : State) (k : LinkIx) : Prop :=
  s.su.stage ≠ none ∧ s.su.slot s.su.inForce.other = some k ∧ s.usable k = true

/-- The stage is WAITING, and its link `k` is usable. -/
def WaitingUsable (s : State) (k : LinkIx) : Prop :=
  StagedUsable s k ∧ ∃ st, s.su.stage = some st ∧ st.condition = .waiting

/-- The successor: a link of the order, else the usable staged link, else none (R145). -/
def Successor (s : State) : Option LinkIx → Prop
  | some k => FromOrder s (some k) ∨ (FromOrder s none ∧ StagedUsable s k)
  | none => FromOrder s none ∧ ∀ k, ¬ StagedUsable s k

/-- The recovery test in blackout: the link it chooses and the state its switch leaves, before the hand-off
to CS. The usable staged link comes first, then a link of the order (R146). -/
def Recovers (s : State) : Option LinkIx → State → Prop
  | some k, t =>
    (StagedUsable s k ∧ t = makeSwitch .recovery (some k) commitSlots s)
    ∨ ((∀ j, ¬ StagedUsable s j) ∧ FromOrder s (some k)
        ∧ t = makeSwitch .recovery (some k) (writeSlots (some k)) s)
  | none, t => (∀ j, ¬ StagedUsable s j) ∧ FromOrder s none ∧ t = s

/-- A state with the hand-off to CS of the switch made, if one was made to `new` (R147, step 6). -/
def told (new : Option LinkIx) (t : State) : State :=
  match new with
  | none => t
  | some k => csHandover false (some (some k)) t

/-! ## Invariants -/

/-- The user entry of a queue entry, if it is one. -/
def EntryBody.user : EntryBody → Option UserEntry
  | .up e _ => some e
  | .down e _ _ => some e
  | .control _ => none

/-- The user entries waiting in the part: in the egress queues and in the hold queue. -/
def Waits (s : State) (e : UserEntry) : Prop :=
  e ∈ s.cs.hold ∨ ∃ p, ∃ x ∈ (s.port p).queue, x.body.user = some e

/-- No queue is beyond its capacity: egress queues (R15), hold queue (R154), URQ (R103), with the
outstanding usage frame's records at its head (R105). -/
def WithinCapacity (s : State) : Prop :=
  (∀ p, (s.port p).queue.length ≤ 512)
  ∧ s.cs.hold.length ≤ 1024 ∧ bytesOf s.cs.hold ≤ 1572864
  ∧ s.ur.urq.length ≤ 256
  ∧ (∀ n, s.ur.outstanding = some n → n ≤ s.ur.urq.length ∧ n ≤ 16)

/-- The hold queue is in the order of intake, and no entry waiting in the part has an intake time past the
route clock (R154). -/
def HoldInOrder (s : State) : Prop :=
  s.cs.hold.Pairwise (fun a b => a.intake.toNat ≤ b.intake.toNat)
  ∧ ∀ e, Waits s e → e.intake.toNat ≤ s.me.clock.toNat

/-- The tariff state of one context is within its ranges (R79, R84, R88, R93). -/
def Context.Sound (c : Context) : Prop :=
  c.remainder < 256000000
  ∧ c.allowance ≤ 4294967295
  ∧ -2356 ≤ c.balance ∧ c.balance ≤ 9999999999
  ∧ c.lowThreshold ≤ 9999999999
  ∧ (c.account = .postpaid →
      c.balance = 0 ∧ c.lowThreshold = 0 ∧ c.limitMode = .stopBefore ∧ c.exhausted = false ∧ c.low = false)
  ∧ (c.account = .prepaid → c.state ≠ .free → c.exhausted = false → 0 < c.balance)

/-- Every account is sound, and every waiting frame is of at most 9,000 payload bytes (R4, R88). -/
def AccountsSound (s : State) : Prop :=
  (∀ i, (s.ctx i).Sound) ∧ (∀ e, Waits s e → e.frame.payload.length ≤ 9000)

/-- A FREE record holds the FREE values, a context that is not FREE holds a bearer ID, and no two of them
hold the same one (R26, R28). -/
def BearersDistinct (s : State) : Prop :=
  (∀ i, (s.ctx i).state = .free → s.ctx i = Context.freeAt (s.ctx i).incarnation)
  ∧ (∀ i, (s.ctx i).state ≠ .free → (s.ctx i).bearerId ≠ 0 ∧ (s.ctx i).cls ≠ 0)
  ∧ (∀ i j, (s.ctx i).state ≠ .free → (s.ctx j).state ≠ .free →
      (s.ctx i).bearerId = (s.ctx j).bearerId → i = j)

/-- The awaiting list holds each context at most once, and exactly those with an awaiting interval, which
are no FREE contexts; a CLOSING context has one and no open interval (R97, R39). -/
def AwaitingExact (s : State) : Prop :=
  s.ur.awaiting.Nodup
  ∧ (∀ i, i ∈ s.ur.awaiting ↔ (s.ctx i).awaiting.isSome = true)
  ∧ (∀ i, (s.ctx i).state = .free → (s.ctx i).awaiting = none)
  ∧ (∀ i, (s.ctx i).state = .closing → (s.ctx i).awaiting.isSome = true ∧ (s.ctx i).openIv = none)

/-- A link is OFF exactly when it is not enabled (R117, R128), its two consecutive counts are not both
above 0 and stop at 65,535, and its outcome list holds at most 16 outcomes (R118). -/
def Link.Sound (l : Link) : Prop :=
  (l.health = .off ↔ l.cfg.enabled = false)
  ∧ (l.successes = 0 ∨ l.losses = 0) ∧ l.successes ≤ 65535 ∧ l.losses ≤ 65535
  ∧ l.outcomes.length ≤ 16

/-- The selector: the active link is UP or IMPAIRED, enabled and in the mask of the zone in force (R138);
the staged slot is EMPTY exactly while the stage is absent, and the staged link is not the active link; the
drain set holds a link at most once and never the active link (R137, R139, R150). -/
def SelectorSound (s : State) : Prop :=
  (∀ k, (s.link k).Sound)
  ∧ (∀ k, s.active = some k →
      ((s.link k).health = .up ∨ (s.link k).health = .impaired) ∧ (s.link k).cfg.enabled = true
      ∧ k ∈ s.zu.zone.linkMask)
  ∧ ((s.su.slot s.su.inForce.other = none) ↔ s.su.stage = none)
  ∧ (∀ k, s.su.staged = some k → s.active ≠ some k)
  ∧ (s.su.drain.map Member.link).Nodup
  ∧ (∀ m ∈ s.su.drain, s.active ≠ some m.link)

/-- The service level is the one R161 gives, and the floor in force the largest of the three (R11). -/
def LevelAndFloor (s : State) : Prop := s.cs.level = levelOf s ∧ s.tc.floor = floorOf s

end Sys2Proof.Machine
end

