-- ==== Sys2Proof/Certificates/Slice0/Obligations.lean ====
section
/-! DEFINITION. The statements about the JZ48 that are to be proved. Where a statement says what a command
leaves, it gives the whole next state: what it does not name is as it was. `s.got p` is the state with the
arriving frame counted on its port, in which the frame is taken in (R22). -/

open Sys2Proof Sys2Proof.Machine

/-! ## The machine -/

/-- A step takes the command at the front of the queue, with the rest of the queue left waiting. The queue of
waiting commands is the model's own (log entry 1). -/
def Obligations.StepTakesFrontCommand : Prop :=
  ∀ (s : State) (i : Instr) (rest : List Instr),
    step (s.withPending (i :: rest)) = exec i (s.withPending rest)

/-- The invariants hold right after a reset. -/
def Obligations.InvariantsHoldAtReset : Prop :=
  WithinCapacity State.reset ∧ AccountsSound State.reset ∧ BearersDistinct State.reset
  ∧ AwaitingExact State.reset ∧ SelectorSound State.reset ∧ LevelAndFloor State.reset
  ∧ HoldInOrder State.reset

/-- Every step keeps every queue within its capacity (R15, R103, R154), and keeps the hold queue in the order
of intake, with no entry in the part of an intake time past the route clock (R154, R155, R156). The second is
stated while the clock's next microsecond is within its 64 bits: past them it is a free value (log entry
3). -/
def Obligations.StepKeepsWithinCapacity : Prop :=
  (∀ s t : State, WithinCapacity s → step s = .next t → WithinCapacity t)
  ∧ (∀ s t : State, HoldInOrder s → s.me.clock.toNat + 1 < 2 ^ 64 → step s = .next t → HoldInOrder t)

/-- Every step keeps every account sound: remainder, allowance, balance and threshold in their ranges, a
POSTPAID context without balance or marks, and a PREPAID one whose exhausted mark is clear with a balance
above 0 (R79, R84, R88). -/
def Obligations.StepKeepsAccountsSound : Prop :=
  ∀ s t : State, AccountsSound s → step s = .next t → AccountsSound t

/-- Every step keeps FREE records at their FREE values and bearer IDs distinct (R26, R28). -/
def Obligations.StepKeepsBearersDistinct : Prop :=
  ∀ s t : State, BearersDistinct s → step s = .next t → BearersDistinct t

/-- Every step keeps the awaiting list exact (R97, R39). -/
def Obligations.StepKeepsAwaitingExact : Prop :=
  ∀ s t : State, BearersDistinct s → AwaitingExact s → step s = .next t → AwaitingExact t

/-- Every step keeps the selector sound: an active link is UP or IMPAIRED, enabled and in the mask of the
zone in force (R137, R138, R150). -/
def Obligations.StepKeepsSelectorSound : Prop :=
  ∀ s t : State, SelectorSound s → step s = .next t → SelectorSound t

/-- Every step keeps the service level and the floor in force those that R161 and R11 give. -/
def Obligations.StepKeepsLevelAndFloor : Prop :=
  ∀ s t : State, LevelAndFloor s → step s = .next t → LevelAndFloor t

/-- No command but a cold reset changes the route clock; it runs on in the idle steps (R23). A step with no
command waiting does nothing while the part is held in reset; else it puts every command that the part's own
conditions and deadlines call for into the queue, each once; and where they call for none, the route clock
advances by one microsecond and nothing else changes. That no command takes time, and what an idle step does,
are the model's choices (log entry 1). A sum past the 64 bits of a time is a free value (log entry 3). -/
def Obligations.OnlyColdResetSetsClock : Prop :=
  (∀ (i : Instr) (s t : State), (∀ c, i ≠ .coldReset c) → exec i s = .next t → t.me.clock = s.me.clock)
  ∧ (∀ s : State, s.pending = [] →
    (s.resetHeld = true → step s = .next s)
    ∧ (s.resetHeld = false → (∀ i, ¬ Due s i) →
      step s = .next { s with me := { s.me with clock := timeAfter s.me.clock 1 } })
    ∧ (s.resetHeld = false → (∃ i, Due s i) →
      ∃ is : List Instr, step s = .next (s.withPending is) ∧ is.Nodup ∧ ∀ i, i ∈ is ↔ Due s i))

/-! ## Frames that arrive -/

/-- A frame that fails a check of R4 is counted received and dropped BAD_FRAME in its direction; an ECHO whose
JZ length is not 20 and a RADIO_STATUS whose JZ length is not 6 fail check 4 (R185). -/
def Obligations.BadFrameIsDropped : Prop :=
  ∀ (s : State) (p : Port) (bs : List Byte), Receives s p →
    (field bs 12 2 ≠ s.me.frameType.toNat
      ∨ 9216 < bs.length
      ∨ field bs 14 1 ≠ 1
      ∨ ¬ (field bs 16 2 + 14 = bs.length ∨ (bs.length = 60 ∧ field bs 16 2 + 14 ≤ 60))
      ∨ (∃ i, p = .cell i ∧ field bs 15 1 ∉ [1, 2, 8, 11])
      ∨ (∃ i, p = .shore i ∧ field bs 15 1 ∉ [3, 5, 11])
      ∨ (∃ i, p = .cell i ∧ field bs 15 1 ∈ [1, 2] ∧
          (field bs 18 4 = 0 ∨ 9000 < field bs 22 2 ∨ field bs 22 2 + 10 ≠ field bs 16 2))
      ∨ (∃ i, p = .shore i ∧ field bs 15 1 = 3 ∧
          (field bs 28 4 = 0 ∨ 9000 < field bs 32 2 ∨ field bs 32 2 + 20 ≠ field bs 16 2
            ∨ field bs 24 1 ≠ 1 ∨ field bs 25 1 ∉ [1, 2] ∨ field bs 26 2 + 10 ≠ field bs 16 2))
      ∨ (∃ i, p = .shore i ∧ field bs 15 1 = 5 ∧ field bs 16 2 ≠ 20)
      ∨ (∃ i, p = .cell i ∧ field bs 15 1 = 8 ∧ field bs 16 2 ≠ 6)) →
    exec (.badFrame p bs) s = .next (drop .badFrame (arrivalDir p) (s.got p))

/-- A frame that may arrive, a BEARER or SIGNAL, LINK, ECHO, RADIO_STATUS or REQUEST laid out as R185 gives,
is read back whole by the intake checks of the ports that accept its kind, padded or not. A frame that is
sent, of any of the kinds the part sends, has its addresses, frame type, version, kind and JZ length, and
every field of its body, each record of a usage frame included, at the bytes where the tables of R185, R186
and R187 place them, and is padded with zero bytes to 60. -/
def Obligations.FrameBytesAreReadBack : Prop :=
  (∀ (ft : BitVec 16) (dst : Addr) (i : Fin 4) (src : Addr),
    (∀ f : BearerFrame, f.wf = true →
      intake ft (.cell i) ((Arrival.bearer src f).frame ft dst) = some (.bearer src f))
    ∧ (∀ (a : Num16) (n : Num32) (f : BearerFrame), f.wf = true →
      intake ft (.shore i) ((Arrival.link src a n f).frame ft dst) = some (.link src a n f))
    ∧ (∀ (a : Num16) (n : Num32) (k : Num16) (t : Time),
      intake ft (.shore i) ((Arrival.echo src a n k t).frame ft dst) = some (.echo src a n k t))
    ∧ (∀ n : BitVec 16,
      intake ft (.cell i) ((Arrival.radioStatus src n).frame ft dst) = some (.radioStatus src n))
    ∧ (∀ (p : Port) (tag : Num16) (code : Byte) (bs : List Byte), bs.length ≤ 9195 →
      intake ft p ((Arrival.request src tag code bs).frame ft dst) = some (.request src tag code bs)))
  ∧ (∀ w : Wire, Sendable w.carried → Framed w w.bytes ∧ BodyAt w.bytes 14 w.carried)

/-- The bytes of a well-formed frame act as the command of their kind; those of a request act as its command
code with its items (R5, R186). A command code with the items of a request, each argument under its number at
its natural size, acts as that request; the items may come in any order, but for the pairs of a Configure,
and a POSTPAID Create Context may leave out its last three (R186). That the BAD_FRAME row passes a frame that
fails no check on as its kind, and the BAD_COMMAND row a known code as its command, are the model's choices
(log entry 10), and so is that both items of a Configure pair bear the identifier of their setting (log entry
12). -/
def Obligations.FrameBytesActAsTheirCommand : Prop :=
  (∀ (s : State) (dst : Addr) (i : Fin 4) (src : Addr),
    (∀ f : BearerFrame, f.wf = true →
      exec (.badFrame (.cell i) ((Arrival.bearer src f).frame s.me.frameType dst)) s
        = exec (.bearerUplinkIntake i src f) s)
    ∧ (∀ (a : Num16) (n : Num32) (f : BearerFrame), f.wf = true →
      exec (.badFrame (.shore i) ((Arrival.link src a n f).frame s.me.frameType dst)) s
        = exec (.linkFrameIntake i src a n f) s)
    ∧ (∀ (a : Num16) (n : Num32) (k : Num16) (t : Time),
      exec (.badFrame (.shore i) ((Arrival.echo src a n k t).frame s.me.frameType dst)) s
        = exec (.echo i src a n k t) s)
    ∧ (∀ n : BitVec 16,
      exec (.badFrame (.cell i) ((Arrival.radioStatus src n).frame s.me.frameType dst)) s
        = exec (.radioStatus i src n) s)
    ∧ (∀ (p : Port) (tag : Num16) (code : Byte) (xs : List Item), (∀ x ∈ xs, x.wf = true) →
      (xs.flatMap itemBytes).length ≤ 9195 →
      exec (.badFrame p ((Arrival.request src tag code (xs.flatMap itemBytes)).frame s.me.frameType dst)) s
        = exec (.badCommand ⟨p, src, tag, true⟩ code xs) s))
  ∧ (∀ (s : State) (i : Instr) (rq : Request) (code : Byte) (xs ys : List Item), i.wf = true →
    spelling i = some (rq, code, xs) → ys.Perm xs →
    (code = 44 → ∀ pair ∈ [(5 : Byte), 16],
      (ys.filter fun x => x.id == pair) = xs.filter fun x => x.id == pair) →
    exec (.badCommand rq code ys) s = exec i s)
  ∧ (∀ (s : State) (rq : Request) (a : CreateArgs), a.roamSet.length ≤ 15 → a.account = 1 →
    exec (.badCommand rq 16 (items
        [beBytes 4 a.bearerId.toNat, [a.cls], [a.plan], [a.homeRealm], a.roamSet, [a.account], [a.servingRu],
         beBytes 4 a.allowance.toNat])) s
      = exec (.createContext rq a) s)

/-- The searches take the lowest index that matches, and find none only where none matches (R6, R7, R8,
R31). -/
def Obligations.SearchesTakeLowestMatch : Prop :=
  ∀ s : State,
    (∀ (port : Fin 4) (src : Addr) (r : RuIx), matchRu s.cs.rus port src = some r ↔
      ((s.ru r).state ≠ .unused ∧ (s.ru r).port = port ∧ (s.ru r).addr = src
        ∧ ∀ q < r, ¬ ((s.ru q).state ≠ .unused ∧ (s.ru q).port = port ∧ (s.ru q).addr = src)))
    ∧ (∀ (port : Fin 4) (a : Num16) (k : LinkIx), matchLink s.links port a = some k ↔
      ((s.link k).cfg.enabled = true ∧ (s.link k).cfg.port = port ∧ (s.link k).cfg.anchorId = a
        ∧ ∀ j < k, ¬ ((s.link j).cfg.enabled = true ∧ (s.link j).cfg.port = port
            ∧ (s.link j).cfg.anchorId = a)))
    ∧ (∀ (b : Num32) (i : CtxIx), lookupBearer s.contexts b = some i ↔
      ((s.ctx i).state ≠ .free ∧ (s.ctx i).bearerId = b
        ∧ ∀ j < i, ¬ ((s.ctx j).state ≠ .free ∧ (s.ctx j).bearerId = b)))
    ∧ (∀ i : CtxIx, lowestFree s.contexts = some i ↔
      ((s.ctx i).state = .free ∧ ∀ j < i, (s.ctx j).state ≠ .free))

/-- A bearer frame with no source, no link or no context is dropped: UNKNOWN_RU, LINK_UNKNOWN, NO_CONTEXT
(R6, R7, R8). One with a context is dropped under the first test of R8 and R9 that it fails, and nothing
else changes; a BEARER frame that fails the realm test is dropped ROAM_BARRED, and its failure goes to R70
(R68). -/
def Obligations.IntakeDropsByFirstTest : Prop :=
  (∀ (s : State) (port : Fin 4) (src : Addr) (f : BearerFrame) (a : Num16) (n : Num32), f.wf = true →
     (Receives s (.cell port) → matchRu s.cs.rus port src = none →
       exec (.bearerUplinkIntake port src f) s = .next (drop .unknownRu .uplink (s.got (.cell port))))
     ∧ (Receives s (.shore port) → matchLink s.links port a = none →
       exec (.linkFrameIntake port src a n f) s = .next (drop .linkUnknown .downlink (s.got (.shore port))))
     ∧ (∀ r, Receives s (.cell port) → matchRu s.cs.rus port src = some r →
       lookupBearer s.contexts f.bearerId = none →
       exec (.bearerUplinkIntake port src f) s = .next (drop .noContext .uplink (s.got (.cell port))))
     ∧ (∀ k, Receives s (.shore port) → matchLink s.links port a = some k →
       lookupBearer s.contexts f.bearerId = none →
       exec (.linkFrameIntake port src a n f) s = .next (drop .noContext .downlink (s.got (.shore port)))))
  ∧ (∀ (s : State) (port : Fin 4) (src : Addr) (f : BearerFrame) (a : Num16) (n : Num32) (r : RuIx)
       (k : LinkIx) (i : CtxIx) (why : DropReason), f.wf = true → lookupBearer s.contexts f.bearerId = some i →
       (Receives s (.cell port) → matchRu s.cs.rus port src = some r → RefusedAtIntake s (s.ctx i) f.kind why →
         exec (.bearerUplinkIntake port src f) s = .next (drop why .uplink (s.got (.cell port))))
       ∧ (Receives s (.shore port) → matchLink s.links port a = some k →
         RefusedAtIntake s (s.ctx i) f.kind why →
         exec (.linkFrameIntake port src a n f) s = .next (drop why .downlink (s.got (.shore port))))
       ∧ (Receives s (.cell port) → matchRu s.cs.rus port src = some r → f.kind = .bearer →
         (s.ctx i).state = .active → passesRealm s.zu.zone.realm (s.ctx i) = false →
         exec (.bearerUplinkIntake port src f) s
           = .next (barringFailure i (drop .roamBarred .uplink (s.got (.cell port)))))
       ∧ (Receives s (.shore port) → matchLink s.links port a = some k → f.kind = .bearer →
         (s.ctx i).state = .active → passesRealm s.zu.zone.realm (s.ctx i) = false →
         exec (.linkFrameIntake port src a n f) s
           = .next (barringFailure i (drop .roamBarred .downlink (s.got (.shore port))))))

/-- A barring failure in a generation not yet notified writes the generation, and a BARRED notice with the
realm and generation is sent; in a notified generation it does nothing (R70). A bearer notice goes to the
cell port and address of the serving unit's entry while that entry is configured, and is not built while it
is UNUSED (R42). -/
def Obligations.BarringFailureNotifiesOnce : Prop :=
  (∀ (s : State) (i : CtxIx),
     ((s.ctx i).notifiedGen = s.zu.gen → barringFailure i s = s)
     ∧ ((s.ctx i).notifiedGen ≠ s.zu.gen →
         barringFailure i s = sendBearerNotice i { s.ctx i with notifiedGen := s.zu.gen }
           (.barred s.zu.zone.realm s.zu.gen) (s.setCtx i { s.ctx i with notifiedGen := s.zu.gen })
         ∧ ((barringFailure i s).ctx i).notifiedGen = s.zu.gen
         ∧ barringFailure i (barringFailure i s) = barringFailure i s))
  ∧ (∀ (s : State) (i : CtxIx) (c : Context) (n : BearerNotice),
       ((s.ru c.servingRu).state = .unused → sendBearerNotice i c n s = s)
       ∧ ((s.ru c.servingRu).state ≠ .unused →
         sendBearerNotice i c n s
           = offerControl (.cell (s.ru c.servingRu).port)
               { dst := (s.ru c.servingRu).addr
                 body := .bearerNotice n c.bearerId i c.incarnation } s))

/-- An admitted uplink frame moves the serving RU to its source, and is built into an entry that joins the
active link's egress queue, labelled, or else the tail of the hold queue, or else is dropped HOLD_FULL with
HOLD_OVERFLOW raised (R10, R12, R41, R155). A SIGNAL frame that fails the realm test is carried in each of
these three ways like one that passes, and its failure then goes to R70 (R68). That the notice of such a
SIGNAL frame follows its routing is the model's choice (log entry 14). -/
def Obligations.AdmittedUplinkFrameIsRouted : Prop :=
  ∀ (s : State) (port : Fin 4) (src : Addr) (f : BearerFrame) (r : RuIx) (i : CtxIx),
    f.wf = true → Receives s (.cell port) → matchRu s.cs.rus port src = some r →
    lookupBearer s.contexts f.bearerId = some i →
    let e : UserEntry :=
      { frame := f, ctx := i, incarnation := (s.ctx i).incarnation, cls := (s.ctx i).cls,
        intake := s.me.clock }
    let s' := (s.got (.cell port)).setCtx i { s.ctx i with servingRu := r }
    let routed := fun carried : State → State =>
      (∀ k, s.active = some k → s.cs.hold = [] →
        (s.port (.shore (s.link k).cfg.port)).queue.length < 512 →
        exec (.bearerUplinkIntake port src f) s
          = .next (carried (place (.shore (s.link k).cfg.port) (.up e k) s')))
      ∧ ((s.active = none ∨ s.cs.hold ≠ []
          ∨ ∃ k, s.active = some k ∧ 512 ≤ (s.port (.shore (s.link k).cfg.port)).queue.length) →
        (s.cs.hold.length < 1024 ∧ bytesOf s.cs.hold + (f.payload.length + 24) ≤ 1572864 →
          exec (.bearerUplinkIntake port src f) s
            = .next (carried { s' with cs := { s'.cs with hold := s.cs.hold ++ [e] } }))
        ∧ (1024 ≤ s.cs.hold.length ∨ 1572864 < bytesOf s.cs.hold + (f.payload.length + 24) →
          exec (.bearerUplinkIntake port src f) s
            = .next (carried (raise .holdOverflow none (drop .holdFull .uplink s')))))
    (Admissible s (s.ctx i) f.kind → routed id)
    ∧ (f.kind = .signal → (s.ctx i).state = .active ∨ (s.ctx i).state = .suspended →
      passesRealm s.zu.zone.realm (s.ctx i) = false → routed (barringFailure i))

/-- An admitted downlink frame joins the egress queue of its serving unit's cell port with the multiplier
captured from its arrival link, or is dropped EGRESS_FULL or RU_LOST, and none of these changes a context
(R7, R10, R13). A SIGNAL frame that fails the realm test is routed in each of these three ways like one that
passes, and its failure then goes to R70 (R68). That the destination is the unit's address as read at routing
is inferred (log entry 9). That the notice of such a SIGNAL frame follows its routing is the model's choice
(log entry 14). -/
def Obligations.AdmittedDownlinkFrameIsRouted : Prop :=
  ∀ (s : State) (port : Fin 4) (src : Addr) (a : Num16) (n : Num32) (f : BearerFrame) (k : LinkIx)
    (i : CtxIx),
    f.wf = true → Receives s (.shore port) → matchLink s.links port a = some k →
    lookupBearer s.contexts f.bearerId = some i →
    let e : UserEntry :=
      { frame := f, ctx := i, incarnation := (s.ctx i).incarnation, cls := (s.ctx i).cls,
        intake := s.me.clock }
    let u := s.ru (s.ctx i).servingRu
    let routed := fun carried : State → State =>
      (u.state = .alive → (s.port (.cell u.port)).queue.length < 512 →
        exec (.linkFrameIntake port src a n f) s
          = .next (carried (place (.cell u.port) (.down e (s.link k).cfg.multiplier u.addr)
              (s.got (.shore port)))))
      ∧ (u.state = .alive → 512 ≤ (s.port (.cell u.port)).queue.length →
        exec (.linkFrameIntake port src a n f) s
          = .next (carried (drop .egressFull .downlink (s.got (.shore port)))))
      ∧ (u.state ≠ .alive →
        exec (.linkFrameIntake port src a n f) s
          = .next (carried (drop .ruLost .downlink (s.got (.shore port)))))
    (Admissible s (s.ctx i) f.kind → routed id)
    ∧ (f.kind = .signal → (s.ctx i).state = .active ∨ (s.ctx i).state = .suspended →
      passesRealm s.zu.zone.realm (s.ctx i) = false → routed (barringFailure i))

/-- An ECHO that answers the outstanding probe records SUCCESS with its RTT sample, clears the probe and has
the health machine evaluated; any other matched echo only counts late (R124, R126, R127). -/
def Obligations.EchoRecordsSuccessOrCountsLate : Prop :=
  ∀ (s : State) (port : Fin 4) (src : Addr) (a : Num16) (n : Num32) (number : Num16) (t sent : Time)
    (k : LinkIx), Receives s (.shore port) → matchLink s.links port a = some k →
    let l := s.link k
    let sample := s.me.clock.toNat - sent.toNat
    let l' : Link :=
      { l with
        successes := min 65535 (l.successes + 1), losses := 0
        outcomes := (if l.outcomes.length ≥ 16 then l.outcomes.drop 1 else l.outcomes) ++ [.success]
        s8 := some (match l.s8 with
          | none => 8 * sample
          | some v => v - v / 8 + sample)
        outstanding := none }
    (l.outstanding = some (number, sent) →
      exec (.echo port src a n number t) s
        = .next (changeHealth k (nextHealth l' .success) ((s.got (.shore port)).setLink k l')))
    ∧ ((∀ sent', l.outstanding ≠ some (number, sent')) →
      exec (.echo port src a n number t) s
        = .next ((s.got (.shore port)).setLink k { l with lateEchoes := l.lateEchoes + 1 }))
    ∧ (∀ b, matchLink s.links port b = none →
      exec (.echo port src b n number t) s = .next (drop .linkUnknown .downlink (s.got (.shore port))))

/-- A Radio Status frame of a matched entry makes it ALIVE, with its status time, attached count and
deadline; an entry that was LOST is sent one heartbeat, and an unmatched frame is dropped (R6, R168). A sum
past the 64 bits of a time is a free value (log entry 3). -/
def Obligations.RadioStatusMakesUnitAlive : Prop :=
  ∀ (s : State) (port : Fin 4) (src : Addr) (attached : BitVec 16), Receives s (.cell port) →
    (matchRu s.cs.rus port src = none →
      exec (.radioStatus port src attached) s = .next (drop .unknownRu .uplink (s.got (.cell port))))
    ∧ (∀ r, matchRu s.cs.rus port src = some r →
      let u : RadioUnit :=
        { s.ru r with
          state := .alive, lastStatus := some s.me.clock, attached := attached
          deadline := some (timeAfter s.me.clock (s.cs.ruTimeout * 1000000)) }
      ((s.ru r).state = .alive →
        exec (.radioStatus port src attached) s = .next ((s.got (.cell port)).setRu r u))
      ∧ ((s.ru r).state = .lost →
        exec (.radioStatus port src attached) s
          = .next (sendHeartbeat r ((s.got (.cell port)).setRu r u))))

/-! ## Requests -/

/-- The checks every request meets before its command's own (R5, R173, R174, R186). Check 4 on the items of a
command code refuses an identifier the command does not take, one that comes twice, one left out that is
required, and a value of another size or a set beyond its limit (R186). That a frame does nothing while its
port has no carrier or the part is held in reset, that check 4 of R173 is the mark itemsOk of a typed request,
and that a value item of a Configure pair bears the identifier of its setting, are the model's choices (log
entries 5, 11 and 12), and so is that the BAD_COMMAND row checks the items of a known code (log entry 10). -/
def Obligations.RequestChecksComeInOrder : Prop :=
  (∀ (i : Instr) (rq : Request) (cmd : Command) (s : State), requestOf i = some (rq, cmd) →
    (¬ Receives s rq.port → exec i s = .next s)
    ∧ (Receives s rq.port →
      (s.access rq.port = .none →
        exec i s = .next (drop .badFrame (arrivalDir rq.port) (s.got rq.port)))
      ∧ (s.access rq.port ≠ .none → (s.access rq.port).code < cmd.level.code →
        exec i s = .next (answerNo rq cmd .denied (s.got rq.port)))
      ∧ (cmd.level.code ≤ (s.access rq.port).code → s.me.coldPending ≠ .none → cmd ≠ .readStatus →
        exec i s = .next (answerNo rq cmd .busy (s.got rq.port)))
      ∧ (cmd.level.code ≤ (s.access rq.port).code → s.me.coldPending = .none ∨ cmd = .readStatus →
        rq.itemsOk = false → exec i s = .next (answerNo rq cmd .badArgument (s.got rq.port)))))
  ∧ (∀ (rq : Request) (code : Byte) (xs : List Item) (s : State), Receives s rq.port →
    s.access rq.port ≠ .none → (∀ cmd : Command, code.toNat ≠ cmd.code) →
    exec (.badCommand rq code xs) s = .next (respond rq code (.refuse .badCommand) (s.got rq.port)))
  ∧ (∀ (i : Instr) (rq : Request) (cmd : Command) (code : Byte) (xs : List Item) (s : State), i.wf = true →
    requestOf i = some (rq, cmd) → spelling i = some (rq, code, xs) → Passes s rq cmd →
    let refused := fun ys : List Item =>
      exec (.badCommand rq code ys) s = .next (answerNo rq cmd .badArgument (s.got rq.port))
    (∀ x : Item, x.id = 0 ∨ argCount cmd < x.id.toNat ∨ (∃ y ∈ xs, y.id = x.id) → refused (x :: xs))
    ∧ (∀ pre x post, xs = pre ++ x :: post →
      (Required i x.id.toNat → refused (pre ++ post))
      ∧ (∀ v, Missized cmd x.id.toNat x.value.length v → refused (pre ++ ⟨x.id, v⟩ :: post))))

/-- A control frame offered to an egress queue joins its tail; in a full queue it displaces the user entry
of largest precedence number placed latest; a queue full of control entries drops it, and nothing else
changes (R15) but that the link of a dropped END marker leaves the drain set (R15, R150), and that a dropped
response to a Reset COLD makes the cold reset due (R182). That an entry which displaces one joins the tail, and
that list order decides between entries placed at one moment, are the model's choices (log entry 14), and so
is that the cold reset made due is a step of its own (log entry 7). -/
def Obligations.ControlEntryTakesItsPlace : Prop :=
  ∀ (s : State) (p : Port) (c : Control),
    ((s.port p).queue.length < 512 → offerControl p c s = place p (.control c) s)
    ∧ (512 ≤ (s.port p).queue.length → ∀ (pre post : List Entry) (e : Entry),
      (s.port p).queue = pre ++ e :: post → e.isUser = true →
      (∀ x ∈ pre, x.isUser = true → x.precedence ≤ e.precedence) →
      (∀ x ∈ post, x.isUser = true → x.precedence < e.precedence) →
      offerControl p c s
        = place p (.control c) (drop .egressFull (e.dir p) (s.setQueue p (pre ++ post))))
    ∧ (512 ≤ (s.port p).queue.length → (∀ x ∈ (s.port p).queue, x.isUser = false) →
      let dropped := drop .egressFull (match p with
        | .cell _ => .downlink
        | .shore _ => .uplink) s
      (∀ k a n last, c.body = .endMarker k a n last →
        offerControl p c s = { dropped with su := { s.su with
          drain := s.su.drain.filter fun m => !(m.link == k && m.switchNumber == n) } })
      ∧ (∀ tag code st rs, c.body = .response tag code st rs true →
        offerControl p c s = { dropped with me := { s.me with coldPending := .due } })
      ∧ ((∀ k a n last, c.body ≠ .endMarker k a n last) →
          (∀ tag code st rs, c.body ≠ .response tag code st rs true) →
        offerControl p c s = dropped))

/-- The READ requests that only report answer OK with the state as it stands, and change nothing; out of range
they are refused (R36, R37, R60, R121, R169, R176, R177). Read Status is taken while a cold reset is pending
too, and reports that one is (R173, R182). The results are numbered from 1, each enumeration is coded from 0
in the order of its list (R186), and the items of each report are those the statement lists. The layout of the
result items is the model's choice (log entry 12). -/
def Obligations.ReadRequestsOnlyReport : Prop :=
  ∀ (s : State) (rq : Request),
    (Receives s rq.port → 1 ≤ (s.access rq.port).code → rq.itemsOk = true →
      exec (.readStatus rq) s = .next (answerOk rq .readStatus (statusItems s) (s.got rq.port)))
    ∧ (statusItems s)[3]? = some (item 4 (if s.me.coldPending = .none then [1] else [0]))
    ∧ (Passes s rq .readCounters →
      exec (.readCounters rq) s
        = .next (answerOk rq .readCounters (counterItems (s.got rq.port)) (s.got rq.port)))
    ∧ (∀ (index : Num16) (i : CtxIx), Passes s rq .readContext → index.toNat = i.val →
      exec (.readContext rq index) s
        = .next (answerOk rq .readContext
            (items (contextBytes (s.ctx i) ++ [yesNo (s.ur.awaiting.contains i)])) (s.got rq.port)))
    ∧ (∀ index : Num16, Passes s rq .readContext → 4095 < index.toNat →
      exec (.readContext rq index) s = .next (answerNo rq .readContext .badArgument (s.got rq.port)))
    ∧ (∀ (b : Num32) (i : CtxIx), Passes s rq .findContext → b ≠ 0 → lookupBearer s.contexts b = some i →
      exec (.findContext rq b) s
        = .next (answerOk rq .findContext
            (items [beBytes 2 i.val, beBytes 2 (s.ctx i).incarnation.toNat, byte (s.ctx i).state.code])
            (s.got rq.port)))
    ∧ (∀ b : Num32, Passes s rq .findContext → b ≠ 0 → lookupBearer s.contexts b = none →
      exec (.findContext rq b) s = .next (answerNo rq .findContext .notFound (s.got rq.port)))
    ∧ (Passes s rq .findContext →
      exec (.findContext rq 0) s = .next (answerNo rq .findContext .badArgument (s.got rq.port)))
    ∧ (∀ (index : Byte) (d : ZoneIx), Passes s rq .readZone → index.toNat = d.val →
      exec (.readZone rq index) s
        = .next (answerOk rq .readZone (items [zoneBytes s.zu.table[d], yesNo (d == s.zu.zoneIx)])
            (s.got rq.port)))
    ∧ (Passes s rq .readZone →
      exec (.readZone rq 255) s
        = .next (answerOk rq .readZone
            (items [byte s.zu.zoneIx.val, zoneBytes s.zu.zone, beBytes 2 s.zu.gen.toNat]) (s.got rq.port)))
    ∧ (∀ index : Byte, Passes s rq .readZone → 63 < index.toNat → index.toNat ≠ 255 →
      exec (.readZone rq index) s = .next (answerNo rq .readZone .badArgument (s.got rq.port)))
    ∧ (∀ (index : Byte) (k : LinkIx), Passes s rq .readLink → index.toNat = k.val →
      exec (.readLink rq index) s
        = .next (answerOk rq .readLink
            (items (linkConfigBytes (s.link k).cfg ++ linkDynamicBytes (s.link k))) (s.got rq.port)))
    ∧ (∀ index : Byte, Passes s rq .readLink → 7 < index.toNat →
      exec (.readLink rq index) s = .next (answerNo rq .readLink .badArgument (s.got rq.port)))
    ∧ (∀ (index : Byte) (r : RuIx), Passes s rq .readRadioUnit → index.toNat = r.val →
      exec (.readRadioUnit rq index) s
        = .next (answerOk rq .readRadioUnit (ruItems (s.ru r)) (s.got rq.port)))
    ∧ (∀ index : Byte, Passes s rq .readRadioUnit → 15 < index.toNat →
      exec (.readRadioUnit rq index) s
        = .next (answerNo rq .readRadioUnit .badArgument (s.got rq.port)))
    ∧ (let one := fun n : Nat => [BitVec.ofNat 8 n]
      let yes := fun b : Bool => if b = true then [(0 : Byte)] else [1]
      let maybe := fun (n : Nat) (x : Option Nat) => match x with
        | none => ([] : List Byte)
        | some v => beBytes n v
      let waypoint := fun w : Waypoint =>
        beBytes 4 w.value ++ one w.heading.code ++ one w.action.code ++ yes w.armed
      let acc := fun a : Acc => beBytes 4 a.period.toNat ++ beBytes 4 a.count.toNat ++ beBytes 8 a.charge.toNat
      (∀ (vs : List (List Byte)) (k : Nat), (items vs)[k]? = vs[k]?.map fun v => ⟨BitVec.ofNat 8 (k + 1), v⟩)
      ∧ ([.free, .active, .suspended, .closing] : List CtxState).map CtxState.code = [0, 1, 2, 3]
      ∧ ([.prepaid, .postpaid] : List Account).map Account.code = [0, 1]
      ∧ ([.stopBefore, .stopAfter] : List LimitMode).map LimitMode.code = [0, 1]
      ∧ ([.lost, .fresh, .stale] : List PosState).map PosState.code = [0, 1, 2]
      ∧ ([.none, .coarse, .fine] : List Quality).map Quality.code = [0, 1, 2]
      ∧ ([.harbour, .territorial, .international] : List ZoneKind).map ZoneKind.code = [0, 1, 2]
      ∧ ([.serve, .limited, .silent] : List Permit).map Permit.code = [0, 1, 2]
      ∧ ([.open, .guarded] : List EntryKind).map EntryKind.code = [0, 1]
      ∧ ([.open, .closed] : List Gate).map Gate.code = [0, 1]
      ∧ ([.increasing, .decreasing] : List Heading).map Heading.code = [0, 1]
      ∧ ([.notify, .commit] : List WaypointAction).map WaypointAction.code = [0, 1]
      ∧ ([.microwave, .shoreCell, .satellite] : List LinkKind).map LinkKind.code = [0, 1, 2]
      ∧ ([.off, .down, .trial, .up, .impaired] : List Health).map Health.code = [0, 1, 2, 3, 4]
      ∧ ([.success, .loss] : List ProbeOutcome).map ProbeOutcome.code = [0, 1]
      ∧ ([.a, .b] : List Slot).map Slot.code = [0, 1]
      ∧ ([.now, .epoch, .waypoint] : List Trigger).map Trigger.code = [0, 1, 2]
      ∧ ([.untriggered, .waiting] : List StageCondition).map StageCondition.code = [0, 1]
      ∧ ([.full, .limited, .silent] : List ServiceLevel).map ServiceLevel.code = [0, 1, 2]
      ∧ ([.unused, .alive, .lost] : List RuState).map RuState.code = [0, 1, 2]
      ∧ ([.interval, .final, .periodSummary] : List RecordKind).map RecordKind.code = [0, 1, 2]
      ∧ ([.idle, .visiting, .paused, .summaryWait] : List SweepState).map SweepState.code = [0, 1, 2, 3]
      ∧ statusItems s
        = [⟨1, beBytes 8 s.me.clock.toNat⟩, ⟨2, beBytes 4 s.me.epochNumber.toNat⟩,
            ⟨3, beBytes 2 s.me.frameType.toNat⟩, ⟨4, yes (decide (s.me.coldPending ≠ .none))⟩,
            ⟨5, one s.zu.pos.state.code⟩, ⟨6, beBytes 4 s.zu.pos.a⟩,
            ⟨7, beBytes 2 (BitVec.ofInt 16 s.zu.pos.x).toNat⟩, ⟨8, beBytes 8 s.zu.pos.fixTime.toNat⟩,
            ⟨9, one s.zu.pos.quality.code⟩, ⟨10, one s.zu.zoneIx.val⟩, ⟨11, beBytes 2 s.zu.gen.toNat⟩,
            ⟨12, one s.zu.zone.kind.code⟩, ⟨13, maybe 1 (s.zu.candidate.map Fin.val)⟩, ⟨14, one s.zu.count⟩,
            ⟨15, one s.zu.gate.code⟩, ⟨16, waypoint s.zu.w0⟩, ⟨16, waypoint s.zu.w1⟩,
            ⟨17, maybe 1 (s.active.map Fin.val)⟩, ⟨18, one s.su.inForce.code⟩,
            ⟨19, match s.su.stage, s.su.slot s.su.inForce.other with
              | some st, some k => one k.val ++ one st.trigger.code ++ one st.condition.code
              | _, _ => []⟩,
            ⟨20, beBytes 2 s.su.switchNumber.toNat⟩, ⟨21, s.su.order.flatMap fun k => one k.val⟩]
          ++ (([0, 1, 2, 3, 4, 5, 6, 7] : List LinkIx).flatMap fun k =>
              (s.su.drain.filter fun m => m.link = k).map fun m =>
                ⟨22, one m.link.val ++ beBytes 2 m.switchNumber.toNat ++ yes m.endPlaced⟩)
          ++ [⟨23, one s.cs.level.code⟩, ⟨24, maybe 8 (s.cs.grace.map BitVec.toNat)⟩,
            ⟨25, beBytes 2 s.cs.hold.length⟩, ⟨26, beBytes 4 (bytesOf s.cs.hold)⟩, ⟨27, one s.tc.floor.val⟩,
            ⟨28, beBytes 2 s.ur.urq.length⟩, ⟨29, yes s.ur.outstanding.isSome⟩,
            ⟨30, beBytes 2 s.ur.awaiting.length⟩, ⟨31, beBytes 4 s.ur.period.toNat⟩,
            ⟨32, one s.ur.sweep.code⟩, ⟨33, beBytes 2 s.ur.position⟩,
            ⟨34, maybe 4 (s.ur.closing.map BitVec.toNat)⟩, ⟨35, acc s.ur.accCurrent⟩,
            ⟨35, acc s.ur.accOther⟩]
      ∧ counterItems s
        = (([(.badFrame, .uplink), (.badFrame, .downlink), (.unknownRu, .uplink), (.linkUnknown, .downlink),
              (.noContext, .uplink), (.noContext, .downlink), (.notActive, .uplink), (.notActive, .downlink),
              (.roamBarred, .uplink), (.roamBarred, .downlink), (.exhausted, .uplink),
              (.exhausted, .downlink), (.silent, .uplink), (.silent, .downlink), (.floor, .uplink),
              (.floor, .downlink), (.ruLost, .downlink), (.egressFull, .uplink), (.egressFull, .downlink),
              (.holdFull, .uplink), (.holdAged, .uplink), (.staleContext, .uplink),
              (.staleContext, .downlink), (.quota, .uplink), (.quota, .downlink), (.backlog, .uplink),
              (.backlog, .downlink)] : List (DropReason × Dir)).map fun x =>
            ⟨1, beBytes 4 (s.dropCount x.1 x.2).toNat⟩)
          ++ (([.cell 0, .cell 1, .cell 2, .cell 3, .shore 0, .shore 1, .shore 2, .shore 3] : List Port).map
            fun p => ⟨2, beBytes 4 (s.port p).received.toNat ++ beBytes 4 (s.port p).transmitted.toNat⟩)
          ++ [⟨3, beBytes 4 s.zu.pos.rejected.toNat⟩]
      ∧ (∀ iv : Interval, intervalBytes none = [] ∧ intervalBytes (some iv)
        = beBytes 4 iv.period.toNat ++ one iv.zoneIx.val ++ beBytes 2 iv.zoneGen.toNat ++ one iv.realm.val
          ++ one iv.plan.val ++ beBytes 8 iv.start.toNat ++ beBytes 8 iv.last.toNat ++ beBytes 8 iv.up.toNat
          ++ beBytes 8 iv.down.toNat ++ beBytes 8 iv.free.toNat ++ beBytes 8 iv.frames.toNat
          ++ beBytes 8 iv.charge.toNat)
      ∧ (∀ r : Record, awaitingBytes none = [] ∧ awaitingBytes (some r)
        = beBytes 4 r.period.toNat ++ one r.zoneIx.val ++ beBytes 2 r.zoneGen.toNat ++ one r.realm.val
          ++ one r.plan.val ++ beBytes 8 r.start.toNat ++ beBytes 8 r.stop.toNat ++ beBytes 8 r.up.toNat
          ++ beBytes 8 r.down.toNat ++ beBytes 8 r.free.toNat ++ beBytes 8 r.frames.toNat
          ++ beBytes 8 r.charge.toNat ++ one r.kind.code
          ++ beBytes 8 (BitVec.ofInt 64 r.balanceAfter).toNat ++ beBytes 4 r.remainder)
      ∧ (∀ c : Context, contextBytes c
        = [one c.state.code, beBytes 2 c.incarnation.toNat, beBytes 4 c.bearerId.toNat, one c.cls.val,
            one c.plan.val, one c.homeRealm.val, c.roamSet.flatMap fun r => one r.val, one c.account.code,
            beBytes 8 (BitVec.ofInt 64 c.balance).toNat, beBytes 8 c.lowThreshold, one c.limitMode.code,
            yes c.exhausted, yes c.low, beBytes 4 c.allowance, beBytes 4 c.remainder, one c.servingRu.val,
            beBytes 2 c.notifiedGen.toNat, intervalBytes c.openIv, awaitingBytes c.awaiting])
      ∧ (∀ z : Zone, zoneBytes z
        = yes z.present ++ beBytes 4 z.start ++ beBytes 4 z.length ++ beBytes 2 z.crossLimit ++ one z.kind.code
          ++ one z.realm.val ++ one z.permit.code ++ one z.entryKind.code ++ one z.admission
          ++ beBytes 2 z.rates[0].toNat ++ beBytes 2 z.rates[1].toNat ++ beBytes 2 z.rates[2].toNat
          ++ beBytes 2 z.rates[3].toNat ++ one z.linkMask.length ++ z.linkMask.flatMap fun k => one k.val)
      ∧ (∀ l : Link, linkConfigBytes l.cfg ++ linkDynamicBytes l
        = [yes l.cfg.enabled, one (4 + l.cfg.port.val), one l.cfg.kind.code, beBytes 2 l.cfg.anchorId.toNat,
            beBytes 6 l.cfg.anchorAddr.toNat, beBytes 2 l.cfg.multiplier.val, one l.cfg.upFloor.val,
            one l.cfg.impairedFloor.val, beBytes 4 l.cfg.probeInterval, one l.cfg.upCount,
            one l.cfg.downCount, one l.cfg.impairLoss, one l.cfg.recoverLoss, beBytes 4 l.cfg.rttLimit,
            beBytes 4 l.cfg.rttRecover, beBytes 4 l.cfg.startSeq.toNat,
            one l.health.code, beBytes 2 l.successes, beBytes 2 l.losses,
            l.outcomes.flatMap fun o => one o.code, maybe 4 l.s8,
            (match l.outstanding with
              | none => []
              | some (n, t) => beBytes 2 n.toNat ++ beBytes 8 t.toNat),
            beBytes 2 l.nextProbe.toNat, maybe 8 (l.probeAt.map BitVec.toNat), beBytes 4 l.nextSeq.toNat,
            beBytes 8 l.framesSent.toNat, beBytes 8 l.bytesSent.toNat, beBytes 4 l.faults.toNat,
            beBytes 4 l.lateEchoes.toNat, maybe 4 (l.s8.map fun x => x / 8)])
      ∧ (∀ u : RadioUnit, ruItems u
        = items [yes (decide (u.state ≠ .unused)), one u.port.val, beBytes 6 u.addr.toNat, one u.state.code,
            maybe 8 (u.lastStatus.map BitVec.toNat), maybe 8 (u.deadline.map BitVec.toNat),
            beBytes 2 u.attached.toNat, beBytes 4 u.heartbeats.toNat]))

/-- Read Events reports every pending kind in the table's order, marks exactly those seen, and changes
nothing else (R180). Clear Events clears the named kinds that are pending and seen, keeps their level and
detail, leaves every other entry, and names the kinds cleared and those still pending; a kind past the
sixteen is refused (R181). The layout of the result items is the model's choice (log entry 12), and so is that
a set which names a kind twice is the set of its members (log entry 11). -/
def Obligations.EventsAreShownThenCleared : Prop :=
  (∀ (s : State) (rq : Request), Passes s rq .readEvents →
     ∃ t : State,
       exec (.readEvents rq) s
         = .next (answerOk rq .readEvents
             ((EventKind.all.filter fun k => (s.event k).pending).map fun k =>
               item 1 (byte k.ix.val ++ byte (s.event k).level.val ++ detailBytes (s.event k).detail
                 ++ yesNo (s.event k).seen)) t)
       ∧ t = { s.got rq.port with me := { s.me with events := t.me.events } }
       ∧ ∀ k, t.event k
           = (if (s.event k).pending = true then { s.event k with seen := true } else s.event k))
  ∧ (∀ (s : State) (rq : Request) (kinds : List Byte), Passes s rq .clearEvents → kinds.length ≤ 16 →
       ((∃ b ∈ kinds, 16 ≤ b.toNat) →
         exec (.clearEvents rq kinds) s = .next (answerNo rq .clearEvents .badArgument (s.got rq.port)))
       ∧ ((∀ b ∈ kinds, b.toNat < 16) →
         let named := EventKind.all.filter fun k => kinds.any fun b => b.toNat == k.ix.val
         let hit := fun k => (s.event k).pending && (s.event k).seen
         let rest := fun k => (s.event k).pending && !(s.event k).seen
         ∃ t : State,
           exec (.clearEvents rq kinds) s
             = .next (answerOk rq .clearEvents
                 [item 1 ((named.filter hit).flatMap fun k => byte k.ix.val),
                  item 2 ((named.filter rest).flatMap fun k => byte k.ix.val)] t)
           ∧ t = { s.got rq.port with me := { s.me with events := t.me.events } }
           ∧ ∀ k, t.event k
               = (if k ∈ named ∧ hit k = true then { s.event k with pending := false, seen := false }
                  else s.event k)))

/-- Every raising makes its kind pending with its detail, leaves the other kinds, and builds a notice when
the level is above the notice floor and a destination is set: only then is the kind seen (R178, R179). -/
def Obligations.RaisingWritesItsEntry : Prop :=
  ∀ (s : State) (k : EventKind) (d : Option Detail),
    let noticed := s.me.noticeFloor < (s.event k).level ∧ s.me.noticeDest.isSome = true
    (raise k d s).event k
      = { pending := true, seen := decide noticed, level := (s.event k).level, detail := d }
    ∧ (∀ j, j ≠ k → (raise k d s).event j = s.event j)
    ∧ (∀ (p : Port) (a : Addr), s.me.noticeDest = some (p, a) → s.me.noticeFloor < (s.event k).level →
      (s.port p).queue.length < 512 →
      ((raise k d s).port p).queue
        = (s.port p).queue ++ [{ body := .control { dst := a, body := .notice k (s.event k).level s.me.clock d },
                                 placed := s.me.clock }])
    ∧ (¬ noticed → (raise k d s).ports = s.ports)

/-! ## Contexts -/

/-- A Create Context that passes R30 takes the FREE context of lowest index, counts its incarnation up, and
sets the record as R31 gives; the response gives index and incarnation. That a roam set which names a realm
twice is taken as the set of its members is the model's choice (log entry 11). -/
def Obligations.CreateContextTakesLowestFree : Prop :=
  ∀ (s : State) (rq : Request) (a : CreateArgs) (v : CreateValues) (i : CtxIx),
    Passes s rq .createContext → a.bearerId ≠ 0 → a.roamSet.length ≤ 15 →
    a.cls.toNat = v.cls.val → v.cls ≠ 0 → a.plan.toNat = v.plan.val → a.homeRealm.toNat = v.homeRealm.val →
    a.servingRu.toNat = v.servingRu.val → readRoamSet a.roamSet = some v.roamSet →
    a.account.toNat = v.account.code → (v.account = .prepaid → a.limitMode.toNat = v.limitMode.code) →
    (v.account = .postpaid → v.limitMode = .stopBefore) →
    (v.account = .prepaid →
      1 ≤ a.balance.toInt ∧ a.balance.toInt ≤ 9999999999 ∧ a.lowThreshold.toNat ≤ 9999999999) →
    (∀ j, (s.ctx j).state ≠ .free → (s.ctx j).bearerId ≠ a.bearerId) →
    (s.zu.gate = .open ∨ s.zu.zone.admission ≤ v.cls.val) →
    (s.ctx i).state = .free → (∀ j < i, (s.ctx j).state ≠ .free) →
    exec (.createContext rq a) s
      = .next (answerOk rq .createContext
          [item 1 (beBytes 2 i.val), item 2 (beBytes 2 ((s.ctx i).incarnation + 1).toNat)]
          ((s.got rq.port).setCtx i
            { state := .active, incarnation := (s.ctx i).incarnation + 1, bearerId := a.bearerId,
              cls := v.cls, plan := v.plan, homeRealm := v.homeRealm, roamSet := v.roamSet,
              account := v.account,
              balance := (if v.account = .prepaid then a.balance.toInt else 0),
              lowThreshold := (if v.account = .prepaid then a.lowThreshold.toNat else 0),
              limitMode := v.limitMode, exhausted := false, low := false,
              allowance := a.allowance.toNat, remainder := 0, servingRu := v.servingRu,
              notifiedGen := s.zu.gen - 1, openIv := none, awaiting := none }))

/-- The checks of Create Context in the order of R30: the first that fails gives the status, and no context
changes. That a roam set which names a realm twice passes as the set of its members, and that a balance with
its top bit set is a negative amount, refused BAD_ARGUMENT, are the model's choices (log entry 11). -/
def Obligations.CreateContextRefusesInOrder : Prop :=
  ∀ (s : State) (rq : Request) (a : CreateArgs), Passes s rq .createContext → a.roamSet.length ≤ 15 →
    let no := fun st => Host.Outcome.next (φ := Fault) (ρ := Refusal)
      (answerNo rq .createContext st (s.got rq.port))
    (a.bearerId = 0 ∨ a.cls = 0 ∨ 7 < a.cls.toNat ∨ 3 < a.plan.toNat ∨ 15 < a.homeRealm.toNat
        ∨ 15 < a.servingRu.toNat ∨ (∃ b ∈ a.roamSet, b = 0 ∨ 15 < b.toNat) ∨ 1 < a.account.toNat
        ∨ (a.account = 0 ∧ 1 < a.limitMode.toNat) →
      exec (.createContext rq a) s = no .badArgument)
    ∧ (∀ v, createValues a = some v →
      (v.account = .prepaid → 9999999999 < a.balance.toInt ∨ 9999999999 < a.lowThreshold.toNat →
        exec (.createContext rq a) s = no .overLimit)
      ∧ (v.account = .prepaid → a.balance.toInt < 1 → a.lowThreshold.toNat ≤ 9999999999 →
        exec (.createContext rq a) s = no .badArgument)
      ∧ ((v.account = .prepaid → 1 ≤ a.balance.toInt ∧ a.balance.toInt ≤ 9999999999
            ∧ a.lowThreshold.toNat ≤ 9999999999) →
        ((∃ j, (s.ctx j).state ≠ .free ∧ (s.ctx j).bearerId = a.bearerId) →
          exec (.createContext rq a) s = no .duplicate)
        ∧ ((∀ j, (s.ctx j).state ≠ .free → (s.ctx j).bearerId ≠ a.bearerId) →
          (s.zu.gate = .closed → v.cls.val < s.zu.zone.admission →
            exec (.createContext rq a) s = no .attachClosed)
          ∧ (s.zu.gate = .open ∨ s.zu.zone.admission ≤ v.cls.val → (∀ j, (s.ctx j).state ≠ .free) →
            exec (.createContext rq a) s = no .tableFull))))

/-- The checks of R29 on every request that names a context, and WRONG_STATE for one that is CLOSING
(R39). -/
def Obligations.NamedContextChecks : Prop :=
  ∀ (i : Instr) (rq : Request) (cmd : Command) (n : CtxName) (s : State),
    namingOf i = some (rq, cmd, n) → Passes s rq cmd →
    (4095 < n.index.toNat → exec i s = .next (answerNo rq cmd .badArgument (s.got rq.port)))
    ∧ (∀ c : CtxIx, n.index.toNat = c.val →
      ((s.ctx c).state = .free ∨ (s.ctx c).incarnation ≠ n.incarnation →
        exec i s = .next (answerNo rq cmd .notFound (s.got rq.port)))
      ∧ ((s.ctx c).incarnation = n.incarnation → (s.ctx c).state = .closing →
        exec i s = .next (answerNo rq cmd .wrongState (s.got rq.port))))

/-- A Modify Context is refused WRONG_STATE for a CLOSING context, and for a low threshold or limit mode given
for a POSTPAID one; then BAD_ARGUMENT for a value outside its range or list; then OVER_LIMIT for a low
threshold above 9,999,999,999 (R32). One that passes these and closes no interval writes exactly the values
given, and clears the low mark when the balance is at least a new threshold (R32, R33). The layout of the
result items, the record as one item for each field among it, is the model's choice (log entry 12), and so are
that a roam set which names a realm twice is taken as the set of its members and that one of more than 15
members is refused at this check (log entry 11). -/
def Obligations.ModifyContextWritesGivenValues : Prop :=
  ∀ (s : State) (rq : Request) (n : CtxName) (a : ModifyArgs) (i : CtxIx),
    Passes s rq .modifyContext → Names s n i →
    let c := s.ctx i
    let settled := c.account = .postpaid ∧ (a.lowThreshold ≠ none ∨ a.limitMode ≠ none)
    let beyond := ∃ t, a.lowThreshold = some t ∧ 9999999999 < t.toNat
    let refusedAs := fun st : Status =>
      exec (.modifyContext rq n a) s = .next (answerNo rq .modifyContext st (s.got rq.port))
    (c.state = .closing ∨ settled → refusedAs .wrongState)
    ∧ (c.state ≠ .closing → ¬ settled → Unlisted a → refusedAs .badArgument)
    ∧ (c.state ≠ .closing → ¬ settled → ¬ Unlisted a → beyond → refusedAs .overLimit)
    ∧ (¬ Unlisted a → ∃ v, GivesValues a v)
    ∧ (∀ v : ModifyValues, c.state ≠ .closing → ¬ settled → GivesValues a v → ¬ beyond →
        (v.plan = none ∨ v.plan = some c.plan ∨ c.openIv = none) →
      let c' : Context :=
        { c with
          cls := v.cls.getD c.cls, plan := v.plan.getD c.plan, homeRealm := v.homeRealm.getD c.homeRealm
          roamSet := v.roamSet.getD c.roamSet, limitMode := v.limitMode.getD c.limitMode
          lowThreshold := (match a.lowThreshold with
            | some t => t.toNat
            | none => c.lowThreshold)
          low := (match a.lowThreshold with
            | some t => c.low && decide (c.balance < t.toNat)
            | none => c.low) }
      exec (.modifyContext rq n a) s
        = .next (answerOk rq .modifyContext (items (contextBytes c')) ((s.got rq.port).setCtx i c')))

/-- A Modify Context that changes the plan of a context with an open interval closes it as an INTERVAL record,
into the URQ or into the awaiting slot, and writes the new plan with every other value given; with that slot
occupied it is refused BACKLOG, with RECORD_BACKLOG raised and nothing written (R32, R33, R101). The record's
fields are those of R100: of the interval, and of the context before the change. The layout of the result
items is the model's choice (log entry 12), and so is that a roam set which names a realm twice is taken as
the set of its members (log entry 11). That the response is offered after the notice of RECORD_BACKLOG is
inferred (log entry 21). -/
def Obligations.PlanChangeClosesInterval : Prop :=
  ∀ (s : State) (rq : Request) (n : CtxName) (a : ModifyArgs) (i : CtxIx) (v : ModifyValues) (p : Plan)
      (iv : Interval),
    Passes s rq .modifyContext → Names s n i → (s.ctx i).state ≠ .closing →
    ((s.ctx i).account = .postpaid → a.lowThreshold = none ∧ a.limitMode = none) →
    GivesValues a v → (∀ t, a.lowThreshold = some t → t.toNat ≤ 9999999999) →
    v.plan = some p → p ≠ (s.ctx i).plan → (s.ctx i).openIv = some iv →
    let c := s.ctx i
    let r : Record :=
      { kind := .interval, plan := iv.plan, zoneIx := iv.zoneIx, realm := iv.realm, period := iv.period
        ctx := i, incarnation := c.incarnation, bearerId := c.bearerId, zoneGen := iv.zoneGen
        start := iv.start, stop := iv.last, up := iv.up, down := iv.down, free := iv.free
        frames := iv.frames, charge := iv.charge
        balanceAfter := if c.account = .prepaid then c.balance else 0, remainder := 0 }
    let c' : Context :=
      { c with
        cls := v.cls.getD c.cls, plan := p, homeRealm := v.homeRealm.getD c.homeRealm
        roamSet := v.roamSet.getD c.roamSet, limitMode := v.limitMode.getD c.limitMode
        lowThreshold := (match a.lowThreshold with
          | some t => t.toNat
          | none => c.lowThreshold)
        low := (match a.lowThreshold with
          | some t => c.low && decide (c.balance < t.toNat)
          | none => c.low)
        openIv := none }
    let c'' : Context := { c' with awaiting := some r }
    let s' := s.got rq.port
    (s.ur.urq.length < 256 → s.ur.awaiting = [] →
      exec (.modifyContext rq n a) s
        = .next (answerOk rq .modifyContext (items (contextBytes c')) (urqEnter r (s'.setCtx i c'))))
    ∧ (256 ≤ s.ur.urq.length ∨ s.ur.awaiting ≠ [] → c.awaiting = none →
      exec (.modifyContext rq n a) s
        = .next (answerOk rq .modifyContext (items (contextBytes c''))
            { s'.setCtx i c'' with ur := { s.ur with awaiting := s.ur.awaiting ++ [i] } }))
    ∧ (256 ≤ s.ur.urq.length ∨ s.ur.awaiting ≠ [] → c.awaiting ≠ none →
      exec (.modifyContext rq n a) s
        = .next (answerNo rq .modifyContext .backlog (raise .recordBacklog (some (.context i)) s')))

/-- Suspend makes an ACTIVE context SUSPENDED and Resume the reverse, each with its bearer notice; in any
other state they are refused WRONG_STATE (R34, R35). That the response is offered after the bearer notice is
inferred (log entry 21). -/
def Obligations.SuspendAndResumeChangeState : Prop :=
  ∀ (s : State) (rq : Request) (n : CtxName) (i : CtxIx), Names s n i →
    (Passes s rq .suspendContext →
      ((s.ctx i).state = .active →
        exec (.suspendContext rq n) s
          = .next (answerOk rq .suspendContext []
              (sendBearerNotice i { s.ctx i with state := .suspended } .suspended
                ((s.got rq.port).setCtx i { s.ctx i with state := .suspended }))))
      ∧ ((s.ctx i).state ≠ .active →
        exec (.suspendContext rq n) s
          = .next (answerNo rq .suspendContext .wrongState (s.got rq.port))))
    ∧ (Passes s rq .resumeContext →
      ((s.ctx i).state = .suspended →
        exec (.resumeContext rq n) s
          = .next (answerOk rq .resumeContext []
              (sendBearerNotice i { s.ctx i with state := .active } .resumed
                ((s.got rq.port).setCtx i { s.ctx i with state := .active }))))
      ∧ ((s.ctx i).state ≠ .suspended →
        exec (.resumeContext rq n) s
          = .next (answerNo rq .resumeContext .wrongState (s.got rq.port))))

/-- A Top Up that passes R93 adds to balance and allowance, and clears the exhausted mark when the balance is
above 0 and the low mark when it is at least the threshold (R94); it is refused in the order of R93. The
layout of the result items, the two marks under identifiers 3 and 4 among it, is the model's choice (log entry
12). -/
def Obligations.TopUpAddsMoneyAndAllowance : Prop :=
  ∀ (s : State) (rq : Request) (n : CtxName) (i : CtxIx) (m : BitVec 64) (l : BitVec 32),
    Passes s rq .topUp → Names s n i → (s.ctx i).state ≠ .closing →
    let c := s.ctx i
    let no := fun st => Host.Outcome.next (φ := Fault) (ρ := Refusal) (answerNo rq .topUp st (s.got rq.port))
    (c.account = .postpaid → exec (.topUp rq n m l) s = no .wrongState)
    ∧ (c.account = .prepaid → m = 0 → l = 0 → exec (.topUp rq n m l) s = no .badArgument)
    ∧ (c.account = .prepaid → (m ≠ 0 ∨ l ≠ 0) →
        9999999999 < m.toNat ∨ 9999999999 < c.balance + m.toNat ∨ 4294967295 < c.allowance + l.toNat →
      exec (.topUp rq n m l) s = no .overLimit)
    ∧ (c.account = .prepaid → (m ≠ 0 ∨ l ≠ 0) → m.toNat ≤ 9999999999 → c.balance + m.toNat ≤ 9999999999 →
        c.allowance + l.toNat ≤ 4294967295 →
      let c' : Context :=
        { c with
          balance := c.balance + m.toNat, allowance := c.allowance + l.toNat
          exhausted := c.exhausted && decide (c.balance + m.toNat ≤ 0)
          low := c.low && decide (c.balance + m.toNat < c.lowThreshold) }
      exec (.topUp rq n m l) s
        = .next (answerOk rq .topUp
            (items [beInt64 c'.balance, beBytes 4 c'.allowance, yesNo c'.exhausted, yesNo c'.low])
            ((s.got rq.port).setCtx i c')))

/-- Release Context forms the FINAL record of the open interval, or of a zero one, and places it: into the
URQ, the context becoming FREE with its incarnation, or into the awaiting slot, the context becoming CLOSING;
a RELEASED notice goes to the unit it had. With the slot occupied it is refused BACKLOG (R38, R40). A record
has the fields of its interval, with the interval's last route time as its end; index, incarnation and bearer
ID of the context; the balance after of a PREPAID context, 0 for a POSTPAID one; and the remainder in a FINAL
record alone (R100). That the response is offered after the bearer notice is inferred (log entry 21). -/
def Obligations.ReleaseContextPlacesFinalRecord : Prop :=
  ∀ (s : State) (rq : Request) (n : CtxName) (i : CtxIx), Passes s rq .releaseContext → Names s n i →
    (s.ctx i).state ≠ .closing →
    let c := s.ctx i
    let zero : Interval :=
      { period := s.ur.period, zoneIx := s.zu.zoneIx, zoneGen := s.zu.gen, realm := s.zu.zone.realm,
        plan := c.plan, start := s.me.clock, last := s.me.clock, up := 0, down := 0, free := 0, frames := 0,
        charge := 0 }
    let iv := c.openIv.getD zero
    let r : Record :=
      { kind := .final, plan := iv.plan, zoneIx := iv.zoneIx, realm := iv.realm, period := iv.period
        ctx := i, incarnation := c.incarnation, bearerId := c.bearerId, zoneGen := iv.zoneGen
        start := iv.start, stop := iv.last, up := iv.up, down := iv.down, free := iv.free
        frames := iv.frames, charge := iv.charge
        balanceAfter := if c.account = .prepaid then c.balance else 0, remainder := c.remainder }
    let s' := s.got rq.port
    (c.awaiting = none → s.ur.urq.length < 256 → s.ur.awaiting = [] →
      exec (.releaseContext rq n) s
        = .next (answerOk rq .releaseContext [item 1 (byte 0)]
            (sendBearerNotice i c .released
              (urqEnter r (s'.setCtx i (Context.freeAt c.incarnation))))))
    ∧ (c.awaiting = none → 256 ≤ s.ur.urq.length ∨ s.ur.awaiting ≠ [] →
      exec (.releaseContext rq n) s
        = .next (answerOk rq .releaseContext [item 1 (byte 3)]
            (sendBearerNotice i c .released
              { s'.setCtx i { c with state := .closing, openIv := none, awaiting := some r } with
                ur := { s.ur with awaiting := s.ur.awaiting ++ [i] } })))
    ∧ (c.awaiting ≠ none →
      exec (.releaseContext rq n) s
        = .next (answerNo rq .releaseContext .backlog (raise .recordBacklog (some (.context i)) s')))
    ∧ (∀ iv : Interval, recordOf .final i c iv
        = { recordOf .interval i c iv with kind := .final, remainder := c.remainder })
    ∧ (∀ iv : Interval, recordOf .interval i c iv
        = { kind := .interval, plan := iv.plan, zoneIx := iv.zoneIx, realm := iv.realm, period := iv.period
            ctx := i, incarnation := c.incarnation, bearerId := c.bearerId, zoneGen := iv.zoneGen
            start := iv.start, stop := iv.last, up := iv.up, down := iv.down, free := iv.free
            frames := iv.frames, charge := iv.charge
            balanceAfter := if c.account = .prepaid then c.balance else 0, remainder := 0 })

/-- A record that enters the URQ is added to the accumulator of its period, takes that count as its number
and stands at the tail, while the count is within its 32 bits and the total within its 64 (R103, R112). The
period summary enters when the sweep waits for it, no awaiting interval of its period is left and the URQ has
room: it carries count and charge, takes the next number, raises PERIOD_CLOSED and ends the sweep (R111).
That a step before its time or without its condition does nothing is the model's choice (log entry 1). -/
def Obligations.UrqEntriesAreNumbered : Prop :=
  (∀ (s : State) (r : Record),
     (s.ur.accCurrent.period = r.period → s.ur.accCurrent.count.toNat + 1 < 2 ^ 32 →
         s.ur.accCurrent.charge.toNat + r.charge.toNat < 2 ^ 64 →
       urqEnter r s = { s with ur := { s.ur with
         accCurrent :=
           { s.ur.accCurrent with
             count := s.ur.accCurrent.count + 1, charge := s.ur.accCurrent.charge + r.charge }
         urq := s.ur.urq ++ [{ body := r, number := s.ur.accCurrent.count + 1 }] } })
     ∧ (s.ur.accCurrent.period ≠ r.period → s.ur.accOther.count.toNat + 1 < 2 ^ 32 →
         s.ur.accOther.charge.toNat + r.charge.toNat < 2 ^ 64 →
       urqEnter r s = { s with ur := { s.ur with
         accOther :=
           { s.ur.accOther with
             count := s.ur.accOther.count + 1, charge := s.ur.accOther.charge + r.charge }
         urq := s.ur.urq ++ [{ body := r, number := s.ur.accOther.count + 1 }] } }))
  ∧ (∀ (s : State) (p : Num32), s.resetHeld = false → s.ur.sweep = .summaryWait → s.ur.closing = some p →
     ((∀ i r, (s.ctx i).awaiting = some r → r.period ≠ p) → s.ur.urq.length < 256 →
         s.ur.accOther.count.toNat + 1 < 2 ^ 32 →
       let r : Record :=
         { kind := .periodSummary, plan := 0, zoneIx := 0, realm := 0, period := p, ctx := 0, incarnation := 0
           bearerId := 0, zoneGen := 0, start := 0, stop := 0, up := 0, down := 0, free := 0
           frames := s.ur.accOther.count.setWidth 64, charge := s.ur.accOther.charge, balanceAfter := 0
           remainder := 0 }
       let t := raise .periodClosed (some (.period p))
         { s with ur := { s.ur with
             urq := s.ur.urq ++ [{ body := r, number := s.ur.accOther.count + 1 }] } }
       exec .periodSummary s = .next { t with ur := { t.ur with sweep := .idle, closing := none } })
     ∧ ((∃ i r, (s.ctx i).awaiting = some r ∧ r.period = p) ∨ 256 ≤ s.ur.urq.length →
       exec .periodSummary s = .next s))

/-- Close Period with the sweep IDLE closes the current period and starts the sweep at index 0; otherwise it
is refused BUSY (R108). A visit closes the open interval of its context when it is of the closing period and
the URQ takes it, as the INTERVAL record of R100, and pauses the sweep when the URQ does not; it goes on to
the next index, and past 4,095 to SUMMARY_WAIT (R109, R110). That a step before its time or without its
condition does nothing is the model's choice (log entry 1). The position 4,096 of a sweep that has passed the
last index is the model's (log entry 18). -/
def Obligations.ClosePeriodSweepsTheTable : Prop :=
  (∀ (s : State) (rq : Request), Passes s rq .closePeriod →
     (s.ur.sweep ≠ .idle →
       exec (.closePeriod rq) s = .next (answerNo rq .closePeriod .busy (s.got rq.port)))
     ∧ (s.ur.sweep = .idle →
       exec (.closePeriod rq) s
         = .next (answerOk rq .closePeriod
             [item 1 (beBytes 4 s.ur.period.toNat), item 2 (beBytes 4 (s.ur.period + 1).toNat)]
             { s.got rq.port with ur := { s.ur with
                 closing := some s.ur.period, period := s.ur.period + 1, accOther := s.ur.accCurrent
                 accCurrent := { period := s.ur.period + 1, count := 0, charge := 0 }
                 sweep := .visiting, position := 0 } })))
  ∧ (∀ (s : State) (i : CtxIx), s.resetHeld = false →
     let on : Ur → Ur := fun ur =>
       { ur with position := i.val + 1, sweep := if i.val = 4095 then .summaryWait else .visiting }
     (s.ur.sweep = .visiting → s.ur.position = i.val →
       ((∀ iv, (s.ctx i).openIv = some iv → some iv.period ≠ s.ur.closing) →
         exec .sweepVisit s = .next { s with ur := on s.ur })
       ∧ (∀ iv, (s.ctx i).openIv = some iv → some iv.period = s.ur.closing →
         let c := s.ctx i
         let r : Record :=
           { kind := .interval, plan := iv.plan, zoneIx := iv.zoneIx, realm := iv.realm, period := iv.period
             ctx := i, incarnation := c.incarnation, bearerId := c.bearerId, zoneGen := iv.zoneGen
             start := iv.start, stop := iv.last, up := iv.up, down := iv.down, free := iv.free
             frames := iv.frames, charge := iv.charge
             balanceAfter := if c.account = .prepaid then c.balance else 0, remainder := 0 }
         (s.ur.urq.length < 256 → s.ur.awaiting = [] →
           let t := urqEnter r (s.setCtx i { s.ctx i with openIv := none })
           exec .sweepVisit s = .next { t with ur := on t.ur })
         ∧ (256 ≤ s.ur.urq.length ∨ s.ur.awaiting ≠ [] →
           exec .sweepVisit s = .next { s with ur := { s.ur with sweep := .paused } })))
     ∧ (s.ur.sweep = .paused →
       (s.ur.urq.length < 256 → s.ur.awaiting = [] →
         exec .sweepVisit s = exec .sweepVisit { s with ur := { s.ur with sweep := .visiting } })
       ∧ (256 ≤ s.ur.urq.length ∨ s.ur.awaiting ≠ [] → exec .sweepVisit s = .next s))
     ∧ (s.ur.sweep = .idle ∨ s.ur.sweep = .summaryWait → exec .sweepVisit s = .next s))

/-! ## Position, zones and the attach gate -/

/-- The candidate is the first of descriptors 1 to 63 that covers the position, when that descriptor is
present, and 0 otherwise; ZONE_FAULT is raised exactly when the first match is absent (R55). -/
def Obligations.CandidateIsFirstCovering : Prop :=
  ∀ (s : State) (a : Nat) (x : Int),
    let covers := fun d : ZoneIx =>
      s.zu.table[d].start ≤ a ∧ a < s.zu.table[d].start + s.zu.table[d].length
        ∧ x.natAbs ≤ s.zu.table[d].crossLimit
    (∀ d : ZoneIx, d ≠ 0 → covers d → (∀ e : ZoneIx, e ≠ 0 → e < d → ¬ covers e) →
      (s.zu.table[d].present = true → candidateOf s.zu.table a x = d ∧ zoneFault a x s = s)
      ∧ (s.zu.table[d].present = false →
        candidateOf s.zu.table a x = 0 ∧ zoneFault a x s = raise .zoneFault (some (.zoneIndex d)) s))
    ∧ ((∀ d : ZoneIx, d ≠ 0 → ¬ covers d) → candidateOf s.zu.table a x = 0 ∧ zoneFault a x s = s)

/-- A zone change to descriptor d copies it into the zone in force with its index, counts the generation up,
sets the attach gate from its entry kind, and leaves ZONE_CHANGE pending with d and the new generation; it
touches no descriptor, no position, no candidate, no comparator and no context (R57, R73). It is then handed
to SU, as StageRequestsSteer has it, and in one hand-over with the switch SU makes to CS, as
CoverageDeadlinesAct has it (R57). -/
def Obligations.ZoneChangeCopiesDescriptor : Prop :=
  ∀ (s : State) (d : ZoneIx),
    (zoneChange d s).zu
      = { s.zu with
          zoneIx := d, zone := s.zu.table[d], gen := s.zu.gen + 1
          gate := (if s.zu.table[d].entryKind = .guarded then .closed else .open) }
    ∧ ((zoneChange d s).event .zoneChange).pending = true
    ∧ ((zoneChange d s).event .zoneChange).detail = some (.zone d (s.zu.gen + 1))
    ∧ (zoneChange d s).contexts = s.contexts
    ∧ (let gate : Gate := if s.zu.table[d].entryKind = .guarded then .closed else .open
      let copied : State :=
        { s with zu := { s.zu with zoneIx := d, zone := s.zu.table[d], gen := s.zu.gen + 1 } }
      let raised := raise .zoneChange (some (.zone d (s.zu.gen + 1))) copied
      let r := suZoneChanged { raised with zu := { raised.zu with gate := gate } }
      zoneChange d s = csHandover (decide (gate ≠ s.zu.gate)) r.switched r.state)

/-- A Position Report of quality NONE is not used, and one beyond the max step in FRESH or STALE only adds one
to the rejected count; a fix time in the future or an A beyond the route is refused (R46, R47, R48). The
response gives the outcome and ZU as it stands after the report (R46). The layout of the result items is the
model's choice (log entry 12). -/
def Obligations.PositionReportIsNotUsedOrRejected : Prop :=
  ∀ (s : State) (rq : Request) (a : PositionArgs), Passes s rq .positionReport →
    let s' := s.got rq.port
    (1048575 < a.a.toNat ∨ s.me.clock.toNat < a.fixTime.toNat ∨ 2 < a.quality.toNat →
      exec (.positionReport rq a) s = .next (answerNo rq .positionReport .badArgument s'))
    ∧ (a.a.toNat ≤ 1048575 → a.fixTime.toNat ≤ s.me.clock.toNat →
      (a.quality = 0 →
        exec (.positionReport rq a) s
          = .next (answerOk rq .positionReport (reportItems .notUsed s.zu s.zu) s'))
      ∧ (a.quality = 1 ∨ a.quality = 2 → s.zu.pos.state ≠ .lost →
        s.zu.maxStep < max a.a.toNat s.zu.pos.a - min a.a.toNat s.zu.pos.a →
        let zu : Zu := { s.zu with pos := { s.zu.pos with rejected := s.zu.pos.rejected + 1 } }
        exec (.positionReport rq a) s
          = .next (answerOk rq .positionReport (reportItems .rejected s.zu zu) { s' with zu := zu })))
    ∧ (∀ (o : ReportOutcome) (before after : Zu), reportItems o before after
      = [⟨1, [match o with
              | .notUsed => 0
              | .rejected => 1
              | .used => 2]⟩, ⟨2, [BitVec.ofNat 8 after.pos.state.code]⟩,
          ⟨3, [BitVec.ofNat 8 after.zoneIx.val]⟩, ⟨4, beBytes 2 after.gen.toNat⟩,
          ⟨5, match after.candidate with
              | none => []
              | some d => [BitVec.ofNat 8 d.val]⟩,
          ⟨6, [BitVec.ofNat 8 after.count]⟩, ⟨7, beBytes 4 after.pos.rejected.toNat⟩]
        ++ (if before.w0.armed = true ∧ after.w0.armed = false then [⟨8, [0]⟩] else [])
        ++ (if before.w1.armed = true ∧ after.w1.armed = false then [⟨8, [1]⟩] else []))

/-- An accepted Position Report writes the record, makes it FRESH with both deadlines, and makes its zone
decision: the first after LOST takes its candidate at once; another counts it, and changes the zone at the
confirm count. A first match that is absent raises ZONE_FAULT (R55) before the decision. After the decision
every report but the first after LOST tests the comparators, W0 and then W1, from the last A to the new one
(R49, R52, R56, R63). The layout of the result items is the model's choice (log entry 12). That the response
is offered after the notices, markers and heartbeats of a zone change is inferred (log entry 21). A sum past
the 64 bits of a time is a free value (log entry 3). -/
def Obligations.AcceptedReportDecidesZone : Prop :=
  ∀ (s : State) (rq : Request) (a : PositionArgs) (q : Quality), Passes s rq .positionReport →
    a.a.toNat ≤ 1048575 → a.fixTime.toNat ≤ s.me.clock.toNat → readQuality a.quality = some q → q ≠ .none →
    let c := candidateOf s.zu.table a.a.toNat a.x.toInt
    let zu : Zu :=
      { s.zu with pos :=
          { state := .fresh, a := a.a.toNat, x := a.x.toInt, fixTime := a.fixTime, quality := q
            stale := some (timeAfter s.me.clock (s.zu.staleTimeout * 1000000))
            lost := some (timeAfter s.me.clock (s.zu.lostTimeout * 1000000))
            rejected := s.zu.pos.rejected } }
    let written : State := { s.got rq.port with zu := zu }
    let s' : State := match firstMatch s.zu.table a.a.toNat a.x.toInt with
      | none => written
      | some d =>
        if s.zu.table[d].present = true then written else raise .zoneFault (some (.zoneIndex d)) written
    let done := fun t : State => exec (.positionReport rq a) s
      = .next (answerOk rq .positionReport (reportItems .used s.zu t.zu) t)
    let tested := fun t : State =>
      testWaypoint .w1 s.zu.pos.a a.a.toNat (testWaypoint .w0 s.zu.pos.a a.a.toNat t)
    let near := s.zu.pos.state ≠ .lost ∧ max a.a.toNat s.zu.pos.a - min a.a.toNat s.zu.pos.a ≤ s.zu.maxStep
    let count := if s.zu.candidate = some c then s.zu.count + 1 else 1
    let stays : State := { s' with zu := { zu with candidate := none, count := 0 } }
    let counts : State := { s' with zu := { zu with candidate := some c, count := count } }
    let changed := zoneChange c s'
    let changes : State := { changed with zu := { changed.zu with candidate := none, count := 0 } }
    (s.zu.pos.state = .lost → (c = s.zu.zoneIx → done stays) ∧ (c ≠ s.zu.zoneIx → done changes))
    ∧ (near →
      (c = s.zu.zoneIx → done (tested stays))
      ∧ (c ≠ s.zu.zoneIx → count < s.zu.confirmCount → done (tested counts))
      ∧ (c ≠ s.zu.zoneIx → s.zu.confirmCount ≤ count → done (tested changes)))

/-- A comparator fires when it is armed and the two positions straddle its value in its direction: WAYPOINT
is raised, it is disarmed, and a COMMIT firing reaches an UNTRIGGERED WAYPOINT stage; otherwise nothing
happens (R63, R64). Arm Waypoint writes the four fields with armed yes; Disarm Waypoint keeps three of them
and says whether the comparator was armed; a comparator, value, direction or action outside its list or range
is refused (R62). The layout of the result
items is the model's choice (log entry 12). -/
def Obligations.WaypointsArmAndFire : Prop :=
  (∀ (s : State) (i : WaypointId) (before after : Nat),
     let w := s.zu.waypoint i
     let straddles := (w.heading = .increasing ∧ before < w.value ∧ w.value ≤ after)
       ∨ (w.heading = .decreasing ∧ w.value < before ∧ after ≤ w.value)
     let fired := (raise .waypoint (some (.waypoint i)) s).setWaypoint i { w with armed := false }
     (¬ (w.armed = true ∧ straddles) → testWaypoint i before after s = s)
     ∧ (w.armed = true → straddles → w.action = .notify → testWaypoint i before after s = fired)
     ∧ (w.armed = true → straddles → w.action = .commit →
         (∀ st, s.su.stage = some st → st.trigger ≠ .waypoint ∨ st.condition ≠ .untriggered) →
       testWaypoint i before after s = fired)
     ∧ (w.armed = true → straddles → w.action = .commit →
         (∃ st, s.su.stage = some st ∧ st.trigger = .waypoint ∧ st.condition = .untriggered) →
       testWaypoint i before after s = tellCs (fireTrigger fired)))
  ∧ (∀ (s : State) (rq : Request) (i : WaypointId) (h : Heading) (act : WaypointAction) (v : BitVec 32)
       (c : Byte), c.toNat = i.code →
       (Passes s rq .armWaypoint →
         let a : WaypointArgs := ⟨c, v, BitVec.ofNat 8 h.code, BitVec.ofNat 8 act.code⟩
         (v.toNat ≤ 1048575 →
           exec (.armWaypoint rq a) s
             = .next (answerOk rq .armWaypoint []
                 ((s.got rq.port).setWaypoint i ⟨v.toNat, h, act, true⟩)))
         ∧ (1048575 < v.toNat →
           exec (.armWaypoint rq a) s = .next (answerNo rq .armWaypoint .badArgument (s.got rq.port))))
       ∧ (Passes s rq .disarmWaypoint →
         exec (.disarmWaypoint rq c) s
           = .next (answerOk rq .disarmWaypoint (items [yesNo (s.zu.waypoint i).armed])
               ((s.got rq.port).setWaypoint i { s.zu.waypoint i with armed := false }))
         ∧ ∀ b : Byte, 1 < b.toNat →
           exec (.disarmWaypoint rq b) s
             = .next (answerNo rq .disarmWaypoint .badArgument (s.got rq.port))))
  ∧ (∀ (s : State) (rq : Request) (a : WaypointArgs), Passes s rq .armWaypoint →
       1 < a.comparator.toNat ∨ 1048575 < a.value.toNat ∨ 1 < a.direction.toNat ∨ 1 < a.action.toNat →
       exec (.armWaypoint rq a) s = .next (answerNo rq .armWaypoint .badArgument (s.got rq.port)))

/-- A Write Zone within the ranges of R53 replaces the descriptor by the fields given, each enumeration by its
code (R53, R186), and nothing else: the zone in force, the generation, the candidate and the gate stay.
Outside them, or for an absent descriptor 0, it is refused (R59). Reload Zone makes a zone change to the index
in force while its descriptor is present, and is refused NOT_PRESENT while it is absent (R61). Open Attach
opens a CLOSED gate and has one round sent, or finds it OPEN and changes nothing; the response says which
(R75, R76). The layout of the result items is the model's choice (log entry 12), and so is that a link mask
which names a link twice is taken (log entry 11). That the response is offered after the notices of a zone
change and the round is inferred (log entry 21). -/
def Obligations.ZoneRequestsAct : Prop :=
  (∀ (s : State) (rq : Request) (a : ZoneArgs) (d : ZoneIx) (z : Zone), Passes s rq .writeZone →
     let no : Host.Outcome State Fault Refusal := .next (answerNo rq .writeZone .badArgument (s.got rq.port))
     (a.index.toNat = d.val → (d ≠ 0 ∨ z.present = true) →
       a.present = (if z.present = true then 0 else 1) →
       a.start.toNat = z.start → z.start ≤ 1048575 → a.length.toNat = z.length →
       1 ≤ z.length → z.length ≤ 1048576 → a.crossLimit.toNat = z.crossLimit → z.crossLimit ≤ 32767 →
       a.kind = (match z.kind with
         | .harbour => 0
         | .territorial => 1
         | .international => 2) →
       a.realm.toNat = z.realm.val →
       a.permit = (match z.permit with
         | .serve => 0
         | .limited => 1
         | .silent => 2) →
       a.entryKind = (match z.entryKind with
         | .open => 0
         | .guarded => 1) →
       a.admission.toNat = z.admission → 1 ≤ z.admission → z.admission ≤ 8 → a.rates = z.rates →
       a.linkMask.length ≤ 8 → (∀ b ∈ a.linkMask, b.toNat ≤ 7) →
       z.linkMask = ([0, 1, 2, 3, 4, 5, 6, 7] : List LinkIx).filter
         (fun k => a.linkMask.any fun b => b.toNat == k.val) →
       exec (.writeZone rq a) s
         = .next (answerOk rq .writeZone (items [yesNo (d == s.zu.zoneIx)])
             { s.got rq.port with zu := { s.zu with table := s.zu.table.set d z } }))
     ∧ (8 < a.linkMask.length ∨ 63 < a.index.toNat ∨ 1048575 < a.start.toNat ∨ a.length = 0 ∨ 1048576 < a.length.toNat
         ∨ 32767 < a.crossLimit.toNat ∨ 15 < a.realm.toNat ∨ a.admission = 0 ∨ 8 < a.admission.toNat
         ∨ (∃ b ∈ a.linkMask, 7 < b.toNat) ∨ 1 < a.present.toNat ∨ 2 < a.kind.toNat ∨ 2 < a.permit.toNat
         ∨ 1 < a.entryKind.toNat ∨ (a.index = 0 ∧ a.present = 1) →
       exec (.writeZone rq a) s = no))
  ∧ ((∀ (s : State) (rq : Request), Passes s rq .reloadZone →
        (s.zu.table[s.zu.zoneIx].present = true →
          exec (.reloadZone rq) s
            = .next (answerOk rq .reloadZone
                [item 1 (byte s.zu.zoneIx.val), item 2 (beBytes 2 (s.zu.gen + 1).toNat)]
                (zoneChange s.zu.zoneIx (s.got rq.port))))
        ∧ (s.zu.table[s.zu.zoneIx].present = false →
          exec (.reloadZone rq) s = .next (answerNo rq .reloadZone .notPresent (s.got rq.port))))
     ∧ (∀ (s : State) (rq : Request), Passes s rq .openAttach →
          (s.zu.gate = .closed →
            exec (.openAttach rq) s
              = .next (answerOk rq .openAttach [item 1 (byte 1)]
                  (round { s.got rq.port with zu := { s.zu with gate := .open } })))
          ∧ (s.zu.gate = .open →
            exec (.openAttach rq) s = .next (answerOk rq .openAttach [item 1 (byte 0)] (s.got rq.port)))))

/-- The stale deadline makes a FRESH position STALE and raises POSITION_STALE; the lost deadline makes a
STALE one LOST, raises POSITION_LOST, clears the candidate and brings in descriptor 0; before their time, and
in other states, they do nothing (R50, R51). That a step before its time or without its condition does
nothing is the model's choice (log entry 1). -/
def Obligations.PositionDeadlinesAge : Prop :=
  ∀ (s : State) (d : Time), s.resetHeld = false →
    (s.zu.pos.state = .fresh → s.zu.pos.stale = some d →
      (d.toNat ≤ s.me.clock.toNat →
        exec .staleDeadline s
          = .next (raise .positionStale none
              { s with zu := { s.zu with pos := { s.zu.pos with state := .stale, stale := none } } }))
      ∧ (s.me.clock.toNat < d.toNat → exec .staleDeadline s = .next s))
    ∧ (s.zu.pos.state = .stale → s.zu.pos.lost = some d →
      (d.toNat ≤ s.me.clock.toNat →
        exec .lostDeadline s
          = .next (zoneChange 0 (setCandidate none 0 (raise .positionLost none
              { s with zu := { s.zu with pos := { s.zu.pos with state := .lost, lost := none } } }))))
      ∧ (s.me.clock.toNat < d.toNat → exec .lostDeadline s = .next s))
    ∧ (s.zu.pos.state ≠ .fresh → exec .staleDeadline s = .next s)
    ∧ (s.zu.pos.state ≠ .stale → exec .lostDeadline s = .next s)

/-! ## Links -/

/-- The health machine makes the changes of the table of R129, and no other. A change by an outcome or a
carrier loss writes the new state, clears the probe history on entry to DOWN or TRIAL, counts a fault and
raises LINK_DOWN for an entry to DOWN from TRIAL, UP or IMPAIRED, raises LINK_STATE for any other change, and
is then handed to SU; an unchanged state does nothing (R130, R131). The entries to DOWN by a Write Link and by
a warm reset, which clear the history too, are said in WriteLinkRestartsLink and WarmResetKeepsAccounts. -/
def Obligations.HealthFollowsItsTable : Prop :=
  (∀ (l : Link) (o : ProbeOutcome),
     let losses := (l.outcomes.filter fun o => o == ProbeOutcome.loss).length
     let above := fun limit => ∃ v, l.s8 = some v ∧ limit < v / 8
     let within := fun limit => ∃ v, l.s8 = some v ∧ v / 8 ≤ limit
     (l.health = .off → nextHealth l o = .off)
     ∧ (l.health = .down → nextHealth l o = if o = .success then .trial else .down)
     ∧ (l.health = .trial → o = .loss → nextHealth l o = .down)
     ∧ (l.health = .trial → o = .success →
         nextHealth l o = if l.cfg.upCount ≤ l.successes then .up else .trial)
     ∧ (l.health = .up ∨ l.health = .impaired → l.cfg.downCount ≤ l.losses → nextHealth l o = .down)
     ∧ (l.health = .up → l.losses < l.cfg.downCount →
         (l.cfg.impairLoss ≤ losses ∨ above l.cfg.rttLimit → nextHealth l o = .impaired)
         ∧ (¬ (l.cfg.impairLoss ≤ losses ∨ above l.cfg.rttLimit) → nextHealth l o = .up))
     ∧ (l.health = .impaired → l.losses < l.cfg.downCount →
         (losses ≤ l.cfg.recoverLoss ∧ within l.cfg.rttRecover → nextHealth l o = .up)
         ∧ (¬ (losses ≤ l.cfg.recoverLoss ∧ within l.cfg.rttRecover) → nextHealth l o = .impaired)))
  ∧ (∀ (s : State) (k : LinkIx) (h : Health),
       let l := s.link k
       let l' : Link :=
         if h = .down ∨ h = .trial then
           { l with health := h, successes := 0, losses := 0, outcomes := [], s8 := none }
         else { l with health := h }
       (h = l.health → changeHealth k h s = s)
       ∧ (h ≠ l.health → h = .down → l.health ≠ .off →
         changeHealth k h s
           = suLinkChanged k (raise .linkDown (some (.link k))
               (s.setLink k { l' with faults := l.faults + 1 })))
       ∧ (h ≠ l.health → ¬ (h = .down ∧ l.health ≠ .off) →
         changeHealth k h s = suLinkChanged k (raise .linkState (some (.linkState k h)) (s.setLink k l'))))

/-- At its probe time a link that is not OFF records an unanswered probe as a LOSS and has its health
evaluated; with carrier UP it builds the next probe, which becomes outstanding; and its probe time advances
by its interval. The probe is offered to the egress queue of the link's shore port: to one that is full like
every control frame, and where that drops it, it stays the outstanding probe (R15). Before that time, and while
OFF, nothing happens (R122, R123, R126). That a step before its
time or without its condition does nothing is the model's choice (log entry 1). A sum past the 64 bits of a
time is a free value (log entry 3). -/
def Obligations.ProbeTimeBuildsProbe : Prop :=
  ∀ (s : State) (k : LinkIx) (at_ : Time), s.resetHeld = false → (s.link k).probeAt = some at_ →
    ((s.link k).health ≠ .off → at_.toNat ≤ s.me.clock.toNat →
      let s₁ := match (s.link k).outstanding with
        | none => s
        | some _ =>
          let l : Link :=
            { s.link k with
              losses := min 65535 ((s.link k).losses + 1), successes := 0
              outcomes := (if (s.link k).outcomes.length ≥ 16 then (s.link k).outcomes.drop 1
                else (s.link k).outcomes) ++ [ProbeOutcome.loss]
              outstanding := none }
          changeHealth k (nextHealth l .loss) (s.setLink k l)
      let l := s₁.link k
      let next := some (timeAfter at_ (l.cfg.probeInterval * 1000))
      let built := s₁.setLink k
        { l with outstanding := some (l.nextProbe, s.me.clock), nextProbe := l.nextProbe + 1, probeAt := next }
      let probe : Control :=
        { dst := l.cfg.anchorAddr, body := .probe l.cfg.anchorId l.nextProbe s.me.clock }
      ((s₁.port (.shore l.cfg.port)).carrier = true →
        exec (.probeTime k) s = .next (offerControl (.shore l.cfg.port) probe built)
        ∧ ((s₁.port (.shore l.cfg.port)).queue.length < 512 →
          exec (.probeTime k) s = .next (place (.shore l.cfg.port) (.control probe) built))
        ∧ (512 ≤ (s₁.port (.shore l.cfg.port)).queue.length →
          (∀ x ∈ (s₁.port (.shore l.cfg.port)).queue, x.isUser = false) →
          exec (.probeTime k) s = .next (drop .egressFull .uplink built)))
      ∧ ((s₁.port (.shore l.cfg.port)).carrier = false →
        exec (.probeTime k) s = .next (s₁.setLink k { l with outstanding := none, probeAt := next })))
    ∧ (s.me.clock.toNat < at_.toNat ∨ (s.link k).health = .off → exec (.probeTime k) s = .next s)

/-- A Write Link takes every configuration field, clamped where R117 says, restarts the link in DOWN or OFF
with its probe history cleared and its numbering at the starting value, keeps its other counts, raises the
event of the change, and is handed to SU whatever the states; an index, enabled value, port or kind outside
its list, or a recover value not below its impair value, is refused (R119, R120). The layout of the result
items is the model's choice (log entry 12). That the response follows SU's handling is inferred (log entry
21). A sum past the 64 bits of a time is a free value (log entry 3). -/
def Obligations.WriteLinkRestartsLink : Prop :=
  (∀ (s : State) (rq : Request) (a : LinkArgs) (k : LinkIx) (en : Bool) (port : Fin 4) (kind : LinkKind),
    Passes s rq .writeLink → a.index.toNat = k.val → readYesNo a.enabled = some en →
    a.shorePort.toNat = port.val + 4 → readLinkKind a.kind = some kind →
    let impair := max 1 (min 16 a.impairLoss.toNat)
    let limit := max 1 (min 9999999 a.rttLimit.toNat)
    let cfg : LinkConfig :=
      { enabled := en, port := port, kind := kind, anchorId := a.anchorId, anchorAddr := a.anchorAddr
        multiplier := ⟨min 1023 a.multiplier.toNat, by omega⟩
        upFloor := ⟨min 7 a.upFloor.toNat, by omega⟩
        impairedFloor := ⟨min 7 a.impairedFloor.toNat, by omega⟩
        probeInterval := max 10 (min 10000 a.probeInterval.toNat)
        upCount := max 1 (min 15 a.upCount.toNat), downCount := max 1 (min 15 a.downCount.toNat)
        impairLoss := impair, recoverLoss := a.recoverLoss.toNat, rttLimit := limit
        rttRecover := a.rttRecover.toNat, startSeq := a.startSeq }
    let l : Link :=
      { s.link k with
        cfg := cfg, health := (if en then .down else .off), successes := 0, losses := 0, outcomes := []
        s8 := none, outstanding := none, nextSeq := a.startSeq
        probeAt := (if en then some (timeAfter s.me.clock (cfg.probeInterval * 1000)) else none) }
    (a.recoverLoss.toNat < impair → a.rttRecover.toNat ≤ limit →
      exec (.writeLink rq a) s
        = .next (answerOk rq .writeLink (items (linkConfigBytes cfg))
            (suLinkChanged k (healthEvent k (s.link k).health l.health ((s.got rq.port).setLink k l)))))
    ∧ (impair ≤ a.recoverLoss.toNat ∨ limit < a.rttRecover.toNat →
      exec (.writeLink rq a) s = .next (answerNo rq .writeLink .badArgument (s.got rq.port))))
  ∧ (∀ (s : State) (rq : Request) (a : LinkArgs), Passes s rq .writeLink →
    7 < a.index.toNat ∨ 1 < a.enabled.toNat ∨ a.shorePort.toNat < 4 ∨ 7 < a.shorePort.toNat
      ∨ 2 < a.kind.toNat →
    exec (.writeLink rq a) s = .next (answerNo rq .writeLink .badArgument (s.got rq.port)))

/-- When a shore port's carrier goes DOWN, every link bound to it that is not OFF is DOWN afterwards with no
outstanding probe and one more fault if it was TRIAL, UP or IMPAIRED; every other link, every context and
every probe time is as it was; LINK_DOWN is raised for each of those, the last standing in its entry, and is
as it was where there is none; a response to a Reset COLD that waits on the port makes the cold reset due (R1,
R131, R132, R182). A carrier that is DOWN already stays. A carrier that comes UP, or a cell port's carrier
that changes, changes the carrier and nothing else, but for a pending cold reset whose response waits there
(R19, R182). That a carrier which changes while the part is held in reset is only recorded is the model's
choice (log entry 5), and so is that the loss of the carrier makes the cold reset due, to be taken by a
COLD_RESET of its own (log entry 7). -/
def Obligations.CarrierChangesActOnTheirPort : Prop :=
  (∀ (s : State) (port : Fin 4), s.resetHeld = false → (s.port (.shore port)).carrier = true →
     ∃ t, exec (.shoreCarrierDown port) s = .next t
       ∧ (t.port (.shore port)).carrier = false ∧ t.contexts = s.contexts
       ∧ ∀ k, t.link k =
         (if (s.link k).cfg.port ≠ port ∨ (s.link k).health = .off then s.link k
          else if (s.link k).health = .down then { s.link k with outstanding := none }
          else { s.link k with
            health := .down, successes := 0, losses := 0, outcomes := [], s8 := none
            outstanding := none, faults := (s.link k).faults + 1 })
       ∧ (let faulted := fun k : LinkIx => (s.link k).cfg.port = port
            ∧ ((s.link k).health = .trial ∨ (s.link k).health = .up ∨ (s.link k).health = .impaired)
          (∀ k, faulted k → (∀ j, k < j → ¬ faulted j) →
            t.event .linkDown
              = { pending := true
                  seen := decide (s.me.noticeFloor < (s.event .linkDown).level) && s.me.noticeDest.isSome
                  level := (s.event .linkDown).level, detail := some (.link k) })
          ∧ ((∀ k, ¬ faulted k) → t.event .linkDown = s.event .linkDown))
       ∧ t.me.coldPending
         = (if holdsColdResponse (s.port (.shore port)).queue = true then .due else s.me.coldPending))
  ∧ (∀ (s : State) (port : Fin 4),
     ((s.port (.shore port)).carrier = false → exec (.shoreCarrierDown port) s = .next s)
     ∧ (s.resetHeld = true → (s.port (.shore port)).carrier = true →
       exec (.shoreCarrierDown port) s
         = .next (s.setPort (.shore port) { s.port (.shore port) with carrier := false })))
  ∧ (∀ (s : State) (port : Fin 4) (up : Bool),
       exec (.shoreCarrierUp port) s
         = .next (s.setPort (.shore port) { s.port (.shore port) with carrier := true })
       ∧ ((up = true ∨ holdsColdResponse (s.port (.cell port)).queue = false) →
         exec (.cellCarrierChange port up) s
           = .next (s.setPort (.cell port) { s.port (.cell port) with carrier := up }))
       ∧ (s.resetHeld = false → (s.port (.cell port)).carrier = true →
           holdsColdResponse (s.port (.cell port)).queue = true →
         exec (.cellCarrierChange port false) s
           = .next { s.setPort (.cell port) { s.port (.cell port) with carrier := false } with
               me := { s.me with coldPending := .due } }))

/-! ## Switches and stages -/

/-- A switch makes its steps in order (R147): the selector as its rule writes it, the new link taken out of
the drain set (R150); the number counted up; the SWITCH marker offered to the new link's shore port, with the
number, the old link's anchor link ID and last sequence number, and the lost mark for cause FAILOVER (R148);
the old link's entries moved at a forced switch, the old link joining the drain set under the new number at a
graceful one (R149); SWITCH_DONE, and BLACKOUT for a switch to none; the floor recomputed. A move takes the
entries of a link out of the shore queues and places them, relabelled, at the tail of the active link's queue
while it has room, the rest in the hold queue by intake time; in blackout all go to the hold queue; the
latest that do not fit are dropped HOLD_FULL, and nothing else changes (R151, R156). That the entries of one
move are gathered S0 to S3 is the model's choice (log entry 14). -/
def Obligations.SwitchTakesItsSteps : Prop :=
  (∀ (s : State) (cause : SwitchCause) (new : Option LinkIx) (write : Su → Su),
    let t := makeSwitch cause new write s
    let number := (write s.su).switchNumber + 1
    let others := match new with
      | none => (write s.su).drain
      | some j => (write s.su).drain.filter fun m => m.link ≠ j
    let s₂ : State := { s with su := { write s.su with switchNumber := number, drain := others } }
    let s₃ := match new with
      | none => s₂
      | some j =>
        offerControl (.shore (s.link j).cfg.port)
          { dst := (s.link j).cfg.anchorAddr
            body := .switchMarker (s.link j).cfg.anchorId number
              (s.active.map fun k => ((s.link k).cfg.anchorId, (s.link k).nextSeq - 1))
              (decide (cause = .failover)) } s₂
    let s₄ := match s.active with
      | none => s₃
      | some k =>
        if cause = .failover then moveEntries k s₃
        else { s₃ with su := { s₃.su with drain := others ++ [⟨k, number, false⟩] } }
    let s₅ := raise .switchDone (some (.switch s.active new cause)) s₄
    let s₆ := if new = none then raise .blackout none s₅ else s₅
    t = { s₆ with tc := { s₆.tc with floor := floorOf t } }
    ∧ t.active = (write s.su).active
    ∧ t.su.stage = (write s.su).stage ∧ t.su.order = (write s.su).order
    ∧ t.su.switchNumber = number
    ∧ t.su.drain = others ++ (match s.active with
        | none => []
        | some k => if cause = .failover then [] else [⟨k, number, false⟩])
    ∧ (t.event .switchDone).pending = true
    ∧ (t.event .switchDone).detail = some (.switch s.active new cause)
    ∧ (new = none → (t.event .blackout).pending = true)
    ∧ t.contexts = s.contexts ∧ t.links = s.links ∧ t.zu = s.zu
    ∧ (∀ k, s.active = some k → cause = .failover → (write s.su).active ≠ some k →
        ∀ p, ∀ x ∈ (t.port (.shore p)).queue, ∀ u, x.body ≠ .up u k))
  ∧ (∀ (s : State) (k : LinkIx),
    let t := moveEntries k s
    let kept := fun p : Fin 4 => (s.port (.shore p)).queue.filter fun x => !x.hasLabel k
    let moved : List UserEntry := ([0, 1, 2, 3] : List (Fin 4)).flatMap fun p =>
      (s.port (.shore p)).queue.filterMap fun x => match x.body with
        | .up u l => if l = k then some u else none
        | _ => none
    let returned := fun back : List UserEntry => ∃ m : Nat, m ≤ back.length
      ∧ (m = 0 ∨ (s.cs.hold.length + m ≤ 1024 ∧ bytesOf s.cs.hold + bytesOf (back.take m) ≤ 1572864))
      ∧ (m = back.length ∨ 1024 < s.cs.hold.length + (m + 1)
          ∨ 1572864 < bytesOf s.cs.hold + bytesOf (back.take (m + 1)))
      ∧ t = { s with
          ports := t.ports
          cs := { s.cs with hold := (back.take m).foldl (fun h e => insertByIntake e h) s.cs.hold }
          tc := { s.tc with
            drops := s.tc.drops.set (dropIx .holdFull .uplink)
              (s.dropCount .holdFull .uplink + BitVec.ofNat 32 (back.length - m)) } }
    (∀ p, t.port (.cell p) = s.port (.cell p))
    ∧ (s.active = none →
      (∀ p, t.port (.shore p) = { s.port (.shore p) with queue := kept p }) ∧ returned moved)
    ∧ (∀ new, s.active = some new →
      let p := (s.link new).cfg.port
      let n := min moved.length (512 - (kept p).length)
      t.port (.shore p)
        = { s.port (.shore p) with queue := kept p
              ++ (moved.take n).map fun u => { body := .up u new, placed := s.me.clock } }
      ∧ (∀ q, q ≠ p → t.port (.shore q) = { s.port (.shore q) with queue := kept q })
      ∧ returned (moved.drop n)))
  ∧ (∀ (e : UserEntry) (h : List UserEntry),
    ((∀ y ∈ h, y.intake.toNat ≤ e.intake.toNat) → insertByIntake e h = h ++ [e])
    ∧ (∀ pre x post, h = pre ++ x :: post → (∀ y ∈ pre, y.intake.toNat ≤ e.intake.toNat) →
        e.intake.toNat < x.intake.toNat → insertByIntake e h = pre ++ e :: x :: post))

/-- Stage Link with an active link writes the stage into the slot not in force; trigger NOW commits it at
once when its link is usable and leaves it WAITING when not; the active link is refused WRONG_STATE (R139,
R140). Cancel Stage empties slot and stage (R142). Set Failover Order replaces the list with an active link
(R143). In blackout each of the two then makes the recovery test (R146). Out of range, or with a link named
twice, they are refused. A fired trigger commits a usable stage, and leaves another WAITING (R140). A change
of link health, or a Write Link, meets the rows of R144: the active link DOWN or OFF brings a forced switch to
the successor of R145 or to none; UP or IMPAIRED, only the floor; a draining link DOWN or OFF has its entries
moved (R151); a WAITING stage that is usable commits (R141); in blackout a usable link brings the recovery
test. A zone change meets the three steps of R144. Usable is R138. The layout of the result items is the
model's choice (log entry 12). That a response follows the changes, and which hand-offs bring the recovery
test with what cause, are inferred (log entries 21 and 15). -/
def Obligations.StageRequestsSteer : Prop :=
  (∀ (s : State) (rq : Request),
    (∀ (b c : Byte) (k j : LinkIx) (tr : Trigger), Passes s rq .stageLink → b.toNat = k.val →
        c.toNat = tr.code → s.active = some j →
      let staged := fun cond : StageCondition =>
        { s.got rq.port with su := { s.su.setSlot s.su.inForce.other (some k) with
            stage := some { trigger := tr, condition := cond } } }
      let done := fun t : State => exec (.stageLink rq b c) s
        = .next (answerOk rq .stageLink
            (items [optBytes 1 (t.active.map Fin.val), stageBytes t.su, beBytes 2 t.su.switchNumber.toNat]) t)
      (k = j → exec (.stageLink rq b c) s = .next (answerNo rq .stageLink .wrongState (s.got rq.port)))
      ∧ (k ≠ j → tr ≠ .now → done (staged .untriggered))
      ∧ (k ≠ j → tr = .now → s.usable k = false → done (staged .waiting))
      ∧ (k ≠ j → tr = .now → s.usable k = true →
        done (csHandover false (some (some k))
          (makeSwitch .staged (some k) commitSlots (staged .untriggered)))))
    ∧ (∀ (b c : Byte) (k : LinkIx) (tr : Trigger), Passes s rq .stageLink → b.toNat = k.val →
        c.toNat = tr.code → s.active = none →
      let staged : State :=
        { s.got rq.port with su := { s.su.setSlot s.su.inForce.other (some k) with
            stage := some
              { trigger := tr
                condition := if tr = .now ∧ s.usable k = false then .waiting else .untriggered } } }
      ∀ r u, Recovers staged r u →
        let t := told r u
        exec (.stageLink rq b c) s
          = .next (answerOk rq .stageLink
              (items [optBytes 1 (t.active.map Fin.val), stageBytes t.su, beBytes 2 t.su.switchNumber.toNat])
              t))
    ∧ (∀ (b c : Byte), Passes s rq .stageLink → 7 < b.toNat ∨ 2 < c.toNat →
      exec (.stageLink rq b c) s = .next (answerNo rq .stageLink .badArgument (s.got rq.port)))
    ∧ (Passes s rq .cancelStage →
      (s.su.stage = none → exec (.cancelStage rq) s
        = .next (answerOk rq .cancelStage [item 1 []] (s.got rq.port)))
      ∧ (s.su.stage ≠ none → exec (.cancelStage rq) s
        = .next (answerOk rq .cancelStage [item 1 (stageBytes s.su)]
            { s.got rq.port with su := { s.su.setSlot s.su.inForce.other none with stage := none } })))
    ∧ (∀ order : List Byte, Passes s rq .setFailoverOrder →
      (∀ ks : List LinkIx, order = ks.map (fun k => BitVec.ofNat 8 k.val) → ks.Nodup → s.active ≠ none →
        exec (.setFailoverOrder rq order) s
          = .next (answerOk rq .setFailoverOrder [item 1 order]
              { s.got rq.port with su := { s.su with order := ks } }))
      ∧ (∀ ks : List LinkIx, order = ks.map (fun k => BitVec.ofNat 8 k.val) → ks.Nodup → s.active = none →
        ∀ r u, Recovers { s.got rq.port with su := { s.su with order := ks } } r u →
          exec (.setFailoverOrder rq order) s
            = .next (answerOk rq .setFailoverOrder [item 1 order] (told r u)))
      ∧ ((∃ b ∈ order, 7 < b.toNat) ∨ ¬ order.Nodup →
        exec (.setFailoverOrder rq order) s
          = .next (answerNo rq .setFailoverOrder .badArgument (s.got rq.port)))))
  ∧ (∀ s : State,
    (∀ k, s.usable k = true ↔
      ((s.link k).health = .up ∨ (s.link k).health = .impaired) ∧ k ∈ s.zu.zone.linkMask)
    ∧ (∃ new, Successor s new) ∧ (∃ r u, Recovers s r u)
    ∧ (∀ st k, s.su.stage = some st → s.su.slot s.su.inForce.other = some k →
      (s.usable k = true → fireTrigger s
        = ⟨makeSwitch (if s.active = none then .recovery else .staged) (some k) commitSlots s, some (some k)⟩)
      ∧ (s.usable k = false → fireTrigger s
        = ⟨{ s with su := { s.su with stage := some { st with condition := .waiting } } }, none⟩))
    ∧ (let u := commitSlots s.su
      u.active = s.su.slot s.su.inForce.other ∧ u.slot u.inForce.other = none ∧ u.stage = none
      ∧ u.order = s.su.order ∧ u.drain = s.su.drain ∧ u.switchNumber = s.su.switchNumber)
    ∧ (∀ new, let u := writeSlots new s.su
      u.active = new ∧ u.inForce = s.su.inForce
      ∧ u.order = s.su.order ∧ u.drain = s.su.drain ∧ u.switchNumber = s.su.switchNumber
      ∧ (new ≠ none → s.su.stage ≠ none → s.su.slot s.su.inForce.other = new →
        u.stage = none ∧ u.slot u.inForce.other = none)
      ∧ (new = none ∨ s.su.stage = none ∨ s.su.slot s.su.inForce.other ≠ new →
        u.stage = s.su.stage ∧ u.slot u.inForce.other = s.su.slot s.su.inForce.other)))
  ∧ (∀ (s : State) (k : LinkIx),
    let dead := (s.link k).health = .down ∨ (s.link k).health = .off
    let draining := ∃ m ∈ s.su.drain, m.link = k
    (dead → s.active = some k → ¬ draining → ∀ new, Successor s new →
      suLinkChanged k s = csHandover false (some new) (makeSwitch .failover new (writeSlots new) s))
    ∧ (dead → s.active ≠ some k → draining →
      suLinkChanged k s
        = moveEntries k { s with su := { s.su with drain := s.su.drain.filter fun m => m.link ≠ k } })
    ∧ (dead → s.active ≠ some k → ¬ draining → suLinkChanged k s = s)
    ∧ ((s.link k).health = .up ∨ (s.link k).health = .impaired → s.active = some k →
        (∀ j, s.su.slot s.su.inForce.other = some j → j ≠ k) →
      suLinkChanged k s = { s with tc := { s.tc with floor := floorOf s } })
    ∧ (∀ j, s.active = some j → j ≠ k → WaitingUsable s k →
      suLinkChanged k s
        = csHandover false (some (some k)) (makeSwitch .staged (some k) commitSlots s))
    ∧ (∀ j, s.active = some j → j ≠ k → ¬ dead → ¬ WaitingUsable s k → suLinkChanged k s = s)
    ∧ (s.active = none → s.usable k = true → ∀ r u, Recovers s r u → suLinkChanged k s = told r u)
    ∧ (s.active = none → ¬ dead → s.usable k = false → suLinkChanged k s = s))
  ∧ (∀ s : State,
    (∀ k j, s.active = some k → WaitingUsable s j →
      suZoneChanged s = ⟨makeSwitch .staged (some j) commitSlots s, some (some j)⟩)
    ∧ (∀ k, s.active = some k → (∀ j, ¬ WaitingUsable s j) →
      (k ∉ s.zu.zone.linkMask → ∀ new, Successor s new →
        suZoneChanged s = ⟨makeSwitch .zone new (writeSlots new) s, some new⟩)
      ∧ (k ∈ s.zu.zone.linkMask → suZoneChanged s = ⟨s, none⟩))
    ∧ (s.active = none → ∀ r u, Recovers s r u → suZoneChanged s = ⟨u, r.map some⟩))

/-- The END marker of a draining link whose marker is not placed, and whose port's queue holds no user entry
of the link, is recorded as placed and offered there with the member's switch number and the last number
sent; with an entry of the link still queued, or with none to place, nothing happens (R149). That a step
before its time or without its condition does nothing is the model's choice (log entry 1). -/
def Obligations.EndMarkerFollowsLastEntry : Prop :=
  ∀ (s : State) (k : LinkIx), s.resetHeld = false →
    let l := s.link k
    let queue := (s.port (.shore l.cfg.port)).queue
    (∀ m : Member, m ∈ s.su.drain → m.link = k → m.endPlaced = false →
        (∀ n ∈ s.su.drain, n.link = k → n = m) → (∀ x ∈ queue, ∀ e, x.body ≠ .up e k) →
      exec (.endMarker k) s
        = .next (offerControl (.shore l.cfg.port)
            { dst := l.cfg.anchorAddr, body := .endMarker k l.cfg.anchorId m.switchNumber (l.nextSeq - 1) }
            { s with su := { s.su with
                drain := s.su.drain.map fun n => if n = m then { n with endPlaced := true } else n } }))
    ∧ ((∀ m ∈ s.su.drain, m.link = k → m.endPlaced = true) ∨ (∃ x ∈ queue, ∃ e, x.body = .up e k) →
      exec (.endMarker k) s = .next s)

/-! ## Coverage -/

/-- An epoch boundary counts the epoch up, moves the boundary by one epoch length, and drops HOLD_AGED the
head entries of the hold queue older than the limit; an EPOCH stage that is UNTRIGGERED is triggered (R24,
R140, R157). A drain move takes the head of the hold queue: HOLD_AGED when too old, else labelled with the
active link at the tail of its queue, while that has room (R158). That a step before its time or without its
condition does nothing is the model's choice (log entry 1). The cause RECOVERY of a stage committed in
blackout is inferred (log entry 15). A sum past the 64 bits of a time is a free value (log entry 3). -/
def Obligations.HoldQueueAgesAndDrains : Prop :=
  ∀ s : State, s.resetHeld = false →
    let old : UserEntry → Bool := fun e =>
      decide (s.cs.holdAge * 1000000 < s.me.clock.toNat - e.intake.toNat)
    let aged : State :=
      { s with
        me := { s.me with
          epochNumber := s.me.epochNumber + 1
          nextBoundary := timeAfter s.me.nextBoundary (s.me.epochLength * 1000) }
        tc := { s.tc with
          drops := s.tc.drops.set (dropIx .holdAged .uplink)
            (s.dropCount .holdAged .uplink + BitVec.ofNat 32 (s.cs.hold.takeWhile old).length) }
        cs := { s.cs with hold := s.cs.hold.dropWhile old } }
    let due := s.me.nextBoundary.toNat ≤ s.me.clock.toNat
    (¬ due → exec .epochBoundary s = .next s)
    ∧ (due → (∀ st, s.su.stage = some st → st.trigger ≠ .epoch ∨ st.condition ≠ .untriggered) →
      exec .epochBoundary s = .next aged)
    ∧ (∀ st k, due → s.su.stage = some st → st.trigger = .epoch → st.condition = .untriggered →
        s.su.slot s.su.inForce.other = some k →
      (s.usable k = false → exec .epochBoundary s
        = .next { aged with su := { s.su with stage := some { st with condition := .waiting } } })
      ∧ (s.usable k = true → exec .epochBoundary s
        = .next (csHandover false (some (some k))
            (makeSwitch (if s.active = none then .recovery else .staged) (some k) commitSlots aged))))
    ∧ (∀ (k : LinkIx) (e : UserEntry) (es : List UserEntry), s.active = some k → s.cs.hold = e :: es →
        (s.port (.shore (s.link k).cfg.port)).queue.length < 512 →
      let s' : State := { s with cs := { s.cs with hold := es } }
      (old e = true → exec .holdDrainMove s = .next (drop .holdAged .uplink s'))
      ∧ (old e = false → exec .holdDrainMove s
        = .next (place (.shore (s.link k).cfg.port) (.up e k) s')))
    ∧ (s.active = none ∨ s.cs.hold = []
        ∨ (∃ k, s.active = some k ∧ 512 ≤ (s.port (.shore (s.link k).cfg.port)).queue.length) →
      exec .holdDrainMove s = .next s)

/-- A round sends one Backhaul Status frame to each configured entry, counted there, and to no other (R165).
The heartbeat time brings a round and moves by its interval (R165). The grace timer's expiry stops it, and
where the level changes raises SERVICE_LEVEL, recomputes the floor and brings a round (R160, R161). The
liveness deadline of an ALIVE unit makes it LOST and raises RU_LOST (R168). Before their time they do nothing.
At the hand-over of a switch, a zone change, or both in one, a switch to none loads the grace timer where the
grace time is above 0, a switch to a link stops it, and no switch leaves it (R160); the level is recomputed, a
changed one raising SERVICE_LEVEL and recomputing the floor (R161); and one round is sent when the level, the
gate or the active link has changed (R165). That a step before its time or without its condition does nothing
is the model's choice (log entry 1). A sum past the 64 bits of a time is a free value (log entry 3). -/
def Obligations.CoverageDeadlinesAct : Prop :=
  ∀ s : State, s.resetHeld = false →
    (∀ r, (round s).ru r
      = (if (s.ru r).state = .unused then s.ru r
         else { s.ru r with heartbeats := (s.ru r).heartbeats + 1 }))
    ∧ (∀ i, (s.port (.cell i)).queue.length ≤ 496 →
      ((round s).port (.cell i)).queue
        = (s.port (.cell i)).queue
          ++ ((allRus.filter fun r => (s.ru r).state ≠ .unused && (s.ru r).port == i).map fun r =>
            { body := .control
                { dst := (s.ru r).addr
                  body := .backhaulStatus s.cs.level s.zu.gate s.zu.zone.realm s.tc.floor
                    (s.active.map fun k => (s.link k).cfg.kind) s.zu.gen s.me.clock }
              placed := s.me.clock }))
    ∧ (s.cs.nextHeartbeat.toNat ≤ s.me.clock.toNat →
      exec .heartbeatTime s = .next { round s with cs := { (round s).cs with
        nextHeartbeat := timeAfter s.cs.nextHeartbeat (s.cs.heartbeatInterval * 1000) } })
    ∧ (s.me.clock.toNat < s.cs.nextHeartbeat.toNat → exec .heartbeatTime s = .next s)
    ∧ (∀ g, s.cs.grace = some g →
      let s' : State := { s with cs := { s.cs with grace := none } }
      let level : ServiceLevel :=
        match s.zu.zone.permit with
        | .silent => .silent
        | .limited => .limited
        | .serve => if s.active = none then .limited else .full
      (g.toNat ≤ s.me.clock.toNat → level = s.cs.level → exec .graceExpiry s = .next s')
      ∧ (g.toNat ≤ s.me.clock.toNat → level ≠ s.cs.level →
        let t := raise .serviceLevel (some (.level level)) { s' with cs := { s'.cs with level := level } }
        exec .graceExpiry s = .next (round { t with tc := { t.tc with floor := floorOf t } }))
      ∧ (s.me.clock.toNat < g.toNat → exec .graceExpiry s = .next s))
    ∧ (s.cs.grace = none → exec .graceExpiry s = .next s)
    ∧ (∀ (r : RuIx) (d : Time), (s.ru r).state = .alive → (s.ru r).deadline = some d →
      (d.toNat ≤ s.me.clock.toNat → exec (.livenessDeadline r) s
        = .next (raise .ruLost (some (.ru r)) (s.setRu r { s.ru r with state := .lost, deadline := none })))
      ∧ (s.me.clock.toNat < d.toNat → exec (.livenessDeadline r) s = .next s))
    ∧ (∀ r, (s.ru r).state ≠ .alive → exec (.livenessDeadline r) s = .next s)
    ∧ (∀ (gateChanged : Bool) (switched : Option (Option LinkIx)),
      let grace : Option Time :=
        match switched with
        | none => s.cs.grace
        | some (some _) => none
        | some none => if s.cs.graceTime = 0 then none else some (timeAfter s.me.clock (s.cs.graceTime * 1000000))
      let timed : State := { s with cs := { s.cs with grace := grace } }
      let level : ServiceLevel :=
        match s.zu.zone.permit with
        | .silent => .silent
        | .limited => .limited
        | .serve => if s.active = none ∧ grace = none then .limited else .full
      let raised := raise .serviceLevel (some (.level level)) { timed with cs := { timed.cs with level := level } }
      let levelled : State :=
        if level = s.cs.level then timed else { raised with tc := { raised.tc with floor := floorOf raised } }
      csHandover gateChanged switched s
        = if level ≠ s.cs.level ∨ gateChanged = true ∨ switched ≠ none then round levelled else levelled)

/-- Write Radio Unit makes an entry LOST on the port and address given, or UNUSED with the fields cleared,
and keeps its heartbeats sent (R167). Set Floor writes the host floor and makes the floor in force the
largest of the three (R11, R164). Out of range they are refused. The layout of the result items is the
model's choice (log entry 12). That the port is checked for an entry made UNUSED too is the model's choice
(log entry 19). -/
def Obligations.UnitAndFloorRequestsWrite : Prop :=
  ∀ (s : State) (rq : Request),
    (∀ (a : RuArgs) (r : RuIx) (port : Fin 4), Passes s rq .writeRadioUnit → a.index.toNat = r.val →
        a.cellPort.toNat = port.val →
      let done := fun u : RadioUnit => exec (.writeRadioUnit rq a) s
        = .next (answerOk rq .writeRadioUnit (ruItems u) ((s.got rq.port).setRu r u))
      (a.configured = 0 → done
        { port := port, addr := a.addr, state := .lost, lastStatus := none, deadline := none, attached := 0
          heartbeats := (s.ru r).heartbeats })
      ∧ (a.configured = 1 → done
        { port := 0, addr := 0, state := .unused, lastStatus := none, deadline := none, attached := 0
          heartbeats := (s.ru r).heartbeats }))
    ∧ (∀ a : RuArgs, Passes s rq .writeRadioUnit →
        15 < a.index.toNat ∨ 1 < a.configured.toNat ∨ 3 < a.cellPort.toNat →
      exec (.writeRadioUnit rq a) s
        = .next (answerNo rq .writeRadioUnit .badArgument (s.got rq.port)))
    ∧ (∀ b : Byte, Passes s rq .setFloor →
      let link : Floor :=
        match s.active with
        | none => 0
        | some k =>
          if (s.link k).health = .up then (s.link k).cfg.upFloor
          else if (s.link k).health = .impaired then (s.link k).cfg.impairedFloor else 0
      let coverage : Floor := if s.cs.level = .limited then s.cs.limitedFloor else 0
      (∀ f : Floor, b.toNat = f.val → exec (.setFloor rq b) s
        = .next (answerOk rq .setFloor (items [byte f.val, byte (max link (max coverage f)).val])
            { s.got rq.port with
              cs := { s.cs with hostFloor := f }
              tc := { s.tc with floor := max link (max coverage f) } }))
      ∧ (7 < b.toNat → exec (.setFloor rq b) s
        = .next (answerNo rq .setFloor .badArgument (s.got rq.port))))

/-! ## Selection, metering and charging -/

/-- Selection takes the entry of smallest precedence number placed earliest, when the carrier is UP and
nothing is in transmission (R16). A control entry is transmitted at once. A user entry goes to metering: an
uplink one answered SEND leaves as a LINK frame under its link's next sequence number, which is counted, a
downlink one as it is; one refused is dropped under its reason (R17, R18, R133, R134). That a step before its
time or without its condition does nothing is the model's choice (log entry 1). That padding is not counted
in the bytes sent is inferred (log entry 17), and the part's own base address is an unknown constant (log
entry 20). That a refused entry ends the step, the next selection being a step of its own, and that list
order decides between entries placed at one moment, are the model's choices (log entries 7 and 14). That a
downlink frame goes to the address read when it was routed is inferred (log entry 9). A sum past the 64 bits of
a link's frames sent or bytes sent is a free value (log entry 3). -/
def Obligations.SelectionTakesSmallestPrecedence : Prop :=
  ∀ (s : State) (p : Port), s.resetHeld = false →
    let ready := (s.port p).carrier = true ∧ (s.port p).sending = none
    let sent := fun (dst : Addr) (c : Carried) (t : State) =>
      t.setPort p { t.port p with
        sending := some
          { dst := dst, src := Config.stationBase + BitVec.ofNat 48 (portIx p).val
            frameType := t.me.frameType, carried := c } }
    (∀ (pre post : List Entry) (e : Entry), ready → (s.port p).queue = pre ++ e :: post →
        (∀ x ∈ pre, e.precedence < x.precedence) → (∀ x ∈ post, e.precedence ≤ x.precedence) →
      let s' := s.setPort p { s.port p with queue := pre ++ post }
      (∀ c, e.body = .control c →
        exec (.entrySelection p) s = .next (sent c.dst (.control c.body) s'))
      ∧ (∀ u k t, e.body = .up u k → meter u .uplink (s.link k).cfg.multiplier s' = (none, t) →
        let l := t.link k
        exec (.entrySelection p) s
          = .next (sent l.cfg.anchorAddr (.link l.cfg.anchorId l.nextSeq u) (t.setLink k
              { l with
                nextSeq := l.nextSeq + 1, framesSent := add64 l.framesSent 1
                bytesSent := add64 l.bytesSent (BitVec.ofNat 64 (u.frame.payload.length + 34)) })))
      ∧ (∀ u m dst t, e.body = .down u m dst → meter u .downlink m s' = (none, t) →
        exec (.entrySelection p) s = .next (sent dst (.bare u) t))
      ∧ (∀ u k r t, e.body = .up u k → meter u .uplink (s.link k).cfg.multiplier s' = (some r, t) →
        exec (.entrySelection p) s = .next (drop r .uplink t))
      ∧ (∀ u m dst r t, e.body = .down u m dst → meter u .downlink m s' = (some r, t) →
        exec (.entrySelection p) s = .next (drop r .downlink t)))
    ∧ (¬ ready ∨ (s.port p).queue = [] → exec (.entrySelection p) s = .next s)

/-- Metering refuses under the first check of R80 that fails, and a SIGNAL entry that passes is sent uncharged
(R80). A BEARER entry goes on under its interval key: an interval is opened, or the open one of another key
closed, as the INTERVAL record of R100, and a new one opened; a close that cannot be made refuses it BACKLOG,
raises RECORD_BACKLOG and leaves the context (R81, R98, R101). -/
def Obligations.MeteringChecksThenOpensInterval : Prop :=
  ∀ (s : State) (u : UserEntry) (d : Dir) (m : Multiplier),
    let c := s.ctx u.ctx
    (u.incarnation ≠ c.incarnation → meter u d m s = (some .staleContext, s))
    ∧ (u.incarnation = c.incarnation → u.frame.kind = .signal →
      (c.state = .active ∨ c.state = .suspended → meter u d m s = (none, s))
      ∧ (c.state = .free ∨ c.state = .closing → meter u d m s = (some .notActive, s)))
    ∧ (u.incarnation = c.incarnation → u.frame.kind = .bearer →
      (c.state ≠ .active → meter u d m s = (some .notActive, s))
      ∧ (c.state = .active → passesRealm s.zu.zone.realm c = false →
        meter u d m s = (some .roamBarred, barringFailure u.ctx s))
      ∧ (c.state = .active → passesRealm s.zu.zone.realm c = true → c.account = .prepaid →
          c.exhausted = true → meter u d m s = (some .exhausted, s))
      ∧ (c.state = .active → passesRealm s.zu.zone.realm c = true →
          c.account = .postpaid ∨ c.exhausted = false →
        let fresh : Interval :=
          { period := s.ur.period, zoneIx := s.zu.zoneIx, zoneGen := s.zu.gen, realm := s.zu.zone.realm
            plan := c.plan, start := s.me.clock, last := s.me.clock, up := 0, down := 0, free := 0
            frames := 0, charge := 0 }
        (c.openIv = none →
          meter u d m s = meter u d m (s.setCtx u.ctx { c with openIv := some fresh }))
        ∧ (∀ iv, c.openIv = some iv →
            ¬ (iv.period = s.ur.period ∧ iv.zoneGen = s.zu.gen ∧ iv.plan = c.plan) →
          let r : Record :=
            { kind := .interval, plan := iv.plan, zoneIx := iv.zoneIx, realm := iv.realm
              period := iv.period, ctx := u.ctx, incarnation := c.incarnation, bearerId := c.bearerId
              zoneGen := iv.zoneGen, start := iv.start, stop := iv.last, up := iv.up, down := iv.down
              free := iv.free, frames := iv.frames, charge := iv.charge
              balanceAfter := if c.account = .prepaid then c.balance else 0, remainder := 0 }
          (s.ur.urq.length < 256 → s.ur.awaiting = [] →
            meter u d m s
              = meter u d m (urqEnter r (s.setCtx u.ctx { c with openIv := some fresh })))
          ∧ (256 ≤ s.ur.urq.length ∨ s.ur.awaiting ≠ [] → c.awaiting = none →
            let t := s.setCtx u.ctx { c with openIv := some fresh, awaiting := some r }
            meter u d m s
              = meter u d m { t with ur := { s.ur with awaiting := s.ur.awaiting ++ [u.ctx] } })
          ∧ (256 ≤ s.ur.urq.length ∨ s.ur.awaiting ≠ [] → c.awaiting ≠ none →
            meter u d m s
              = (some .backlog, raise .recordBacklog (some (.context u.ctx)) s)))))

/-- A BEARER entry metered under the key of its open interval: the free part leaves the allowance, the
remainder is replaced, a PREPAID balance is reduced by the charge, and the interval has the frame; no other
context changes. STOP_BEFORE refuses a charge above the balance QUOTA and sets the exhausted mark. The mark is
set, with its event and then the EXHAUSTED notice, when the balance is 0 or less afterwards; then the low
mark, with its event and then the LOW_BALANCE notice, when the balance is below the threshold and the mark is
clear (R87 to R92). A sum past the 64 bits of an interval's totals is a free value (log entry 3). -/
def Obligations.FrameIsCharged : Prop :=
  ∀ (s : State) (u : UserEntry) (d : Dir) (m : Multiplier) (iv : Interval),
    let c := s.ctx u.ctx
    let b := u.frame.payload.length
    let ch := chargeOf b c.allowance (s.zu.zone.rates[c.plan]).toNat m.val c.remainder
    let iv' : Interval :=
      { iv with
        up := if d = .uplink then add64 iv.up (BitVec.ofNat 64 b) else iv.up
        down := if d = .downlink then add64 iv.down (BitVec.ofNat 64 b) else iv.down
        free := add64 iv.free (BitVec.ofNat 64 ch.free)
        frames := add64 iv.frames 1
        charge := add64 iv.charge (BitVec.ofNat 64 ch.cost), last := s.me.clock }
    let c' : Context :=
      { c with allowance := c.allowance - ch.free, remainder := ch.remainder, openIv := some iv' }
    u.incarnation = c.incarnation → u.frame.kind = .bearer → c.state = .active →
    passesRealm s.zu.zone.realm c = true → c.openIv = some iv →
    iv.period = s.ur.period → iv.zoneGen = s.zu.gen → iv.plan = c.plan →
    (c.account = .postpaid → meter u d m s = (none, s.setCtx u.ctx c'))
    ∧ (c.account = .prepaid → c.exhausted = false → c.limitMode = .stopBefore → c.balance < ch.cost →
      let e : Context := { c with exhausted := true }
      meter u d m s
        = (some .quota, sendBearerNotice u.ctx e (.exhausted c.balance)
            (raise .quotaExhausted (some (.context u.ctx)) (s.setCtx u.ctx e))))
    ∧ (c.account = .prepaid → c.exhausted = false → c.limitMode = .stopAfter ∨ ch.cost ≤ c.balance →
      let left := c.balance - ch.cost
      let c'' : Context :=
        { c' with
          balance := left, exhausted := decide (left ≤ 0)
          low := c.low || decide (left < c.lowThreshold) }
      (0 < left → c.low = true ∨ c.lowThreshold ≤ left → meter u d m s = (none, s.setCtx u.ctx c''))
      ∧ (let exhausts := fun t : State =>
          if left ≤ 0 then sendBearerNotice u.ctx c'' (.exhausted left)
            (raise .quotaExhausted (some (.context u.ctx)) t)
          else t
        let warns := fun t : State =>
          if c.low = false ∧ left < c.lowThreshold then sendBearerNotice u.ctx c'' (.lowBalance left)
            (raise .quotaLow (some (.context u.ctx)) t)
          else t
        meter u d m s = (none, warns (exhausts (s.setCtx u.ctx c''))))
      ∧ (meter u d m s).1 = none
      ∧ (∀ j, (meter u d m s).2.ctx j = (if j = u.ctx then c'' else s.ctx j))
      ∧ (left ≤ 0 → ((meter u d m s).2.event .quotaExhausted).pending = true
        ∧ ((meter u d m s).2.event .quotaExhausted).detail = some (.context u.ctx))
      ∧ (c.low = false → left < c.lowThreshold → ((meter u d m s).2.event .quotaLow).pending = true
        ∧ ((meter u d m s).2.event .quotaLow).detail = some (.context u.ctx)))

/-- The charge of a frame is whole CU with the rest carried: 256,000,000 times the charge plus the new
remainder is the chargeable bytes times the weighted rate plus the old remainder; it is at most 2,357 CU
(R82 to R84). Over any run of frames at one rate nothing is lost or billed twice (R85). -/
def Obligations.ChargeIsExact : Prop :=
  (∀ b l rate m f : Nat,
    let ch := chargeOf b l rate m f
    ch.free = min b l
    ∧ 256000000 * ch.cost + ch.remainder = (b - min b l) * (rate * m) + f
    ∧ ch.remainder < 256000000
    ∧ (b ≤ 9000 → rate ≤ 65535 → m ≤ 1023 → f < 256000000 → ch.cost ≤ 2357))
  ∧ (∀ (bs : List Nat) (rate m f : Nat),
    let run := bs.foldl (fun (total : Nat × Nat) b =>
      (total.1 + (chargeOf b 0 rate m total.2).cost, (chargeOf b 0 rate m total.2).remainder)) (0, f)
    256000000 * run.1 + run.2 = bs.sum * (rate * m) + f)

/-! ## Usage frames -/

/-- A usage frame takes up to 16 records from the head of the URQ, which stay there in frame, when a
collector is set, no usage frame is outstanding and its port has carrier and room (R105). That a step before
its time or without its condition does nothing is the model's choice (log entry 1). -/
def Obligations.UsageFrameTakesHeadRecords : Prop :=
  ∀ s : State, s.resetHeld = false →
    (∀ (p : Port) (a : Addr), s.ur.collector = some (p, a) →
      (s.ur.outstanding = none → s.ur.urq ≠ [] → (s.port p).carrier = true →
          (s.port p).queue.length < 512 →
        exec .usageFrameBuild s
          = .next (place p (.control { dst := a, body := .usage (s.ur.urq.take 16) })
              { s with ur := { s.ur with outstanding := some (min 16 s.ur.urq.length) } }))
      ∧ (s.ur.outstanding ≠ none ∨ s.ur.urq = [] ∨ (s.port p).carrier = false
          ∨ 512 ≤ (s.port p).queue.length → exec .usageFrameBuild s = .next s))
    ∧ (s.ur.collector = none → exec .usageFrameBuild s = .next s)

/-- A transmission that completes frees its port and is counted; a user frame, and a control frame of any kind
but three, does nothing more (R18). An END marker ends its link's draining (R150); the response to a Reset COLD
makes the cold reset due (R182). A usage frame's records leave the URQ, and the k entries freed go to a due
summary first and then to the awaiting list, one per context in list order, a CLOSING context becoming FREE
(R102, R104, R106, R111); a PAUSED sweep returns to VISITING where the URQ then has room and the list is empty
(R110). That the cold reset made due, the next usage frame and the next visit are steps of their own is the
model's choice (log entry 7). -/
def Obligations.CompletionIsReported : Prop :=
  ∀ (s : State) (p : Port) (w : Wire), s.resetHeld = false → (s.port p).sending = some w →
    let s' := s.setPort p
      { s.port p with sending := none, transmitted := (s.port p).transmitted + 1 }
    let done := fun t : State => exec (.transmissionCompletion p) s = .next t
    ((∀ e, w.carried = .bare e → done s') ∧ (∀ a n e, w.carried = .link a n e → done s'))
    ∧ (∀ b : ControlBody, w.carried = .control b → (∀ rs, b ≠ .usage rs) → (∀ k a n l, b ≠ .endMarker k a n l) →
        (∀ tag code st rs, b ≠ .response tag code st rs true) → done s')
    ∧ (∀ k a n l, w.carried = .control (.endMarker k a n l) →
      done { s' with su := { s.su with
        drain := s.su.drain.filter fun m => !(m.link == k && m.switchNumber == n) } })
    ∧ (∀ tag code st rs, w.carried = .control (.response tag code st rs true) →
      done { s' with me := { s.me with coldPending := .due } })
    ∧ (∀ rs k, w.carried = .control (.usage rs) → s.ur.outstanding = some k →
      let freed : State := { s' with ur := { s.ur with urq := s.ur.urq.drop k, outstanding := none } }
      let enter := fun (u : State) (i : CtxIx) =>
        match (u.ctx i).awaiting with
        | none => u
        | some r => urqEnter r (u.setCtx i
            (if (u.ctx i).state = CtxState.closing then Context.freeAt (u.ctx i).incarnation
             else { u.ctx i with awaiting := none }))
      let give := fun (n : Nat) (u : State) =>
        (u.ur.awaiting.take n).foldl enter { u with ur := { u.ur with awaiting := u.ur.awaiting.drop n } }
      let due := fun pd => s.ur.sweep = .summaryWait ∧ s.ur.closing = some pd
        ∧ ∀ i r, (s.ctx i).awaiting = some r → r.period ≠ pd
      (s.ur.sweep ≠ .paused → (∀ pd, ¬ due pd) → done (give k freed))
      ∧ (s.ur.sweep = .paused →
        let t := give k freed
        (t.ur.urq.length < 256 ∧ t.ur.awaiting = [] →
          done { t with ur := { t.ur with sweep := .visiting } })
        ∧ (256 ≤ t.ur.urq.length ∨ t.ur.awaiting ≠ [] → done t))
      ∧ (∀ pd, due pd → 1 ≤ k → s.ur.urq ≠ [] → s.ur.urq.length ≤ 256 →
        ∃ t, exec .periodSummary freed = .next t ∧ done (give (k - 1) t)))

/-! ## Settings and resets -/

/-- Configure writes the values given, each brought to its nearest bound, keeps the rest, and reports all of
them; of the pairs that name one port or kind, taken in order, the last gives its level (R175, R186); the
floor in force follows a changed LIMITED floor (R11). It is refused whole for a frame type below 0x0600, a
port, level or kind outside its list, or a lost timeout not above the stale one. The layout of the result
items is the model's choice (log entry 12). -/
def Obligations.ConfigureWritesSettings : Prop :=
  ∀ (s : State) (rq : Request) (a : ConfigureArgs), Passes s rq .configure →
    let kept := fun (lo hi : Nat) (old : Nat) (x : Option Nat) =>
      match x with
      | none => old
      | some v => max lo (min hi v)
    let stale := kept 1 600 s.zu.staleTimeout (a.staleTimeout.map BitVec.toNat)
    let lost := kept 0 3600 s.zu.lostTimeout (a.lostTimeout.map BitVec.toNat)
    ((∃ t, a.frameType = some t ∧ t.toNat < 0x0600) ∨ (∃ d, a.noticeDest = some (some d) ∧ 7 < d.port.toNat)
        ∨ (∃ d, a.collector = some (some d) ∧ 7 < d.port.toNat)
        ∨ (∃ x ∈ a.access, 7 < x.selector.toNat ∨ 3 < x.value.toNat)
        ∨ (∃ x ∈ a.eventLevels, 15 < x.selector.toNat) ∨ lost ≤ stale →
      exec (.configure rq a) s = .next (answerNo rq .configure .badArgument (s.got rq.port)))
    ∧ ((∀ t, a.frameType = some t → 0x0600 ≤ t.toNat) →
        (∀ d, a.noticeDest = some (some d) → d.port.toNat < 8) →
        (∀ d, a.collector = some (some d) → d.port.toNat < 8) →
        (∀ x ∈ a.access, x.selector.toNat < 8 ∧ x.value.toNat < 4) →
        (∀ x ∈ a.eventLevels, x.selector.toNat < 16) → stale < lost →
      ∃ t : State, exec (.configure rq a) s = .next (answerOk rq .configure (settingItems (settingsOf t)) t)
        ∧ t = { s.got rq.port with
            me := { s.me with
              epochLength := kept 1 1000 s.me.epochLength (a.epochLength.map BitVec.toNat)
              frameType := a.frameType.getD s.me.frameType, noticeDest := t.me.noticeDest
              access := t.me.access, noticeFloor := t.me.noticeFloor, events := t.me.events }
            ur := { s.ur with collector := t.ur.collector }
            zu := { s.zu with
              staleTimeout := stale, lostTimeout := lost
              maxStep := kept 1 65535 s.zu.maxStep (a.maxStep.map BitVec.toNat)
              confirmCount := kept 1 8 s.zu.confirmCount (a.confirmCount.map BitVec.toNat) }
            cs := { s.cs with
              ruTimeout := kept 1 60 s.cs.ruTimeout (a.ruTimeout.map BitVec.toNat)
              heartbeatInterval := kept 100 10000 s.cs.heartbeatInterval
                (a.heartbeatInterval.map BitVec.toNat)
              graceTime := kept 0 300 s.cs.graceTime (a.graceTime.map BitVec.toNat)
              holdAge := kept 1 120 s.cs.holdAge (a.holdAge.map BitVec.toNat)
              limitedFloor := t.cs.limitedFloor }
            tc := { s.tc with floor := t.tc.floor } }
        ∧ t.cs.limitedFloor.val = kept 0 7 s.cs.limitedFloor.val (a.limitedFloor.map BitVec.toNat)
        ∧ t.me.noticeFloor.val = kept 0 7 s.me.noticeFloor.val (a.noticeFloor.map BitVec.toNat)
        ∧ (t.cs.limitedFloor = s.cs.limitedFloor → t.tc.floor = s.tc.floor)
        ∧ (t.cs.limitedFloor ≠ s.cs.limitedFloor → t.tc.floor = floorOf t)
        ∧ (a.noticeDest = none → t.me.noticeDest = s.me.noticeDest)
        ∧ (a.noticeDest = some none → t.me.noticeDest = none)
        ∧ (∀ d p, a.noticeDest = some (some d) → d.port.toNat = (portIx p).val →
            t.me.noticeDest = some (p, d.addr))
        ∧ (a.collector = none → t.ur.collector = s.ur.collector)
        ∧ (a.collector = some none → t.ur.collector = none)
        ∧ (∀ d p, a.collector = some (some d) → d.port.toNat = (portIx p).val →
            t.ur.collector = some (p, d.addr))
        ∧ (∀ p, (∀ x ∈ a.access, x.selector.toNat ≠ (portIx p).val) → t.access p = s.access p)
        ∧ (∀ p x pre post, a.access = pre ++ x :: post → x.selector.toNat = (portIx p).val →
            (∀ y ∈ post, y.selector.toNat ≠ (portIx p).val) → (t.access p).code = x.value.toNat)
        ∧ (∀ k, t.event k = { s.event k with level := (t.event k).level })
        ∧ (∀ k : EventKind, (∀ x ∈ a.eventLevels, x.selector.toNat ≠ k.ix.val) →
            (t.event k).level = (s.event k).level)
        ∧ (∀ (k : EventKind) x pre post, a.eventLevels = pre ++ x :: post → x.selector.toNat = k.ix.val →
            (∀ y ∈ post, y.selector.toNat ≠ k.ix.val) → (t.event k).level.val = min 7 x.value.toNat))
    ∧ (let dest := fun d : Option (Port × Addr) => match d with
        | none => ([] : List Byte)
        | some (p, addr) => BitVec.ofNat 8 (portIx p).val :: beBytes 6 addr.toNat
      ∀ v : Settings, settingItems v
        = [⟨1, beBytes 4 v.epochLength⟩, ⟨2, beBytes 2 v.frameType.toNat⟩, ⟨3, dest v.noticeDest⟩,
            ⟨4, dest v.collector⟩]
          ++ (List.finRange 8).map (fun k => ⟨5, [BitVec.ofNat 8 v.access[k].code]⟩)
          ++ [⟨6, beBytes 4 v.staleTimeout⟩, ⟨7, beBytes 4 v.lostTimeout⟩, ⟨8, beBytes 4 v.ruTimeout⟩,
            ⟨9, beBytes 4 v.heartbeatInterval⟩, ⟨10, beBytes 4 v.graceTime⟩, ⟨11, beBytes 4 v.holdAge⟩,
            ⟨12, beBytes 2 v.maxStep⟩, ⟨13, [BitVec.ofNat 8 v.confirmCount]⟩,
            ⟨14, [BitVec.ofNat 8 v.limitedFloor.val]⟩, ⟨15, [BitVec.ofNat 8 v.noticeFloor.val]⟩]
          ++ (List.finRange 16).map (fun k => ⟨16, [BitVec.ofNat 8 v.levels[k].val]⟩))

/-- A warm reset empties every queue: what waits there afterwards is of the reset's own, a ZONE_CHANGE or
SERVICE_LEVEL notice or a heartbeat placed at that moment. It clears every event entry but for those two
kinds, and sets every drop counter to 0 (R21). It puts every link that is not OFF in DOWN with its probe
history cleared, an OFF link with no probe time, and every configured unit in LOST, leaves both slots EMPTY
with slot A in force, no active link, no stage and no drain set, makes the position LOST and descriptor 0 the
zone in force under a new generation, and keeps contexts, records, periods, settings, the zone table, the
switch number, the failover order and the route clock (R184, R20, R44, R66, R116, R136, R153, R172). The
outstanding usage frame stays so while a usage frame is in transmission, and is none otherwise (R116). That
this is so exactly then, and that one round of heartbeats is sent, are inferred (log entry 16). A sum past the
64 bits of a time is a free value (log entry 3). -/
def Obligations.WarmResetKeepsAccounts : Prop :=
  ∀ (s : State) (rq : Request), Passes s rq .reset →
    ∃ t : State, exec (.resetWarm rq) s = .next (answerOk rq .reset [] t)
      ∧ t.contexts = s.contexts
      ∧ t.ur = { s.ur with outstanding := t.ur.outstanding }
      ∧ (let onWire := ∃ p w rs, (s.port p).sending = some w ∧ w.carried = .control (.usage rs)
         (onWire → t.ur.outstanding = s.ur.outstanding) ∧ (¬ onWire → t.ur.outstanding = none))
      ∧ (∀ p, ∀ x ∈ (t.port p).queue, x.placed = s.me.clock ∧ ∃ c, x.body = .control c
        ∧ ((∃ k lv d, c.body = .notice k lv s.me.clock d ∧ (k = .zoneChange ∨ k = .serviceLevel)
              ∧ s.me.noticeDest = some (p, c.dst))
          ∨ (∃ r, (s.ru r).state ≠ .unused ∧ p = .cell (s.ru r).port ∧ c.dst = (s.ru r).addr
              ∧ c.body = .backhaulStatus t.cs.level t.zu.gate t.zu.zone.realm t.tc.floor none t.zu.gen
                  s.me.clock)))
      ∧ t.tc.drops = Vector.replicate 32 0
      ∧ (∀ p, (t.port p).carrier = (s.port p).carrier ∧ (t.port p).sending = (s.port p).sending
        ∧ (t.port p).transmitted = (s.port p).transmitted
        ∧ (t.port p).received = ((s.got rq.port).port p).received)
      ∧ t.active = none
      ∧ t.su = { slotA := none, slotB := none, inForce := .a, stage := none
                 switchNumber := s.su.switchNumber, order := s.su.order, drain := [] }
      ∧ (∀ k, (s.link k).health ≠ .off → t.link k =
          { s.link k with
            health := .down, successes := 0, losses := 0, outcomes := [], s8 := none, outstanding := none
            probeAt := some (timeAfter s.me.clock ((s.link k).cfg.probeInterval * 1000)) })
      ∧ (∀ k, (s.link k).health = .off → t.link k = { s.link k with outstanding := none, probeAt := none })
      ∧ (∀ r, (s.ru r).state ≠ .unused → t.ru r =
          { s.ru r with state := .lost, deadline := none, heartbeats := (s.ru r).heartbeats + 1 })
      ∧ (∀ r, (s.ru r).state = .unused → t.ru r = s.ru r)
      ∧ t.zu = { s.zu with
          pos := { s.zu.pos with state := .lost, stale := none, lost := none }, candidate := none, count := 0
          zoneIx := 0, zone := s.zu.table[(0 : ZoneIx)], gen := s.zu.gen + 1
          gate := if s.zu.table[(0 : ZoneIx)].entryKind = .guarded then .closed else .open }
      ∧ t.cs = { s.cs with hold := [], grace := none, level := levelOf t, rus := t.cs.rus }
      ∧ t.tc.floor = floorOf t
      ∧ t.me = { s.me with events := t.me.events }
      ∧ (∀ k : EventKind, k ≠ .zoneChange → k ≠ .serviceLevel →
          t.event k = { pending := false, seen := false, level := (s.event k).level, detail := none })

/-- Reset COLD is answered OK and leaves a cold reset pending; a Reset of another value than COLD or WARM is
refused (R182). The cold reset of one that is due, of
power-on, and of the release of the reset input leave every block in its cold-reset state, the carriers as
their lines are; one with no cause does nothing. The assertion of the reset input discards every frame and
holds the part in reset (R183). That a step before its time or without its condition does nothing is the
model's choice (log entry 1). How the reset input holds and releases the part, that a cold reset which is
due is taken by a command of its own, and that the response says so by one item of value 0, are the model's
choices (log entries 8, 7 and 12), and so is the period of the unused accumulator in State.reset (log entry
4). -/
def Obligations.ColdResetClearsEverything : Prop :=
  ∀ s : State,
    let cold := fun held : Bool =>
      { State.reset with
        ports := s.ports.map fun p => { PortState.cold with carrier := p.carrier }
        resetHeld := held, pending := s.pending }
    (∀ rq, Passes s rq .reset →
      exec (.resetCold rq) s
        = .next (respond rq 46 { status := .ok, results := [item 1 (byte 0)], cold := true }
            { s.got rq.port with me := { s.me with coldPending := .waiting } }))
    ∧ (∀ (rq : Request) (v : Byte), Passes s rq .reset → 1 < v.toNat →
      exec (.badCommand rq 46 [item 1 [v]]) s = .next (answerNo rq .reset .badArgument (s.got rq.port)))
    ∧ exec (.coldReset .powerOn) s = .next (cold s.resetHeld)
    ∧ (s.resetHeld = true → exec (.coldReset .inputReleased) s = .next (cold false))
    ∧ (s.resetHeld = false → exec (.coldReset .inputReleased) s = .next s)
    ∧ (s.resetHeld = false → s.me.coldPending = .due →
      exec (.coldReset .pendingReset) s = .next (cold false))
    ∧ (s.resetHeld = true ∨ s.me.coldPending ≠ .due → exec (.coldReset .pendingReset) s = .next s)
    ∧ ∃ t, exec .resetInputAsserted s = .next t
      ∧ t = { s with
          ports := t.ports, cs := { s.cs with hold := [] }, ur := { s.ur with outstanding := none }
          resetHeld := true }
      ∧ ∀ p, t.port p = { s.port p with queue := [], sending := none }
end

