-- ==== Sys2Proof/Laws/State.lean ====
section
/-! SUPPORT. What each update of the state leaves as it was, field by field, and what is read back after it:
true by definition, for the simp set. -/

namespace Sys2Proof.Machine

variable (s : State)

/-! ### setPort -/

@[simp] theorem State.setPort_tc (p : Port) (x : PortState) : (s.setPort p x).tc = s.tc := rfl
@[simp] theorem State.setPort_contexts (p : Port) (x : PortState) :
    (s.setPort p x).contexts = s.contexts := rfl
@[simp] theorem State.setPort_zu (p : Port) (x : PortState) : (s.setPort p x).zu = s.zu := rfl
@[simp] theorem State.setPort_ur (p : Port) (x : PortState) : (s.setPort p x).ur = s.ur := rfl
@[simp] theorem State.setPort_links (p : Port) (x : PortState) : (s.setPort p x).links = s.links := rfl
@[simp] theorem State.setPort_su (p : Port) (x : PortState) : (s.setPort p x).su = s.su := rfl
@[simp] theorem State.setPort_cs (p : Port) (x : PortState) : (s.setPort p x).cs = s.cs := rfl
@[simp] theorem State.setPort_me (p : Port) (x : PortState) : (s.setPort p x).me = s.me := rfl
@[simp] theorem State.setPort_resetHeld (p : Port) (x : PortState) :
    (s.setPort p x).resetHeld = s.resetHeld := rfl
@[simp] theorem State.setPort_pending (p : Port) (x : PortState) : (s.setPort p x).pending = s.pending := rfl

/-! ### setQueue -/

@[simp] theorem State.setQueue_tc (p : Port) (es : List Entry) : (s.setQueue p es).tc = s.tc := rfl
@[simp] theorem State.setQueue_contexts (p : Port) (es : List Entry) :
    (s.setQueue p es).contexts = s.contexts := rfl
@[simp] theorem State.setQueue_zu (p : Port) (es : List Entry) : (s.setQueue p es).zu = s.zu := rfl
@[simp] theorem State.setQueue_ur (p : Port) (es : List Entry) : (s.setQueue p es).ur = s.ur := rfl
@[simp] theorem State.setQueue_links (p : Port) (es : List Entry) : (s.setQueue p es).links = s.links := rfl
@[simp] theorem State.setQueue_su (p : Port) (es : List Entry) : (s.setQueue p es).su = s.su := rfl
@[simp] theorem State.setQueue_cs (p : Port) (es : List Entry) : (s.setQueue p es).cs = s.cs := rfl
@[simp] theorem State.setQueue_me (p : Port) (es : List Entry) : (s.setQueue p es).me = s.me := rfl
@[simp] theorem State.setQueue_resetHeld (p : Port) (es : List Entry) :
    (s.setQueue p es).resetHeld = s.resetHeld := rfl
@[simp] theorem State.setQueue_pending (p : Port) (es : List Entry) :
    (s.setQueue p es).pending = s.pending := rfl

/-! ### setCarrier -/

@[simp] theorem State.setCarrier_tc (p : Port) (b : Bool) : (s.setCarrier p b).tc = s.tc := rfl
@[simp] theorem State.setCarrier_contexts (p : Port) (b : Bool) :
    (s.setCarrier p b).contexts = s.contexts := rfl
@[simp] theorem State.setCarrier_zu (p : Port) (b : Bool) : (s.setCarrier p b).zu = s.zu := rfl
@[simp] theorem State.setCarrier_ur (p : Port) (b : Bool) : (s.setCarrier p b).ur = s.ur := rfl
@[simp] theorem State.setCarrier_links (p : Port) (b : Bool) : (s.setCarrier p b).links = s.links := rfl
@[simp] theorem State.setCarrier_su (p : Port) (b : Bool) : (s.setCarrier p b).su = s.su := rfl
@[simp] theorem State.setCarrier_cs (p : Port) (b : Bool) : (s.setCarrier p b).cs = s.cs := rfl
@[simp] theorem State.setCarrier_me (p : Port) (b : Bool) : (s.setCarrier p b).me = s.me := rfl
@[simp] theorem State.setCarrier_resetHeld (p : Port) (b : Bool) :
    (s.setCarrier p b).resetHeld = s.resetHeld := rfl
@[simp] theorem State.setCarrier_pending (p : Port) (b : Bool) : (s.setCarrier p b).pending = s.pending := rfl

/-! ### setCtx -/

@[simp] theorem State.setCtx_ports (i : CtxIx) (c : Context) : (s.setCtx i c).ports = s.ports := rfl
@[simp] theorem State.setCtx_tc (i : CtxIx) (c : Context) : (s.setCtx i c).tc = s.tc := rfl
@[simp] theorem State.setCtx_zu (i : CtxIx) (c : Context) : (s.setCtx i c).zu = s.zu := rfl
@[simp] theorem State.setCtx_ur (i : CtxIx) (c : Context) : (s.setCtx i c).ur = s.ur := rfl
@[simp] theorem State.setCtx_links (i : CtxIx) (c : Context) : (s.setCtx i c).links = s.links := rfl
@[simp] theorem State.setCtx_su (i : CtxIx) (c : Context) : (s.setCtx i c).su = s.su := rfl
@[simp] theorem State.setCtx_cs (i : CtxIx) (c : Context) : (s.setCtx i c).cs = s.cs := rfl
@[simp] theorem State.setCtx_me (i : CtxIx) (c : Context) : (s.setCtx i c).me = s.me := rfl
@[simp] theorem State.setCtx_resetHeld (i : CtxIx) (c : Context) :
    (s.setCtx i c).resetHeld = s.resetHeld := rfl
@[simp] theorem State.setCtx_pending (i : CtxIx) (c : Context) : (s.setCtx i c).pending = s.pending := rfl

/-! ### setLink -/

@[simp] theorem State.setLink_ports (k : LinkIx) (l : Link) : (s.setLink k l).ports = s.ports := rfl
@[simp] theorem State.setLink_tc (k : LinkIx) (l : Link) : (s.setLink k l).tc = s.tc := rfl
@[simp] theorem State.setLink_contexts (k : LinkIx) (l : Link) : (s.setLink k l).contexts = s.contexts := rfl
@[simp] theorem State.setLink_zu (k : LinkIx) (l : Link) : (s.setLink k l).zu = s.zu := rfl
@[simp] theorem State.setLink_ur (k : LinkIx) (l : Link) : (s.setLink k l).ur = s.ur := rfl
@[simp] theorem State.setLink_su (k : LinkIx) (l : Link) : (s.setLink k l).su = s.su := rfl
@[simp] theorem State.setLink_cs (k : LinkIx) (l : Link) : (s.setLink k l).cs = s.cs := rfl
@[simp] theorem State.setLink_me (k : LinkIx) (l : Link) : (s.setLink k l).me = s.me := rfl
@[simp] theorem State.setLink_resetHeld (k : LinkIx) (l : Link) :
    (s.setLink k l).resetHeld = s.resetHeld := rfl
@[simp] theorem State.setLink_pending (k : LinkIx) (l : Link) : (s.setLink k l).pending = s.pending := rfl

/-! ### setRu -/

@[simp] theorem State.setRu_ports (r : RuIx) (u : RadioUnit) : (s.setRu r u).ports = s.ports := rfl
@[simp] theorem State.setRu_tc (r : RuIx) (u : RadioUnit) : (s.setRu r u).tc = s.tc := rfl
@[simp] theorem State.setRu_contexts (r : RuIx) (u : RadioUnit) : (s.setRu r u).contexts = s.contexts := rfl
@[simp] theorem State.setRu_zu (r : RuIx) (u : RadioUnit) : (s.setRu r u).zu = s.zu := rfl
@[simp] theorem State.setRu_ur (r : RuIx) (u : RadioUnit) : (s.setRu r u).ur = s.ur := rfl
@[simp] theorem State.setRu_links (r : RuIx) (u : RadioUnit) : (s.setRu r u).links = s.links := rfl
@[simp] theorem State.setRu_su (r : RuIx) (u : RadioUnit) : (s.setRu r u).su = s.su := rfl
@[simp] theorem State.setRu_me (r : RuIx) (u : RadioUnit) : (s.setRu r u).me = s.me := rfl
@[simp] theorem State.setRu_resetHeld (r : RuIx) (u : RadioUnit) :
    (s.setRu r u).resetHeld = s.resetHeld := rfl
@[simp] theorem State.setRu_pending (r : RuIx) (u : RadioUnit) : (s.setRu r u).pending = s.pending := rfl

/-! ### setEvent -/

@[simp] theorem State.setEvent_ports (k : EventKind) (e : EventEntry) :
    (s.setEvent k e).ports = s.ports := rfl
@[simp] theorem State.setEvent_tc (k : EventKind) (e : EventEntry) : (s.setEvent k e).tc = s.tc := rfl
@[simp] theorem State.setEvent_contexts (k : EventKind) (e : EventEntry) :
    (s.setEvent k e).contexts = s.contexts := rfl
@[simp] theorem State.setEvent_zu (k : EventKind) (e : EventEntry) : (s.setEvent k e).zu = s.zu := rfl
@[simp] theorem State.setEvent_ur (k : EventKind) (e : EventEntry) : (s.setEvent k e).ur = s.ur := rfl
@[simp] theorem State.setEvent_links (k : EventKind) (e : EventEntry) :
    (s.setEvent k e).links = s.links := rfl
@[simp] theorem State.setEvent_su (k : EventKind) (e : EventEntry) : (s.setEvent k e).su = s.su := rfl
@[simp] theorem State.setEvent_cs (k : EventKind) (e : EventEntry) : (s.setEvent k e).cs = s.cs := rfl
@[simp] theorem State.setEvent_resetHeld (k : EventKind) (e : EventEntry) :
    (s.setEvent k e).resetHeld = s.resetHeld := rfl
@[simp] theorem State.setEvent_pending (k : EventKind) (e : EventEntry) :
    (s.setEvent k e).pending = s.pending := rfl

/-! ### setHold -/

@[simp] theorem State.setHold_ports (h : List UserEntry) : (s.setHold h).ports = s.ports := rfl
@[simp] theorem State.setHold_tc (h : List UserEntry) : (s.setHold h).tc = s.tc := rfl
@[simp] theorem State.setHold_contexts (h : List UserEntry) : (s.setHold h).contexts = s.contexts := rfl
@[simp] theorem State.setHold_zu (h : List UserEntry) : (s.setHold h).zu = s.zu := rfl
@[simp] theorem State.setHold_ur (h : List UserEntry) : (s.setHold h).ur = s.ur := rfl
@[simp] theorem State.setHold_links (h : List UserEntry) : (s.setHold h).links = s.links := rfl
@[simp] theorem State.setHold_su (h : List UserEntry) : (s.setHold h).su = s.su := rfl
@[simp] theorem State.setHold_me (h : List UserEntry) : (s.setHold h).me = s.me := rfl
@[simp] theorem State.setHold_resetHeld (h : List UserEntry) : (s.setHold h).resetHeld = s.resetHeld := rfl
@[simp] theorem State.setHold_pending (h : List UserEntry) : (s.setHold h).pending = s.pending := rfl

/-! ### withPending -/

@[simp] theorem State.withPending_ports (is : List Instr) : (s.withPending is).ports = s.ports := rfl
@[simp] theorem State.withPending_tc (is : List Instr) : (s.withPending is).tc = s.tc := rfl
@[simp] theorem State.withPending_contexts (is : List Instr) : (s.withPending is).contexts = s.contexts := rfl
@[simp] theorem State.withPending_zu (is : List Instr) : (s.withPending is).zu = s.zu := rfl
@[simp] theorem State.withPending_ur (is : List Instr) : (s.withPending is).ur = s.ur := rfl
@[simp] theorem State.withPending_links (is : List Instr) : (s.withPending is).links = s.links := rfl
@[simp] theorem State.withPending_su (is : List Instr) : (s.withPending is).su = s.su := rfl
@[simp] theorem State.withPending_cs (is : List Instr) : (s.withPending is).cs = s.cs := rfl
@[simp] theorem State.withPending_me (is : List Instr) : (s.withPending is).me = s.me := rfl
@[simp] theorem State.withPending_resetHeld (is : List Instr) :
    (s.withPending is).resetHeld = s.resetHeld := rfl

/-! ### One record of a table is read back where it was written, and the others stay -/

theorem portIx_injective {p q : Port} (h : portIx p = portIx q) : p = q := by
  cases p <;> cases q <;> simp [portIx, Fin.ext_iff] at h ⊢ <;> omega

theorem EventKind.ix_injective {j k : EventKind} (h : j.ix = k.ix) : j = k := by
  cases j <;> cases k <;> first | rfl | simp [EventKind.ix] at h

theorem dropIx_injective {r r' : DropReason} {d d' : Dir} (h : dropIx r d = dropIx r' d') :
    r = r' ∧ d = d' := by
  have hi : r.ix = r'.ix ∧ d = d' := by
    cases d <;> cases d' <;> simp [dropIx, Fin.ext_iff] at h ⊢ <;> omega
  exact ⟨by revert hi; cases r <;> cases r' <;> simp [DropReason.ix], hi.2⟩

@[simp] theorem State.setPort_port (p q : Port) (x : PortState) :
    (s.setPort p x).port q = if p = q then x else s.port q := by
  simp only [State.port, State.setPort, Fin.getElem_fin, Vector.getElem_set]
  by_cases h : p = q
  · simp [h]
  · rw [if_neg h, if_neg fun e => h (portIx_injective (Fin.ext e))]

@[simp] theorem State.setCtx_ctx (i j : CtxIx) (c : Context) :
    (s.setCtx i c).ctx j = if i = j then c else s.ctx j := by
  simp only [State.ctx, State.setCtx, Fin.getElem_fin, Vector.getElem_set, Fin.ext_iff]

@[simp] theorem State.setLink_link (i j : LinkIx) (l : Link) :
    (s.setLink i l).link j = if i = j then l else s.link j := by
  simp only [State.link, State.setLink, Fin.getElem_fin, Vector.getElem_set, Fin.ext_iff]

@[simp] theorem State.setRu_ru (i j : RuIx) (u : RadioUnit) :
    (s.setRu i u).ru j = if i = j then u else s.ru j := by
  simp only [State.ru, State.setRu, Fin.getElem_fin, Vector.getElem_set, Fin.ext_iff]

@[simp] theorem State.setEvent_event (j k : EventKind) (e : EventEntry) :
    (s.setEvent j e).event k = if j = k then e else s.event k := by
  simp only [State.event, State.setEvent, Fin.getElem_fin, Vector.getElem_set]
  by_cases h : j = k
  · simp [h]
  · rw [if_neg h, if_neg fun e => h (EventKind.ix_injective (Fin.ext e))]

@[simp] theorem State.setQueue_port (p q : Port) (es : List Entry) :
    (s.setQueue p es).port q = if p = q then { s.port p with queue := es } else s.port q :=
  State.setPort_port s p q _

@[simp] theorem State.setCarrier_port (p q : Port) (b : Bool) :
    (s.setCarrier p b).port q = if p = q then { s.port p with carrier := b } else s.port q :=
  State.setPort_port s p q _

@[simp] theorem State.setHold_hold (h : List UserEntry) : (s.setHold h).cs.hold = h := rfl
@[simp] theorem State.withPending_pending (is : List Instr) : (s.withPending is).pending = is := rfl

/-! ### A record of one table is as it was after a write to another -/

@[simp] theorem State.setPort_ctx (p : Port) (x : PortState) (j' : CtxIx) :
    (s.setPort p x).ctx j' = s.ctx j' := rfl
@[simp] theorem State.setPort_link (p : Port) (x : PortState) (k' : LinkIx) :
    (s.setPort p x).link k' = s.link k' := rfl
@[simp] theorem State.setPort_ru (p : Port) (x : PortState) (r' : RuIx) :
    (s.setPort p x).ru r' = s.ru r' := rfl
@[simp] theorem State.setPort_event (p : Port) (x : PortState) (j' : EventKind) :
    (s.setPort p x).event j' = s.event j' := rfl
@[simp] theorem State.setPort_access (p : Port) (x : PortState) (q : Port) :
    (s.setPort p x).access q = s.access q := rfl
@[simp] theorem State.setQueue_self (p : Port) : s.setQueue p (s.port p).queue = s := by
  have : s.ports.set (portIx p) s.ports[portIx p] = s.ports := Vector.set_getElem_self ..
  exact congrArg (fun v => { s with ports := v }) this

@[simp] theorem State.setQueue_setQueue (p : Port) (q r : List Entry) :
    (s.setQueue p q).setQueue p r = s.setQueue p r := by
  simp [State.setQueue, State.setPort, State.port]

@[simp] theorem State.setQueue_ctx (p : Port) (es : List Entry) (j' : CtxIx) :
    (s.setQueue p es).ctx j' = s.ctx j' := rfl
@[simp] theorem State.setQueue_link (p : Port) (es : List Entry) (k' : LinkIx) :
    (s.setQueue p es).link k' = s.link k' := rfl
@[simp] theorem State.setQueue_ru (p : Port) (es : List Entry) (r' : RuIx) :
    (s.setQueue p es).ru r' = s.ru r' := rfl
@[simp] theorem State.setQueue_event (p : Port) (es : List Entry) (j' : EventKind) :
    (s.setQueue p es).event j' = s.event j' := rfl
@[simp] theorem State.setQueue_access (p : Port) (es : List Entry) (q : Port) :
    (s.setQueue p es).access q = s.access q := rfl
@[simp] theorem State.setCarrier_ctx (p : Port) (b : Bool) (j' : CtxIx) :
    (s.setCarrier p b).ctx j' = s.ctx j' := rfl
@[simp] theorem State.setCarrier_link (p : Port) (b : Bool) (k' : LinkIx) :
    (s.setCarrier p b).link k' = s.link k' := rfl
@[simp] theorem State.setCarrier_ru (p : Port) (b : Bool) (r' : RuIx) :
    (s.setCarrier p b).ru r' = s.ru r' := rfl
@[simp] theorem State.setCarrier_event (p : Port) (b : Bool) (j' : EventKind) :
    (s.setCarrier p b).event j' = s.event j' := rfl
@[simp] theorem State.setCarrier_access (p : Port) (b : Bool) (q : Port) :
    (s.setCarrier p b).access q = s.access q := rfl
@[simp] theorem State.setCtx_port (i : CtxIx) (c : Context) (q : Port) :
    (s.setCtx i c).port q = s.port q := rfl
@[simp] theorem State.setCtx_link (i : CtxIx) (c : Context) (k' : LinkIx) :
    (s.setCtx i c).link k' = s.link k' := rfl
@[simp] theorem State.setCtx_ru (i : CtxIx) (c : Context) (r' : RuIx) : (s.setCtx i c).ru r' = s.ru r' := rfl
@[simp] theorem State.setCtx_event (i : CtxIx) (c : Context) (j' : EventKind) :
    (s.setCtx i c).event j' = s.event j' := rfl
@[simp] theorem State.setCtx_access (i : CtxIx) (c : Context) (q : Port) :
    (s.setCtx i c).access q = s.access q := rfl
@[simp] theorem State.setLink_port (k : LinkIx) (l : Link) (q : Port) :
    (s.setLink k l).port q = s.port q := rfl
@[simp] theorem State.setLink_ctx (k : LinkIx) (l : Link) (j' : CtxIx) :
    (s.setLink k l).ctx j' = s.ctx j' := rfl
@[simp] theorem State.setLink_ru (k : LinkIx) (l : Link) (r' : RuIx) : (s.setLink k l).ru r' = s.ru r' := rfl
@[simp] theorem State.setLink_event (k : LinkIx) (l : Link) (j' : EventKind) :
    (s.setLink k l).event j' = s.event j' := rfl
@[simp] theorem State.setLink_access (k : LinkIx) (l : Link) (q : Port) :
    (s.setLink k l).access q = s.access q := rfl
@[simp] theorem State.setRu_port (r : RuIx) (u : RadioUnit) (q : Port) :
    (s.setRu r u).port q = s.port q := rfl
@[simp] theorem State.setRu_ctx (r : RuIx) (u : RadioUnit) (j' : CtxIx) :
    (s.setRu r u).ctx j' = s.ctx j' := rfl
@[simp] theorem State.setRu_link (r : RuIx) (u : RadioUnit) (k' : LinkIx) :
    (s.setRu r u).link k' = s.link k' := rfl
@[simp] theorem State.setRu_event (r : RuIx) (u : RadioUnit) (j' : EventKind) :
    (s.setRu r u).event j' = s.event j' := rfl
@[simp] theorem State.setRu_access (r : RuIx) (u : RadioUnit) (q : Port) :
    (s.setRu r u).access q = s.access q := rfl
@[simp] theorem State.setEvent_port (k : EventKind) (e : EventEntry) (q : Port) :
    (s.setEvent k e).port q = s.port q := rfl
@[simp] theorem State.setEvent_ctx (k : EventKind) (e : EventEntry) (j' : CtxIx) :
    (s.setEvent k e).ctx j' = s.ctx j' := rfl
@[simp] theorem State.setEvent_link (k : EventKind) (e : EventEntry) (k' : LinkIx) :
    (s.setEvent k e).link k' = s.link k' := rfl
@[simp] theorem State.setEvent_ru (k : EventKind) (e : EventEntry) (r' : RuIx) :
    (s.setEvent k e).ru r' = s.ru r' := rfl
@[simp] theorem State.setHold_port (h : List UserEntry) (q : Port) : (s.setHold h).port q = s.port q := rfl
@[simp] theorem State.setHold_ctx (h : List UserEntry) (j' : CtxIx) : (s.setHold h).ctx j' = s.ctx j' := rfl
@[simp] theorem State.setHold_link (h : List UserEntry) (k' : LinkIx) :
    (s.setHold h).link k' = s.link k' := rfl
@[simp] theorem State.setHold_event (h : List UserEntry) (j' : EventKind) :
    (s.setHold h).event j' = s.event j' := rfl
@[simp] theorem State.setHold_access (h : List UserEntry) (q : Port) :
    (s.setHold h).access q = s.access q := rfl
@[simp] theorem State.withPending_port (is : List Instr) (q : Port) :
    (s.withPending is).port q = s.port q := rfl
@[simp] theorem State.withPending_ctx (is : List Instr) (j' : CtxIx) :
    (s.withPending is).ctx j' = s.ctx j' := rfl
@[simp] theorem State.withPending_link (is : List Instr) (k' : LinkIx) :
    (s.withPending is).link k' = s.link k' := rfl
@[simp] theorem State.withPending_ru (is : List Instr) (r' : RuIx) : (s.withPending is).ru r' = s.ru r' := rfl
@[simp] theorem State.withPending_event (is : List Instr) (j' : EventKind) :
    (s.withPending is).event j' = s.event j' := rfl
@[simp] theorem State.withPending_access (is : List Instr) (q : Port) :
    (s.withPending is).access q = s.access q := rfl
@[simp] theorem State.setRu_hold (r : RuIx) (u : RadioUnit) : (s.setRu r u).cs.hold = s.cs.hold := rfl
@[simp] theorem State.setRu_level (r : RuIx) (u : RadioUnit) : (s.setRu r u).cs.level = s.cs.level := rfl
@[simp] theorem State.setRu_grace (r : RuIx) (u : RadioUnit) : (s.setRu r u).cs.grace = s.cs.grace := rfl
@[simp] theorem State.setHold_ru (h : List UserEntry) (r : RuIx) : (s.setHold h).ru r = s.ru r := rfl
@[simp] theorem State.setHold_level (h : List UserEntry) : (s.setHold h).cs.level = s.cs.level := rfl
@[simp] theorem State.setHold_grace (h : List UserEntry) : (s.setHold h).cs.grace = s.cs.grace := rfl
@[simp] theorem State.setEvent_me_access (k : EventKind) (e : EventEntry) :
    (s.setEvent k e).me.access = s.me.access := rfl
@[simp] theorem State.setEvent_me_clock (k : EventKind) (e : EventEntry) :
    (s.setEvent k e).me.clock = s.me.clock := rfl
@[simp] theorem State.setEvent_me_noticeFloor (k : EventKind) (e : EventEntry) :
    (s.setEvent k e).me.noticeFloor = s.me.noticeFloor := rfl
@[simp] theorem State.setEvent_me_noticeDest (k : EventKind) (e : EventEntry) :
    (s.setEvent k e).me.noticeDest = s.me.noticeDest := rfl
@[simp] theorem State.setEvent_me_frameType (k : EventKind) (e : EventEntry) :
    (s.setEvent k e).me.frameType = s.me.frameType := rfl
@[simp] theorem State.setEvent_me_coldPending (k : EventKind) (e : EventEntry) :
    (s.setEvent k e).me.coldPending = s.me.coldPending := rfl
@[simp] theorem State.setEvent_me_nextBoundary (k : EventKind) (e : EventEntry) :
    (s.setEvent k e).me.nextBoundary = s.me.nextBoundary := rfl
@[simp] theorem State.setEvent_me_epochLength (k : EventKind) (e : EventEntry) :
    (s.setEvent k e).me.epochLength = s.me.epochLength := rfl
@[simp] theorem State.setEvent_me_epochNumber (k : EventKind) (e : EventEntry) :
    (s.setEvent k e).me.epochNumber = s.me.epochNumber := rfl

/-! ### A record written twice, or written with what it holds -/

@[simp] theorem State.setCtx_setCtx (i : CtxIx) (c d : Context) :
    (s.setCtx i c).setCtx i d = s.setCtx i d := by
  simp [State.setCtx]

@[simp] theorem State.setLink_setLink (k : LinkIx) (l m : Link) :
    (s.setLink k l).setLink k m = s.setLink k m := by
  simp [State.setLink]

@[simp] theorem State.setPort_setPort (p : Port) (x y : PortState) :
    (s.setPort p x).setPort p y = s.setPort p y := by
  simp [State.setPort]

@[simp] theorem State.setRu_setRu (r : RuIx) (u v : RadioUnit) :
    (s.setRu r u).setRu r v = s.setRu r v := by
  simp [State.setRu]

@[simp] theorem State.setCtx_self (i : CtxIx) : s.setCtx i (s.ctx i) = s := by
  simp [State.setCtx, State.ctx]

@[simp] theorem State.setLink_self (k : LinkIx) : s.setLink k (s.link k) = s := by
  simp [State.setLink, State.link]

@[simp] theorem State.setPort_self (p : Port) : s.setPort p (s.port p) = s := by
  simp [State.setPort, State.port]

@[simp] theorem State.setRu_self (r : RuIx) : s.setRu r (s.ru r) = s := by
  simp [State.setRu, State.ru]

/-! ### The frame counted on its port (R22) -/

@[simp] theorem State.got_tc (p : Port) : (s.got p).tc = s.tc := rfl
@[simp] theorem State.got_contexts (p : Port) : (s.got p).contexts = s.contexts := rfl
@[simp] theorem State.got_zu (p : Port) : (s.got p).zu = s.zu := rfl
@[simp] theorem State.got_ur (p : Port) : (s.got p).ur = s.ur := rfl
@[simp] theorem State.got_links (p : Port) : (s.got p).links = s.links := rfl
@[simp] theorem State.got_su (p : Port) : (s.got p).su = s.su := rfl
@[simp] theorem State.got_cs (p : Port) : (s.got p).cs = s.cs := rfl
@[simp] theorem State.got_me (p : Port) : (s.got p).me = s.me := rfl
@[simp] theorem State.got_resetHeld (p : Port) : (s.got p).resetHeld = s.resetHeld := rfl
@[simp] theorem State.got_pending (p : Port) : (s.got p).pending = s.pending := rfl
@[simp] theorem State.got_ctx (p : Port) (j : CtxIx) : (s.got p).ctx j = s.ctx j := rfl
@[simp] theorem State.got_link (p : Port) (k : LinkIx) : (s.got p).link k = s.link k := rfl
@[simp] theorem State.got_ru (p : Port) (r : RuIx) : (s.got p).ru r = s.ru r := rfl
@[simp] theorem State.got_event (p : Port) (j : EventKind) : (s.got p).event j = s.event j := rfl
@[simp] theorem State.got_access (p : Port) (q : Port) : (s.got p).access q = s.access q := rfl

@[simp] theorem State.got_port (p q : Port) :
    (s.got p).port q
      = if p = q then { s.port p with received := (s.port p).received + 1 } else s.port q :=
  State.setPort_port s p q _

@[simp] theorem State.got_queue (p q : Port) : ((s.got p).port q).queue = (s.port q).queue := by
  rw [State.got_port]; split
  · subst_vars; rfl
  · rfl

@[simp] theorem State.got_carrier (p q : Port) : ((s.got p).port q).carrier = (s.port q).carrier := by
  rw [State.got_port]; split
  · subst_vars; rfl
  · rfl

@[simp] theorem State.got_active (p : Port) : (s.got p).active = s.active := rfl
@[simp] theorem State.got_now (p : Port) : (s.got p).now = s.now := rfl

/-! ### What the machinery of the blocks keeps -/

/-- What a command's own writes change, and placing, dropping, raising, steering and the hand-over to CS do
not: the accounts, the zones, the records, the route clock, and every setting. -/
structure Kept where
  contexts : Vector Context 4096
  zu : Zu
  ur : Ur
  resetHeld : Bool
  pending : List Instr
  access : Vector Access 8
  noticeFloor : Floor
  noticeDest : Option (Port × Addr)
  frameType : BitVec 16
  clock : Time
  epochNumber : Num32
  nextBoundary : Time
  epochLength : Nat
  limitedFloor : Floor
  hostFloor : Floor
  graceTime : Nat
  holdAge : Nat
  ruTimeout : Nat
  heartbeatInterval : Nat
  nextHeartbeat : Time

/-- The part of a state that `Kept` names. -/
def State.kept (s : State) : Kept where
  contexts := s.contexts
  zu := s.zu
  ur := s.ur
  resetHeld := s.resetHeld
  pending := s.pending
  access := s.me.access
  noticeFloor := s.me.noticeFloor
  noticeDest := s.me.noticeDest
  frameType := s.me.frameType
  clock := s.me.clock
  epochNumber := s.me.epochNumber
  nextBoundary := s.me.nextBoundary
  epochLength := s.me.epochLength
  limitedFloor := s.cs.limitedFloor
  hostFloor := s.cs.hostFloor
  graceTime := s.cs.graceTime
  holdAge := s.cs.holdAge
  ruTimeout := s.cs.ruTimeout
  heartbeatInterval := s.cs.heartbeatInterval
  nextHeartbeat := s.cs.nextHeartbeat

/-- The selector and what steers it: SU but for the drain set. -/
structure Selector where
  slotA : Option LinkIx
  slotB : Option LinkIx
  inForce : Slot
  stage : Option Stage
  switchNumber : Num16
  order : List LinkIx

/-- The selector of SU. -/
def Su.selector (su : Su) : Selector :=
  ⟨su.slotA, su.slotB, su.inForce, su.stage, su.switchNumber, su.order⟩

/-- The active link is read from the selector. -/
theorem active_of_selector {s t : State} (h : t.su.selector = s.su.selector) : t.active = s.active := by
  simp only [Su.selector, Selector.mk.injEq] at h
  simp [State.active, Su.active, Su.slot, h.1, h.2.1, h.2.2.1]

@[simp] theorem State.setPort_kept (p : Port) (x : PortState) : (s.setPort p x).kept = s.kept := rfl
@[simp] theorem State.setQueue_kept (p : Port) (es : List Entry) : (s.setQueue p es).kept = s.kept := rfl
@[simp] theorem State.setCarrier_kept (p : Port) (b : Bool) : (s.setCarrier p b).kept = s.kept := rfl
@[simp] theorem State.setLink_kept (k : LinkIx) (l : Link) : (s.setLink k l).kept = s.kept := rfl
@[simp] theorem State.setRu_kept (r : RuIx) (u : RadioUnit) : (s.setRu r u).kept = s.kept := rfl
@[simp] theorem State.setEvent_kept (k : EventKind) (e : EventEntry) : (s.setEvent k e).kept = s.kept := rfl
@[simp] theorem State.setHold_kept (h : List UserEntry) : (s.setHold h).kept = s.kept := rfl
@[simp] theorem State.got_kept (p : Port) : (s.got p).kept = s.kept := rfl

end Sys2Proof.Machine
end

