-- ==== Sys2Proof/Laws/Ops.lean ====
section
/-! SUPPORT. What each shared operation of Machine/Ops.lean and Machine/Answer.lean can do, said once, and
what it leaves as it was. -/

namespace Sys2Proof.Machine

/-- A fold keeps what each of its steps keeps. -/
theorem foldl_keeps {α β γ : Type} (look : β → γ) (f : β → α → β) (keeps : ∀ b a, look (f b a) = look b)
    (xs : List α) (b : β) : look (xs.foldl f b) = look b := by
  induction xs generalizing b with
  | nil => rfl
  | cons x xs ih => rw [List.foldl_cons, ih, keeps]

variable (s : State)

/-! ### Conditions, as the rules word them -/

theorem State.hasRoom_iff (p : Port) : s.hasRoom p = true ↔ (s.port p).queue.length < 512 := decide_eq_true_iff
theorem State.urqRoom_iff : s.urqRoom = true ↔ s.ur.urq.length < 256 := decide_eq_true_iff
theorem State.reached_iff (d : Time) : s.reached d = true ↔ d.toNat ≤ s.me.clock.toNat := decide_eq_true_iff
theorem mem_when (c : Bool) (i j : Instr) : j ∈ when c i ↔ c = true ∧ j = i := by
  unfold when; cases c <;> simp

/-! ### Drops (R21) -/

@[simp] theorem drop_ports (r : DropReason) (d : Dir) : (drop r d s).ports = s.ports := rfl
@[simp] theorem drop_contexts (r : DropReason) (d : Dir) : (drop r d s).contexts = s.contexts := rfl
@[simp] theorem drop_zu (r : DropReason) (d : Dir) : (drop r d s).zu = s.zu := rfl
@[simp] theorem drop_ur (r : DropReason) (d : Dir) : (drop r d s).ur = s.ur := rfl
@[simp] theorem drop_links (r : DropReason) (d : Dir) : (drop r d s).links = s.links := rfl
@[simp] theorem drop_su (r : DropReason) (d : Dir) : (drop r d s).su = s.su := rfl
@[simp] theorem drop_cs (r : DropReason) (d : Dir) : (drop r d s).cs = s.cs := rfl
@[simp] theorem drop_me (r : DropReason) (d : Dir) : (drop r d s).me = s.me := rfl
@[simp] theorem drop_resetHeld (r : DropReason) (d : Dir) : (drop r d s).resetHeld = s.resetHeld := rfl
@[simp] theorem drop_pending (r : DropReason) (d : Dir) : (drop r d s).pending = s.pending := rfl
@[simp] theorem drop_tc_floor (r : DropReason) (d : Dir) : (drop r d s).tc.floor = s.tc.floor := rfl
@[simp] theorem drop_kept (r : DropReason) (d : Dir) : (drop r d s).kept = s.kept := rfl
@[simp] theorem drop_port (r : DropReason) (d : Dir) (q : Port) : (drop r d s).port q = s.port q := rfl
@[simp] theorem drop_ctx (r : DropReason) (d : Dir) (j : CtxIx) : (drop r d s).ctx j = s.ctx j := rfl
@[simp] theorem drop_link (r : DropReason) (d : Dir) (k : LinkIx) : (drop r d s).link k = s.link k := rfl
@[simp] theorem drop_ru (r : DropReason) (d : Dir) (j : RuIx) : (drop r d s).ru j = s.ru j := rfl
@[simp] theorem drop_event (r : DropReason) (d : Dir) (k : EventKind) :
    (drop r d s).event k = s.event k := rfl
@[simp] theorem drop_active (r : DropReason) (d : Dir) : (drop r d s).active = s.active := rfl
@[simp] theorem drop_hasRoom (r : DropReason) (d : Dir) (p : Port) :
    (drop r d s).hasRoom p = s.hasRoom p := rfl

/-- A drop counts one under its reason and direction, and nothing under any other (R21). -/
@[simp] theorem drop_dropCount (r r' : DropReason) (d d' : Dir) :
    (drop r d s).dropCount r' d'
      = if r = r' ∧ d = d' then s.dropCount r d + 1 else s.dropCount r' d' := by
  simp only [State.dropCount, drop, Fin.getElem_fin, Vector.getElem_set]
  by_cases h : r = r' ∧ d = d'
  · simp [h.1, h.2]
  · rw [if_neg h, if_neg fun e => h (dropIx_injective (Fin.ext e))]

@[simp] theorem dropMany_ports (n : Nat) (r : DropReason) (d : Dir) :
    (dropMany n r d s).ports = s.ports := rfl
@[simp] theorem dropMany_contexts (n : Nat) (r : DropReason) (d : Dir) :
    (dropMany n r d s).contexts = s.contexts := rfl
@[simp] theorem dropMany_zu (n : Nat) (r : DropReason) (d : Dir) : (dropMany n r d s).zu = s.zu := rfl
@[simp] theorem dropMany_ur (n : Nat) (r : DropReason) (d : Dir) : (dropMany n r d s).ur = s.ur := rfl
@[simp] theorem dropMany_links (n : Nat) (r : DropReason) (d : Dir) :
    (dropMany n r d s).links = s.links := rfl
@[simp] theorem dropMany_su (n : Nat) (r : DropReason) (d : Dir) : (dropMany n r d s).su = s.su := rfl
@[simp] theorem dropMany_cs (n : Nat) (r : DropReason) (d : Dir) : (dropMany n r d s).cs = s.cs := rfl
@[simp] theorem dropMany_me (n : Nat) (r : DropReason) (d : Dir) : (dropMany n r d s).me = s.me := rfl
@[simp] theorem dropMany_resetHeld (n : Nat) (r : DropReason) (d : Dir) :
    (dropMany n r d s).resetHeld = s.resetHeld := rfl
@[simp] theorem dropMany_pending (n : Nat) (r : DropReason) (d : Dir) :
    (dropMany n r d s).pending = s.pending := rfl
@[simp] theorem dropMany_tc_floor (n : Nat) (r : DropReason) (d : Dir) :
    (dropMany n r d s).tc.floor = s.tc.floor := rfl
@[simp] theorem dropMany_kept (n : Nat) (r : DropReason) (d : Dir) : (dropMany n r d s).kept = s.kept := rfl

/-! ### Placing (R14) -/

@[simp] theorem place_tc (p : Port) (b : EntryBody) : (place p b s).tc = s.tc := rfl
@[simp] theorem place_contexts (p : Port) (b : EntryBody) : (place p b s).contexts = s.contexts := rfl
@[simp] theorem place_zu (p : Port) (b : EntryBody) : (place p b s).zu = s.zu := rfl
@[simp] theorem place_ur (p : Port) (b : EntryBody) : (place p b s).ur = s.ur := rfl
@[simp] theorem place_links (p : Port) (b : EntryBody) : (place p b s).links = s.links := rfl
@[simp] theorem place_su (p : Port) (b : EntryBody) : (place p b s).su = s.su := rfl
@[simp] theorem place_cs (p : Port) (b : EntryBody) : (place p b s).cs = s.cs := rfl
@[simp] theorem place_me (p : Port) (b : EntryBody) : (place p b s).me = s.me := rfl
@[simp] theorem place_resetHeld (p : Port) (b : EntryBody) : (place p b s).resetHeld = s.resetHeld := rfl
@[simp] theorem place_pending (p : Port) (b : EntryBody) : (place p b s).pending = s.pending := rfl
@[simp] theorem place_kept (p : Port) (b : EntryBody) : (place p b s).kept = s.kept := rfl

/-- An entry joins the tail of its own queue, and nothing else of any port changes. -/
@[simp] theorem place_port (p q : Port) (b : EntryBody) :
    (place p b s).port q
      = if p = q then { s.port p with queue := (s.port p).queue ++ [{ body := b, placed := s.me.clock }] }
        else s.port q :=
  State.setQueue_port s p q _

@[simp] theorem place_ctx (p : Port) (b : EntryBody) (j : CtxIx) : (place p b s).ctx j = s.ctx j := rfl
@[simp] theorem place_link (p : Port) (b : EntryBody) (k : LinkIx) : (place p b s).link k = s.link k := rfl
@[simp] theorem place_ru (p : Port) (b : EntryBody) (j : RuIx) : (place p b s).ru j = s.ru j := rfl
@[simp] theorem place_event (p : Port) (b : EntryBody) (k : EventKind) :
    (place p b s).event k = s.event k := rfl

/-! ### The drain set and dropped control entries (R15, R150) -/

@[simp] theorem leaveDrain_ports (k : LinkIx) (n : Num16) : (leaveDrain k n s).ports = s.ports := rfl
@[simp] theorem leaveDrain_tc (k : LinkIx) (n : Num16) : (leaveDrain k n s).tc = s.tc := rfl
@[simp] theorem leaveDrain_contexts (k : LinkIx) (n : Num16) : (leaveDrain k n s).contexts = s.contexts := rfl
@[simp] theorem leaveDrain_zu (k : LinkIx) (n : Num16) : (leaveDrain k n s).zu = s.zu := rfl
@[simp] theorem leaveDrain_ur (k : LinkIx) (n : Num16) : (leaveDrain k n s).ur = s.ur := rfl
@[simp] theorem leaveDrain_links (k : LinkIx) (n : Num16) : (leaveDrain k n s).links = s.links := rfl
@[simp] theorem leaveDrain_cs (k : LinkIx) (n : Num16) : (leaveDrain k n s).cs = s.cs := rfl
@[simp] theorem leaveDrain_me (k : LinkIx) (n : Num16) : (leaveDrain k n s).me = s.me := rfl
@[simp] theorem leaveDrain_resetHeld (k : LinkIx) (n : Num16) :
    (leaveDrain k n s).resetHeld = s.resetHeld := rfl
@[simp] theorem leaveDrain_pending (k : LinkIx) (n : Num16) : (leaveDrain k n s).pending = s.pending := rfl
@[simp] theorem leaveDrain_kept (k : LinkIx) (n : Num16) : (leaveDrain k n s).kept = s.kept := rfl
@[simp] theorem leaveDrain_su_selector (k : LinkIx) (n : Num16) :
    (leaveDrain k n s).su.selector = s.su.selector := rfl

@[simp] theorem controlDropped_ports (c : Control) :
    (controlDropped c s).ports = s.ports := by unfold controlDropped; split <;> rfl
@[simp] theorem controlDropped_tc (c : Control) :
    (controlDropped c s).tc = s.tc := by unfold controlDropped; split <;> rfl
@[simp] theorem controlDropped_contexts (c : Control) :
    (controlDropped c s).contexts = s.contexts := by unfold controlDropped; split <;> rfl
@[simp] theorem controlDropped_zu (c : Control) :
    (controlDropped c s).zu = s.zu := by unfold controlDropped; split <;> rfl
@[simp] theorem controlDropped_ur (c : Control) :
    (controlDropped c s).ur = s.ur := by unfold controlDropped; split <;> rfl
@[simp] theorem controlDropped_links (c : Control) :
    (controlDropped c s).links = s.links := by unfold controlDropped; split <;> rfl
@[simp] theorem controlDropped_cs (c : Control) :
    (controlDropped c s).cs = s.cs := by unfold controlDropped; split <;> rfl
@[simp] theorem controlDropped_resetHeld (c : Control) :
    (controlDropped c s).resetHeld = s.resetHeld := by unfold controlDropped; split <;> rfl
@[simp] theorem controlDropped_pending (c : Control) :
    (controlDropped c s).pending = s.pending := by unfold controlDropped; split <;> rfl
@[simp] theorem controlDropped_me_clock (c : Control) :
    (controlDropped c s).me.clock = s.me.clock := by unfold controlDropped; split <;> rfl
@[simp] theorem controlDropped_me_noticeDest (c : Control) :
    (controlDropped c s).me.noticeDest = s.me.noticeDest := by unfold controlDropped; split <;> rfl
@[simp] theorem controlDropped_me_noticeFloor (c : Control) :
    (controlDropped c s).me.noticeFloor = s.me.noticeFloor := by unfold controlDropped; split <;> rfl
@[simp] theorem controlDropped_me_access (c : Control) :
    (controlDropped c s).me.access = s.me.access := by unfold controlDropped; split <;> rfl
@[simp] theorem controlDropped_me_events (c : Control) :
    (controlDropped c s).me.events = s.me.events := by unfold controlDropped; split <;> rfl
@[simp] theorem controlDropped_kept (c : Control) :
    (controlDropped c s).kept = s.kept := by unfold controlDropped; split <;> rfl
@[simp] theorem controlDropped_su_selector (c : Control) :
    (controlDropped c s).su.selector = s.su.selector := by unfold controlDropped; split <;> rfl
@[simp] theorem controlDropped_port (c : Control) (q : Port) :
    (controlDropped c s).port q = s.port q := by simp [State.port]

/-! ### Offering a control entry (R15) -/

/-- A control entry is placed at the tail; or it displaces one user entry, counted EGRESS_FULL; or it is
dropped from a queue of control entries, counted EGRESS_FULL (R15). -/
theorem offerControl_cases (p : Port) (c : Control) :
    (s.hasRoom p = true ∧ offerControl p c s = place p (.control c) s)
    ∨ (s.hasRoom p = false ∧ ∃ e q, displacedEntry (s.port p).queue = some (e, q)
        ∧ offerControl p c s = place p (.control c) (drop .egressFull (e.dir p) (s.setQueue p q)))
    ∨ (s.hasRoom p = false ∧ displacedEntry (s.port p).queue = none
        ∧ offerControl p c s
          = controlDropped c (drop .egressFull (Entry.dir p ⟨.control c, s.now⟩) s)) := by
  unfold offerControl
  cases hr : s.hasRoom p with
  | true => exact .inl ⟨rfl, if_pos rfl⟩
  | false =>
    cases hd : displacedEntry (s.port p).queue with
    | none => exact .inr (.inr ⟨rfl, rfl, rfl⟩)
    | some r => exact .inr (.inl ⟨rfl, r.1, r.2, rfl, rfl⟩)

/-- In a queue with room a control entry joins the tail (R15). -/
theorem offerControl_room (p : Port) (c : Control) (h : (s.port p).queue.length < 512) :
    offerControl p c s = place p (.control c) s := by
  have : s.hasRoom p = true := decide_eq_true h
  simp [offerControl, this]

/-- What every case of offering keeps. -/
theorem offerControl_keeps {α : Type} (look : State → α) (p : Port) (c : Control)
    (hp : ∀ q s, look (s.setQueue p q) = look s) (hd : ∀ d s, look (drop .egressFull d s) = look s)
    (hc : ∀ s, look (controlDropped c s) = look s) : look (offerControl p c s) = look s := by
  rcases offerControl_cases s p c with ⟨-, h⟩ | ⟨-, e, q, -, h⟩ | ⟨-, -, h⟩
  · rw [h]; exact hp _ _
  · rw [h, place, hp, hd, hp]
  · rw [h, hc, hd]

@[simp] theorem offerControl_contexts (p : Port) (c : Control) :
    (offerControl p c s).contexts = s.contexts := offerControl_keeps s (·.contexts) p c (fun _ _ => rfl) (fun _ _ => rfl) (controlDropped_contexts · c)
@[simp] theorem offerControl_zu (p : Port) (c : Control) :
    (offerControl p c s).zu = s.zu := offerControl_keeps s (·.zu) p c (fun _ _ => rfl) (fun _ _ => rfl) (controlDropped_zu · c)
@[simp] theorem offerControl_ur (p : Port) (c : Control) :
    (offerControl p c s).ur = s.ur := offerControl_keeps s (·.ur) p c (fun _ _ => rfl) (fun _ _ => rfl) (controlDropped_ur · c)
@[simp] theorem offerControl_links (p : Port) (c : Control) :
    (offerControl p c s).links = s.links := offerControl_keeps s (·.links) p c (fun _ _ => rfl) (fun _ _ => rfl) (controlDropped_links · c)
@[simp] theorem offerControl_cs (p : Port) (c : Control) :
    (offerControl p c s).cs = s.cs := offerControl_keeps s (·.cs) p c (fun _ _ => rfl) (fun _ _ => rfl) (controlDropped_cs · c)
@[simp] theorem offerControl_tc_floor (p : Port) (c : Control) :
    (offerControl p c s).tc.floor = s.tc.floor := offerControl_keeps s (·.tc.floor) p c (fun _ _ => rfl) (fun _ _ => rfl) fun s => by rw [controlDropped_tc]
@[simp] theorem offerControl_resetHeld (p : Port) (c : Control) :
    (offerControl p c s).resetHeld = s.resetHeld := offerControl_keeps s (·.resetHeld) p c (fun _ _ => rfl) (fun _ _ => rfl) (controlDropped_resetHeld · c)
@[simp] theorem offerControl_pending (p : Port) (c : Control) :
    (offerControl p c s).pending = s.pending := offerControl_keeps s (·.pending) p c (fun _ _ => rfl) (fun _ _ => rfl) (controlDropped_pending · c)
@[simp] theorem offerControl_me_clock (p : Port) (c : Control) :
    (offerControl p c s).me.clock = s.me.clock := offerControl_keeps s (·.me.clock) p c (fun _ _ => rfl) (fun _ _ => rfl) (controlDropped_me_clock · c)
@[simp] theorem offerControl_me_noticeDest (p : Port) (c : Control) :
    (offerControl p c s).me.noticeDest = s.me.noticeDest := offerControl_keeps s (·.me.noticeDest) p c (fun _ _ => rfl) (fun _ _ => rfl) (controlDropped_me_noticeDest · c)
@[simp] theorem offerControl_me_noticeFloor (p : Port) (c : Control) :
    (offerControl p c s).me.noticeFloor = s.me.noticeFloor := offerControl_keeps s (·.me.noticeFloor) p c (fun _ _ => rfl) (fun _ _ => rfl) (controlDropped_me_noticeFloor · c)
@[simp] theorem offerControl_me_events (p : Port) (c : Control) :
    (offerControl p c s).me.events = s.me.events := offerControl_keeps s (·.me.events) p c (fun _ _ => rfl) (fun _ _ => rfl) (controlDropped_me_events · c)
@[simp] theorem offerControl_kept (p : Port) (c : Control) :
    (offerControl p c s).kept = s.kept := offerControl_keeps s (·.kept) p c (fun _ _ => rfl) (fun _ _ => rfl) (controlDropped_kept · c)
@[simp] theorem offerControl_su_selector (p : Port) (c : Control) :
    (offerControl p c s).su.selector = s.su.selector := offerControl_keeps s (·.su.selector) p c (fun _ _ => rfl) (fun _ _ => rfl) (controlDropped_su_selector · c)
@[simp] theorem offerControl_ctx (p : Port) (c : Control) (j : CtxIx) :
    (offerControl p c s).ctx j = s.ctx j := by simp [State.ctx]
@[simp] theorem offerControl_link (p : Port) (c : Control) (k' : LinkIx) :
    (offerControl p c s).link k' = s.link k' := by simp [State.link]
@[simp] theorem offerControl_ru (p : Port) (c : Control) (r : RuIx) :
    (offerControl p c s).ru r = s.ru r := by simp [State.ru]
@[simp] theorem offerControl_event (p : Port) (c : Control) (k : EventKind) :
    (offerControl p c s).event k = s.event k := by simp [State.event]
@[simp] theorem offerControl_access (p : Port) (c : Control) (q : Port) :
    (offerControl p c s).access q = s.access q := by
  have := congrArg Kept.access (offerControl_kept s p c)
  simp only [State.kept] at this
  simp [State.access, this]
@[simp] theorem offerControl_active (p : Port) (c : Control) :
    (offerControl p c s).active = s.active := active_of_selector (by simp)

/-- Offering changes only the queue of its port (R15). -/
theorem offerControl_port (p q : Port) (c : Control) :
    (offerControl p c s).port q
      = { s.port q with queue := ((offerControl p c s).port q).queue }
    ∧ (p ≠ q → ((offerControl p c s).port q).queue = (s.port q).queue) := by
  rcases offerControl_cases s p c with ⟨-, h⟩ | ⟨-, e, r, -, h⟩ | ⟨-, -, h⟩ <;> rw [h]
  · by_cases e : p = q <;> simp [e]
  · by_cases e : p = q <;> simp [e]
  · simp [State.port]

/-- Taking the first entry that meets a test leaves the others in their order. -/
theorem takeFirst_split (t : Entry → Bool) (q r : List Entry) (e : Entry)
    (h : takeFirst t q = some (e, r)) :
    ∃ pre post, q = pre ++ e :: post ∧ r = pre ++ post ∧ t e = true ∧ ∀ x ∈ pre, t x = false := by
  induction q generalizing r with
  | nil => simp [takeFirst] at h
  | cons x q ih =>
    rw [takeFirst] at h
    cases hx : t x with
    | true =>
      rw [hx, if_pos rfl] at h
      cases h
      exact ⟨[], q, rfl, rfl, hx, by simp⟩
    | false =>
      simp only [hx, Bool.false_eq_true, if_false] at h
      split at h
      · cases h
      · next y r' hy =>
        cases h
        obtain ⟨pre, post, rfl, rfl, he, hp⟩ := ih r' hy
        exact ⟨x :: pre, post, rfl, rfl, he, by simpa [hx] using hp⟩

/-- None is taken only where none meets the test. -/
theorem takeFirst_none (t : Entry → Bool) (q : List Entry) :
    takeFirst t q = none ↔ ∀ x ∈ q, t x = false := by
  induction q with
  | nil => simp [takeFirst]
  | cons x q ih =>
    rw [takeFirst]
    cases hx : t x with
    | true => simp [hx]
    | false =>
      simp only [Bool.false_eq_true, if_false, List.mem_cons, forall_eq_or_imp, hx, true_and, ← ih]
      cases takeFirst t q with
      | none => simp
      | some r => simp

/-- The entry taken stands first among those that meet the test. -/
theorem takeFirst_eq (t : Entry → Bool) (pre post : List Entry) (e : Entry) (he : t e = true)
    (hp : ∀ x ∈ pre, t x = false) : takeFirst t (pre ++ e :: post) = some (e, pre ++ post) := by
  induction pre with
  | nil => simp [takeFirst, he]
  | cons x pre ih =>
    have hx : t x = false := hp x (by simp)
    rw [List.cons_append, takeFirst, hx, ih fun y hy => hp y (by simp [hy])]
    simp

/-- The displaced entry is a user entry of the queue (R15). -/
theorem displacedEntry_split (q r : List Entry) (e : Entry) (h : displacedEntry q = some (e, r)) :
    ∃ pre post, q = pre ++ e :: post ∧ r = pre ++ post ∧ e.isUser = true := by
  unfold displacedEntry at h
  split at h
  · cases h
  · next x r' hx =>
    cases h
    obtain ⟨pre, post, hq, rfl, he, -⟩ := takeFirst_split _ _ _ _ hx
    refine ⟨post.reverse, pre.reverse, ?_, by simp, by simpa using And.left (by simpa using he)⟩
    have := congrArg List.reverse hq
    simpa using this

/-- A queue never grows beyond its capacity by an offer (R15). -/
theorem offerControl_length (p q : Port) (c : Control) (h : ∀ q, (s.port q).queue.length ≤ 512) :
    ((offerControl p c s).port q).queue.length ≤ 512 := by
  rcases offerControl_cases s p c with ⟨hr, e⟩ | ⟨-, x, r, hd, e⟩ | ⟨-, -, e⟩ <;> rw [e]
  · have : (s.port p).queue.length < 512 := of_decide_eq_true hr
    by_cases pq : p = q
    · subst pq; simp; omega
    · simpa [pq] using h q
  · obtain ⟨pre, post, hq, rfl, -⟩ := displacedEntry_split _ _ _ hd
    have := h p
    rw [hq] at this
    by_cases pq : p = q
    · subst pq; simp at this ⊢; omega
    · simpa [pq] using h q
  · simpa [State.port] using h q

/-! ### Raising an event (R178, R179) -/

/-- The entry of a raising. -/
@[simp] theorem raise_event (k j : EventKind) (d : Option Detail) :
    (raise k d s).event j
      = if k = j then
          { pending := true
            seen := decide (s.me.noticeFloor < (s.event k).level) && s.me.noticeDest.isSome
            level := (s.event k).level, detail := d }
        else s.event j := by
  unfold raise
  simp only
  split <;> simp

/-- Without a notice a raising writes its entry and nothing else. -/
theorem raise_unnoticed (k : EventKind) (d : Option Detail)
    (h : ¬ (s.me.noticeFloor < (s.event k).level ∧ s.me.noticeDest.isSome = true)) :
    raise k d s = s.setEvent k { s.event k with pending := true, seen := false, detail := d } := by
  unfold raise
  cases hd : s.me.noticeDest with
  | none => simp [hd]
  | some x =>
    have : ¬ s.me.noticeFloor < (s.event k).level := fun c => h ⟨c, by simp [hd]⟩
    simp [hd, this]

/-- With a notice it writes its entry and offers the notice (R179). -/
theorem raise_noticed (k : EventKind) (d : Option Detail) (p : Port) (a : Addr)
    (hd : s.me.noticeDest = some (p, a)) (hl : s.me.noticeFloor < (s.event k).level) :
    raise k d s = offerControl p { dst := a, body := .notice k (s.event k).level s.me.clock d }
      (s.setEvent k { s.event k with pending := true, seen := true, detail := d }) := by
  unfold raise
  simp [hd, hl, State.now]

/-- What writing the entry and offering a notice keep, a raising keeps. -/
theorem raise_keeps {α : Type} (look : State → α) (k : EventKind) (d : Option Detail)
    (he : ∀ e s, look (State.setEvent s k e) = look s)
    (ho : ∀ p c s, look (offerControl p c s) = look s) : look (raise k d s) = look s := by
  unfold raise
  simp only
  split
  · rw [ho, he]
  · rw [he]

@[simp] theorem raise_contexts (k : EventKind) (d : Option Detail) :
    (raise k d s).contexts = s.contexts := raise_keeps s (·.contexts) k d (fun _ _ => rfl) (fun p c s => offerControl_contexts s p c)
@[simp] theorem raise_zu (k : EventKind) (d : Option Detail) :
    (raise k d s).zu = s.zu := raise_keeps s (·.zu) k d (fun _ _ => rfl) (fun p c s => offerControl_zu s p c)
@[simp] theorem raise_ur (k : EventKind) (d : Option Detail) :
    (raise k d s).ur = s.ur := raise_keeps s (·.ur) k d (fun _ _ => rfl) (fun p c s => offerControl_ur s p c)
@[simp] theorem raise_links (k : EventKind) (d : Option Detail) :
    (raise k d s).links = s.links := raise_keeps s (·.links) k d (fun _ _ => rfl) (fun p c s => offerControl_links s p c)
@[simp] theorem raise_cs (k : EventKind) (d : Option Detail) :
    (raise k d s).cs = s.cs := raise_keeps s (·.cs) k d (fun _ _ => rfl) (fun p c s => offerControl_cs s p c)
@[simp] theorem raise_tc_floor (k : EventKind) (d : Option Detail) :
    (raise k d s).tc.floor = s.tc.floor := raise_keeps s (·.tc.floor) k d (fun _ _ => rfl) (fun p c s => offerControl_tc_floor s p c)
@[simp] theorem raise_resetHeld (k : EventKind) (d : Option Detail) :
    (raise k d s).resetHeld = s.resetHeld := raise_keeps s (·.resetHeld) k d (fun _ _ => rfl) (fun p c s => offerControl_resetHeld s p c)
@[simp] theorem raise_pending (k : EventKind) (d : Option Detail) :
    (raise k d s).pending = s.pending := raise_keeps s (·.pending) k d (fun _ _ => rfl) (fun p c s => offerControl_pending s p c)
@[simp] theorem raise_me_clock (k : EventKind) (d : Option Detail) :
    (raise k d s).me.clock = s.me.clock := raise_keeps s (·.me.clock) k d (fun _ _ => rfl) (fun p c s => offerControl_me_clock s p c)
@[simp] theorem raise_me_noticeDest (k : EventKind) (d : Option Detail) :
    (raise k d s).me.noticeDest = s.me.noticeDest := raise_keeps s (·.me.noticeDest) k d (fun _ _ => rfl) (fun p c s => offerControl_me_noticeDest s p c)
@[simp] theorem raise_me_noticeFloor (k : EventKind) (d : Option Detail) :
    (raise k d s).me.noticeFloor = s.me.noticeFloor := raise_keeps s (·.me.noticeFloor) k d (fun _ _ => rfl) (fun p c s => offerControl_me_noticeFloor s p c)
@[simp] theorem raise_kept (k : EventKind) (d : Option Detail) :
    (raise k d s).kept = s.kept := raise_keeps s (·.kept) k d (fun _ _ => rfl) (fun p c s => offerControl_kept s p c)
@[simp] theorem raise_su_selector (k : EventKind) (d : Option Detail) :
    (raise k d s).su.selector = s.su.selector := raise_keeps s (·.su.selector) k d (fun _ _ => rfl) (fun p c s => offerControl_su_selector s p c)
@[simp] theorem raise_ctx (k : EventKind) (d : Option Detail) (j : CtxIx) :
    (raise k d s).ctx j = s.ctx j := by simp [State.ctx]
@[simp] theorem raise_link (k : EventKind) (d : Option Detail) (k' : LinkIx) :
    (raise k d s).link k' = s.link k' := by simp [State.link]
@[simp] theorem raise_ru (k : EventKind) (d : Option Detail) (r : RuIx) :
    (raise k d s).ru r = s.ru r := by simp [State.ru]
@[simp] theorem raise_active (k : EventKind) (d : Option Detail) : (raise k d s).active = s.active :=
  active_of_selector (by simp)

/-- A raising changes nothing of SU: only a dropped END marker would, and it offers a notice. -/
@[simp] theorem raise_su (k : EventKind) (d : Option Detail) : (raise k d s).su = s.su := by
  by_cases h : s.me.noticeFloor < (s.event k).level ∧ s.me.noticeDest.isSome = true
  · obtain ⟨⟨p, a⟩, ha⟩ := Option.isSome_iff_exists.mp h.2
    rw [raise_noticed s k d p a ha h.1]
    exact offerControl_keeps _ (·.su) _ _ (fun _ _ => rfl) (fun _ _ => rfl) (fun _ => rfl)
  · rw [raise_unnoticed s k d h]; rfl

theorem raise_length (k : EventKind) (d : Option Detail) (q : Port)
    (h : ∀ q, (s.port q).queue.length ≤ 512) : ((raise k d s).port q).queue.length ≤ 512 := by
  unfold raise
  simp only
  split
  · exact offerControl_length _ _ _ _ fun q => by simpa using h q
  · simpa using h q

/-! ### Bearer notices (R42) and responses (R173) -/

/-- A bearer notice is offered to the serving unit's port, or not built for an UNUSED entry (R42). -/
theorem sendBearerNotice_cases (i : CtxIx) (c : Context) (n : BearerNotice) :
    ((s.ru c.servingRu).state = .unused ∧ sendBearerNotice i c n s = s)
    ∨ ((s.ru c.servingRu).state ≠ .unused
        ∧ sendBearerNotice i c n s
          = offerControl (.cell (s.ru c.servingRu).port)
              { dst := (s.ru c.servingRu).addr
                body := .bearerNotice n c.bearerId i c.incarnation } s) := by
  unfold sendBearerNotice
  by_cases h : (s.ru c.servingRu).state = .unused
  · exact .inl ⟨h, by simp [h]⟩
  · exact .inr ⟨h, by simp [h]⟩

theorem sendBearerNotice_keeps {α : Type} (look : State → α) (i : CtxIx) (c : Context) (n : BearerNotice)
    (ho : ∀ p c, look (offerControl p c s) = look s) : look (sendBearerNotice i c n s) = look s := by
  rcases sendBearerNotice_cases s i c n with ⟨-, h⟩ | ⟨-, h⟩ <;> rw [h]
  exact ho _ _

@[simp] theorem sendBearerNotice_contexts (i : CtxIx) (c : Context) (n : BearerNotice) :
    (sendBearerNotice i c n s).contexts = s.contexts := sendBearerNotice_keeps s (·.contexts) i c n fun p c => offerControl_contexts s p c
@[simp] theorem sendBearerNotice_zu (i : CtxIx) (c : Context) (n : BearerNotice) :
    (sendBearerNotice i c n s).zu = s.zu := sendBearerNotice_keeps s (·.zu) i c n fun p c => offerControl_zu s p c
@[simp] theorem sendBearerNotice_ur (i : CtxIx) (c : Context) (n : BearerNotice) :
    (sendBearerNotice i c n s).ur = s.ur := sendBearerNotice_keeps s (·.ur) i c n fun p c => offerControl_ur s p c
@[simp] theorem sendBearerNotice_links (i : CtxIx) (c : Context) (n : BearerNotice) :
    (sendBearerNotice i c n s).links = s.links := sendBearerNotice_keeps s (·.links) i c n fun p c => offerControl_links s p c
@[simp] theorem sendBearerNotice_cs (i : CtxIx) (c : Context) (n : BearerNotice) :
    (sendBearerNotice i c n s).cs = s.cs := sendBearerNotice_keeps s (·.cs) i c n fun p c => offerControl_cs s p c
@[simp] theorem sendBearerNotice_tc_floor (i : CtxIx) (c : Context) (n : BearerNotice) :
    (sendBearerNotice i c n s).tc.floor = s.tc.floor := sendBearerNotice_keeps s (·.tc.floor) i c n fun p c => offerControl_tc_floor s p c
@[simp] theorem sendBearerNotice_resetHeld (i : CtxIx) (c : Context) (n : BearerNotice) :
    (sendBearerNotice i c n s).resetHeld = s.resetHeld := sendBearerNotice_keeps s (·.resetHeld) i c n fun p c => offerControl_resetHeld s p c
@[simp] theorem sendBearerNotice_pending (i : CtxIx) (c : Context) (n : BearerNotice) :
    (sendBearerNotice i c n s).pending = s.pending := sendBearerNotice_keeps s (·.pending) i c n fun p c => offerControl_pending s p c
@[simp] theorem sendBearerNotice_me_clock (i : CtxIx) (c : Context) (n : BearerNotice) :
    (sendBearerNotice i c n s).me.clock = s.me.clock := sendBearerNotice_keeps s (·.me.clock) i c n fun p c => offerControl_me_clock s p c
@[simp] theorem sendBearerNotice_me_noticeDest (i : CtxIx) (c : Context) (n : BearerNotice) :
    (sendBearerNotice i c n s).me.noticeDest = s.me.noticeDest := sendBearerNotice_keeps s (·.me.noticeDest) i c n fun p c => offerControl_me_noticeDest s p c
@[simp] theorem sendBearerNotice_me_noticeFloor (i : CtxIx) (c : Context) (n : BearerNotice) :
    (sendBearerNotice i c n s).me.noticeFloor = s.me.noticeFloor := sendBearerNotice_keeps s (·.me.noticeFloor) i c n fun p c => offerControl_me_noticeFloor s p c
@[simp] theorem sendBearerNotice_me_events (i : CtxIx) (c : Context) (n : BearerNotice) :
    (sendBearerNotice i c n s).me.events = s.me.events := sendBearerNotice_keeps s (·.me.events) i c n fun p c => offerControl_me_events s p c
@[simp] theorem sendBearerNotice_kept (i : CtxIx) (c : Context) (n : BearerNotice) :
    (sendBearerNotice i c n s).kept = s.kept := sendBearerNotice_keeps s (·.kept) i c n fun p c => offerControl_kept s p c
@[simp] theorem sendBearerNotice_su_selector (i : CtxIx) (c : Context) (n : BearerNotice) :
    (sendBearerNotice i c n s).su.selector = s.su.selector := sendBearerNotice_keeps s (·.su.selector) i c n fun p c => offerControl_su_selector s p c
@[simp] theorem sendBearerNotice_ctx (i : CtxIx) (c : Context) (n : BearerNotice) (j : CtxIx) :
    (sendBearerNotice i c n s).ctx j = s.ctx j := by simp [State.ctx]
@[simp] theorem sendBearerNotice_link (i : CtxIx) (c : Context) (n : BearerNotice) (k' : LinkIx) :
    (sendBearerNotice i c n s).link k' = s.link k' := by simp [State.link]
@[simp] theorem sendBearerNotice_ru (i : CtxIx) (c : Context) (n : BearerNotice) (r : RuIx) :
    (sendBearerNotice i c n s).ru r = s.ru r := by simp [State.ru]
@[simp] theorem sendBearerNotice_event (i : CtxIx) (c : Context) (n : BearerNotice) (k : EventKind) :
    (sendBearerNotice i c n s).event k = s.event k := by simp [State.event]
@[simp] theorem sendBearerNotice_active (i : CtxIx) (c : Context) (n : BearerNotice) :
    (sendBearerNotice i c n s).active = s.active := active_of_selector (by simp)

theorem sendBearerNotice_length (i : CtxIx) (c : Context) (n : BearerNotice) (q : Port)
    (h : ∀ q, (s.port q).queue.length ≤ 512) :
    ((sendBearerNotice i c n s).port q).queue.length ≤ 512 := by
  rcases sendBearerNotice_cases s i c n with ⟨-, e⟩ | ⟨-, e⟩ <;> rw [e]
  · exact h q
  · exact offerControl_length _ _ _ _ h

/-! ### A context record written before or after: what a notice or an event does reads none (R42, R178) -/

theorem controlDropped_setCtx (c : Control) (i : CtxIx) (x : Context) :
    controlDropped c (s.setCtx i x) = (controlDropped c s).setCtx i x := by
  unfold controlDropped; split <;> rfl

theorem offerControl_setCtx (p : Port) (c : Control) (i : CtxIx) (x : Context) :
    offerControl p c (s.setCtx i x) = (offerControl p c s).setCtx i x := by
  have hr : (s.setCtx i x).hasRoom p = s.hasRoom p := rfl
  have hq : (s.setCtx i x).port p = s.port p := rfl
  rcases offerControl_cases s p c with ⟨h, e⟩ | ⟨h, y, q, hd, e⟩ | ⟨h, hd, e⟩ <;> rw [e, offerControl, hr, h]
  · rfl
  · rw [hq, hd]; rfl
  · rw [hq, hd]; exact controlDropped_setCtx (drop .egressFull (Entry.dir p ⟨.control c, s.now⟩) s) c i x

theorem raise_setCtx (k : EventKind) (d : Option Detail) (i : CtxIx) (x : Context) :
    raise k d (s.setCtx i x) = (raise k d s).setCtx i x := by
  by_cases h : s.me.noticeFloor < (s.event k).level ∧ s.me.noticeDest.isSome = true
  · obtain ⟨⟨p, a⟩, hd⟩ := Option.isSome_iff_exists.mp h.2
    rw [raise_noticed _ _ _ p a hd h.1, raise_noticed (s.setCtx i x) _ _ p a hd h.1, ← offerControl_setCtx]
    rfl
  · rw [raise_unnoticed _ _ _ h, raise_unnoticed (s.setCtx i x) _ _ h]
    rfl

theorem sendBearerNotice_setCtx (j : CtxIx) (c : Context) (n : BearerNotice) (i : CtxIx) (x : Context) :
    sendBearerNotice j c n (s.setCtx i x) = (sendBearerNotice j c n s).setCtx i x := by
  simp only [sendBearerNotice, State.setCtx_ru]
  by_cases h : (s.ru c.servingRu).state = .unused
  · simp [h]
  · simp [h, offerControl_setCtx]

/-- A bearer notice takes of the record only the serving RU, the bearer ID and the incarnation (R42). -/
theorem sendBearerNotice_congr (j : CtxIx) {c d : Context} (n : BearerNotice) (hr : c.servingRu = d.servingRu)
    (hb : c.bearerId = d.bearerId) (hi : c.incarnation = d.incarnation) :
    sendBearerNotice j c n s = sendBearerNotice j d n s := by
  unfold sendBearerNotice; rw [hr, hb, hi]

@[simp] theorem respond_contexts (rq : Request) (code : Byte) (r : Reply) :
    (respond rq code r s).contexts = s.contexts := offerControl_contexts s _ _
@[simp] theorem respond_zu (rq : Request) (code : Byte) (r : Reply) :
    (respond rq code r s).zu = s.zu := offerControl_zu s _ _
@[simp] theorem respond_ur (rq : Request) (code : Byte) (r : Reply) :
    (respond rq code r s).ur = s.ur := offerControl_ur s _ _
@[simp] theorem respond_links (rq : Request) (code : Byte) (r : Reply) :
    (respond rq code r s).links = s.links := offerControl_links s _ _
@[simp] theorem respond_cs (rq : Request) (code : Byte) (r : Reply) :
    (respond rq code r s).cs = s.cs := offerControl_cs s _ _
@[simp] theorem respond_tc_floor (rq : Request) (code : Byte) (r : Reply) :
    (respond rq code r s).tc.floor = s.tc.floor := offerControl_tc_floor s _ _
@[simp] theorem respond_resetHeld (rq : Request) (code : Byte) (r : Reply) :
    (respond rq code r s).resetHeld = s.resetHeld := offerControl_resetHeld s _ _
@[simp] theorem respond_pending (rq : Request) (code : Byte) (r : Reply) :
    (respond rq code r s).pending = s.pending := offerControl_pending s _ _
@[simp] theorem respond_me_clock (rq : Request) (code : Byte) (r : Reply) :
    (respond rq code r s).me.clock = s.me.clock := offerControl_me_clock s _ _
@[simp] theorem respond_me_noticeDest (rq : Request) (code : Byte) (r : Reply) :
    (respond rq code r s).me.noticeDest = s.me.noticeDest := offerControl_me_noticeDest s _ _
@[simp] theorem respond_me_noticeFloor (rq : Request) (code : Byte) (r : Reply) :
    (respond rq code r s).me.noticeFloor = s.me.noticeFloor := offerControl_me_noticeFloor s _ _
@[simp] theorem respond_me_events (rq : Request) (code : Byte) (r : Reply) :
    (respond rq code r s).me.events = s.me.events := offerControl_me_events s _ _
@[simp] theorem respond_kept (rq : Request) (code : Byte) (r : Reply) :
    (respond rq code r s).kept = s.kept := offerControl_kept s _ _
@[simp] theorem respond_su_selector (rq : Request) (code : Byte) (r : Reply) :
    (respond rq code r s).su.selector = s.su.selector := offerControl_su_selector s _ _
@[simp] theorem respond_ctx (rq : Request) (code : Byte) (r : Reply) (i : CtxIx) :
    (respond rq code r s).ctx i = s.ctx i := offerControl_ctx s _ _ i
@[simp] theorem respond_link (rq : Request) (code : Byte) (r : Reply) (k : LinkIx) :
    (respond rq code r s).link k = s.link k := offerControl_link s _ _ k
@[simp] theorem respond_ru (rq : Request) (code : Byte) (r : Reply) (u : RuIx) :
    (respond rq code r s).ru u = s.ru u := offerControl_ru s _ _ u
@[simp] theorem respond_event (rq : Request) (code : Byte) (r : Reply) (k : EventKind) :
    (respond rq code r s).event k = s.event k := offerControl_event s _ _ k
@[simp] theorem respond_active (rq : Request) (code : Byte) (r : Reply) :
    (respond rq code r s).active = s.active := offerControl_active s _ _

/-! ### Arrivals and requests (R1, R5, R22, R173) -/

/-- A frame that arrives is counted and taken in. -/
theorem arrive_of_receives {p : Port} (f : State → State) (h : Receives s p) : arrive p f s = f (s.got p) := by
  simp [arrive, h.1, h.2, State.got]

/-- A frame that does not arrive leaves the part as it was. -/
theorem arrive_of_not_receives {p : Port} (f : State → State) (h : ¬ Receives s p) : arrive p f s = s := by
  unfold arrive
  cases h1 : s.resetHeld with
  | true => simp
  | false =>
    cases h2 : (s.port p).carrier with
    | true => exact absurd ⟨h1, h2⟩ h
    | false => simp

/-- A request that passes the access test and checks 2 to 4 of R173 is answered by its command. -/
theorem ask_of_passes {rq : Request} {cmd : Command} (body : State → Reply × State)
    (h : Passes s rq cmd) :
    ask rq cmd body s
      = respond rq (BitVec.ofNat 8 cmd.code) (body (s.got rq.port)).1 (body (s.got rq.port)).2 := by
  obtain ⟨hr, ha, hc, hi⟩ := h
  have hl : 1 ≤ cmd.level.code := by cases cmd <;> decide
  have hn : s.access rq.port ≠ .none := by
    intro e; rw [e, show Access.none.code = 0 from rfl] at ha; omega
  rw [ask, arrive_of_receives s _ hr]
  simp [admitRequest, handle, State.admits, hn, ha, hc, hi]

/-- Everything a request can come to: it does not arrive, it is dropped BAD_FRAME, it is refused DENIED,
BUSY or BAD_ARGUMENT by the shared checks, or its command answers (R5, R173). -/
theorem ask_cases (rq : Request) (cmd : Command) (body : State → Reply × State) :
    (¬ Receives s rq.port ∧ ask rq cmd body s = s)
    ∨ (Receives s rq.port ∧ s.access rq.port = .none
        ∧ ask rq cmd body s = drop .badFrame (arrivalDir rq.port) (s.got rq.port))
    ∨ (∃ st, Receives s rq.port ∧ (st = .denied ∨ st = .busy ∨ st = .badArgument)
        ∧ ask rq cmd body s = respond rq (BitVec.ofNat 8 cmd.code) (.refuse st) (s.got rq.port))
    ∨ (Receives s rq.port
        ∧ ask rq cmd body s
          = respond rq (BitVec.ofNat 8 cmd.code) (body (s.got rq.port)).1 (body (s.got rq.port)).2) := by
  by_cases hr : Receives s rq.port
  swap
  · exact .inl ⟨hr, arrive_of_not_receives s _ hr⟩
  simp only [ask, arrive_of_receives s _ hr, admitRequest, State.got_access, beq_iff_eq, handle]
  split
  · next h => exact .inr (.inl ⟨hr, h, rfl⟩)
  split
  · exact .inr (.inr (.inl ⟨.denied, hr, .inl rfl, rfl⟩))
  split
  · exact .inr (.inr (.inl ⟨.busy, hr, .inr (.inl rfl), rfl⟩))
  split
  · exact .inr (.inr (.inl ⟨.badArgument, hr, .inr (.inr rfl), rfl⟩))
  · exact .inr (.inr (.inr ⟨hr, rfl⟩))

@[simp] theorem refused_eq (st : Status) : refused st s = (.refuse st, s) := rfl
@[simp] theorem report_eq (f : State → List Item) : report f s = (.ok (f s), s) := rfl

/-- What nothing happens to while the reset input is held (R183). -/
theorem unlessHeld_of_free (f : State → State) (h : s.resetHeld = false) : unlessHeld f s = f s := by
  simp [unlessHeld, h]

theorem unlessHeld_of_held (f : State → State) (h : s.resetHeld = true) : unlessHeld f s = s := by
  simp [unlessHeld, h]

/-! ### Searches (R6, R7, R8, R31) -/

theorem firstFrom_eq_some {n : Nat} (t : Fin n → Bool) (fuel i : Nat) (x : Fin n)
    (h : firstFrom t fuel i = some x) :
    i ≤ x.val ∧ t x = true ∧ ∀ y : Fin n, i ≤ y.val → y < x → t y = false := by
  induction fuel generalizing i with
  | zero => simp [firstFrom] at h
  | succ fuel ih =>
    rw [firstFrom] at h
    split at h
    · next hi =>
      split at h
      · next ht =>
        cases h
        exact ⟨le_refl i, ht, fun y hy hlt => absurd hlt (not_lt.mpr hy)⟩
      · next ht =>
        obtain ⟨h1, h2, h3⟩ := ih (i + 1) h
        refine ⟨by omega, h2, fun y hy hlt => ?_⟩
        by_cases e : y.val = i
        · have : y = ⟨i, hi⟩ := Fin.ext e
          rw [this]; simpa using ht
        · exact h3 y (by omega) hlt
    · cases h

theorem firstFrom_eq_none {n : Nat} (t : Fin n → Bool) (fuel i : Nat) (hf : n ≤ i + fuel)
    (h : firstFrom t fuel i = none) (y : Fin n) (hy : i ≤ y.val) : t y = false := by
  induction fuel generalizing i with
  | zero => exact absurd y.isLt (by omega)
  | succ fuel ih =>
    rw [firstFrom] at h
    split at h
    · next hi =>
      split at h
      · cases h
      · next ht =>
        by_cases e : y.val = i
        · have : y = ⟨i, hi⟩ := Fin.ext e
          rw [this]; simpa using ht
        · exact ih (i + 1) (by omega) h (by omega)
    · exact absurd y.isLt (by omega)

/-- A search finds the lowest index that meets its test (R6, R7, R31, R55). -/
theorem firstFin_eq_some {n : Nat} (t : Fin n → Bool) (x : Fin n) :
    firstFin t = some x ↔ t x = true ∧ ∀ y < x, t y = false := by
  constructor
  · intro h
    obtain ⟨-, h2, h3⟩ := firstFrom_eq_some t n 0 x h
    exact ⟨h2, fun y hy => h3 y (Nat.zero_le _) hy⟩
  · rintro ⟨hx, hl⟩
    cases h : firstFin t with
    | none =>
      have := firstFrom_eq_none t n 0 (by omega) h x (Nat.zero_le _)
      simp [hx] at this
    | some z =>
      obtain ⟨-, h2, h3⟩ := firstFrom_eq_some t n 0 z h
      rcases lt_trichotomy z x with c | c | c
      · simp [hl z c] at h2
      · rw [c]
      · simp [h3 x (Nat.zero_le _) c] at hx

/-- A search finds nothing only where nothing meets its test. -/
theorem firstFin_eq_none {n : Nat} (t : Fin n → Bool) : firstFin t = none ↔ ∀ y, t y = false := by
  constructor
  · exact fun h y => firstFrom_eq_none t n 0 (by omega) h y (Nat.zero_le _)
  · intro h
    cases hf : firstFin t with
    | none => rfl
    | some z => exact absurd ((firstFin_eq_some t z).mp hf).1 (by simp [h z])

/-! ### Operands (R175, R186) -/

theorem inRange_of_lt {n x : Nat} (h : x < n) : inRange n x = some ⟨x, h⟩ := by simp [inRange, h]
theorem inRange_of_eq {n : Nat} {x : Nat} (i : Fin n) (h : x = i.val) : inRange n x = some i := by
  subst h; simp [inRange]
theorem inRange_of_le {n x : Nat} (h : n ≤ x) : inRange n x = none :=
  dif_neg (Nat.not_lt.mpr h)
theorem inRange_eq_some {n x : Nat} (i : Fin n) : inRange n x = some i ↔ x = i.val := by
  unfold inRange; split
  · simp [Fin.ext_iff]
  · constructor
    · intro h; cases h
    · intro h; omega

end Sys2Proof.Machine
end

