-- ==== Sys2Proof/Laws/Blocks.lean ====
section
/-! SUPPORT. What each shared operation of the blocks can do, said once, and what it leaves as it was:
coverage (CS), steering (SU), links (LM), usage (UR), charging (CU), zones (ZU). -/

namespace Sys2Proof.Machine

variable (s : State)

/-! ### The floor in force (R11) -/

@[simp] theorem recomputeFloor_ports  : (recomputeFloor s).ports = s.ports := rfl
@[simp] theorem recomputeFloor_contexts  : (recomputeFloor s).contexts = s.contexts := rfl
@[simp] theorem recomputeFloor_zu  : (recomputeFloor s).zu = s.zu := rfl
@[simp] theorem recomputeFloor_ur  : (recomputeFloor s).ur = s.ur := rfl
@[simp] theorem recomputeFloor_links  : (recomputeFloor s).links = s.links := rfl
@[simp] theorem recomputeFloor_su  : (recomputeFloor s).su = s.su := rfl
@[simp] theorem recomputeFloor_cs  : (recomputeFloor s).cs = s.cs := rfl
@[simp] theorem recomputeFloor_me  : (recomputeFloor s).me = s.me := rfl
@[simp] theorem recomputeFloor_resetHeld  : (recomputeFloor s).resetHeld = s.resetHeld := rfl
@[simp] theorem recomputeFloor_pending  : (recomputeFloor s).pending = s.pending := rfl
@[simp] theorem recomputeFloor_kept  : (recomputeFloor s).kept = s.kept := rfl
@[simp] theorem recomputeFloor_tc_drops  : (recomputeFloor s).tc.drops = s.tc.drops := rfl
@[simp] theorem recomputeFloor_port (q : Port) : (recomputeFloor s).port q = s.port q := rfl
@[simp] theorem recomputeFloor_ctx (j : CtxIx) : (recomputeFloor s).ctx j = s.ctx j := rfl
@[simp] theorem recomputeFloor_link (k : LinkIx) : (recomputeFloor s).link k = s.link k := rfl
@[simp] theorem recomputeFloor_ru (j : RuIx) : (recomputeFloor s).ru j = s.ru j := rfl
@[simp] theorem recomputeFloor_event (k : EventKind) : (recomputeFloor s).event k = s.event k := rfl
@[simp] theorem recomputeFloor_active : (recomputeFloor s).active = s.active := rfl

/-- The floor recomputed is the largest of the three floors (R11). -/
@[simp] theorem recomputeFloor_floor : (recomputeFloor s).tc.floor = floorOf s := rfl

@[simp] theorem floorOf_recomputeFloor : floorOf (recomputeFloor s) = floorOf s := rfl
@[simp] theorem levelOf_recomputeFloor : levelOf (recomputeFloor s) = levelOf s := rfl

/-- The three floors read the selector, the links, the service level and CS's two floors. -/
theorem floorOf_congr {s t : State} (ha : t.active = s.active) (hl : t.links = s.links)
    (hc : t.cs.level = s.cs.level) (hf : t.cs.limitedFloor = s.cs.limitedFloor)
    (hh : t.cs.hostFloor = s.cs.hostFloor) : floorOf t = floorOf s := by
  simp [floorOf, linkFloor, coverageFloor, State.link, ha, hl, hc, hf, hh]

/-- The service level reads the permit in force, the selector and the grace timer. -/
theorem levelOf_congr {s t : State} (ha : t.active = s.active) (hz : t.zu.zone = s.zu.zone)
    (hg : t.cs.grace = s.cs.grace) : levelOf t = levelOf s := by
  simp [levelOf, ha, hz, hg]

/-! ### Heartbeats (R165) -/

/-- What writing an entry of the radio unit table and offering a frame keep, a heartbeat keeps. -/
theorem sendHeartbeat_keeps {α : Type} (look : State → α) (r : RuIx)
    (hr : ∀ u s, look (State.setRu s r u) = look s)
    (ho : ∀ p c s, look (offerControl p c s) = look s) : look (sendHeartbeat r s) = look s := by
  unfold sendHeartbeat
  simp only
  split
  · rfl
  · rw [ho, hr]

@[simp] theorem sendHeartbeat_contexts (r : RuIx) :
    (sendHeartbeat r s).contexts = s.contexts := sendHeartbeat_keeps s (·.contexts) r (fun _ _ => rfl) (fun p c s => offerControl_contexts s p c)
@[simp] theorem sendHeartbeat_zu (r : RuIx) :
    (sendHeartbeat r s).zu = s.zu := sendHeartbeat_keeps s (·.zu) r (fun _ _ => rfl) (fun p c s => offerControl_zu s p c)
@[simp] theorem sendHeartbeat_ur (r : RuIx) :
    (sendHeartbeat r s).ur = s.ur := sendHeartbeat_keeps s (·.ur) r (fun _ _ => rfl) (fun p c s => offerControl_ur s p c)
@[simp] theorem sendHeartbeat_links (r : RuIx) :
    (sendHeartbeat r s).links = s.links := sendHeartbeat_keeps s (·.links) r (fun _ _ => rfl) (fun p c s => offerControl_links s p c)
@[simp] theorem sendHeartbeat_resetHeld (r : RuIx) :
    (sendHeartbeat r s).resetHeld = s.resetHeld := sendHeartbeat_keeps s (·.resetHeld) r (fun _ _ => rfl) (fun p c s => offerControl_resetHeld s p c)
@[simp] theorem sendHeartbeat_pending (r : RuIx) :
    (sendHeartbeat r s).pending = s.pending := sendHeartbeat_keeps s (·.pending) r (fun _ _ => rfl) (fun p c s => offerControl_pending s p c)
@[simp] theorem sendHeartbeat_me_clock (r : RuIx) :
    (sendHeartbeat r s).me.clock = s.me.clock := sendHeartbeat_keeps s (·.me.clock) r (fun _ _ => rfl) (fun p c s => offerControl_me_clock s p c)
@[simp] theorem sendHeartbeat_kept (r : RuIx) :
    (sendHeartbeat r s).kept = s.kept := sendHeartbeat_keeps s (·.kept) r (fun _ _ => rfl) (fun p c s => offerControl_kept s p c)
@[simp] theorem sendHeartbeat_tc_floor (r : RuIx) :
    (sendHeartbeat r s).tc.floor = s.tc.floor := sendHeartbeat_keeps s (·.tc.floor) r (fun _ _ => rfl) (fun p c s => offerControl_tc_floor s p c)
@[simp] theorem sendHeartbeat_me_events (r : RuIx) :
    (sendHeartbeat r s).me.events = s.me.events := sendHeartbeat_keeps s (·.me.events) r (fun _ _ => rfl) (fun p c s => offerControl_me_events s p c)
@[simp] theorem sendHeartbeat_su_selector (r : RuIx) :
    (sendHeartbeat r s).su.selector = s.su.selector := sendHeartbeat_keeps s (·.su.selector) r (fun _ _ => rfl) (fun p c s => offerControl_su_selector s p c)
@[simp] theorem sendHeartbeat_cs_hold (r : RuIx) :
    (sendHeartbeat r s).cs.hold = s.cs.hold := sendHeartbeat_keeps s (·.cs.hold) r (fun _ _ => rfl) (fun p c s => by rw [offerControl_cs])
@[simp] theorem sendHeartbeat_cs_grace (r : RuIx) :
    (sendHeartbeat r s).cs.grace = s.cs.grace := sendHeartbeat_keeps s (·.cs.grace) r (fun _ _ => rfl) (fun p c s => by rw [offerControl_cs])
@[simp] theorem sendHeartbeat_cs_level (r : RuIx) :
    (sendHeartbeat r s).cs.level = s.cs.level := sendHeartbeat_keeps s (·.cs.level) r (fun _ _ => rfl) (fun p c s => by rw [offerControl_cs])

/-- A heartbeat is counted in the entry it goes to, when that is configured (R165). -/
theorem sendHeartbeat_ru (r q : RuIx) :
    (sendHeartbeat r s).ru q
      = if r = q ∧ (s.ru r).state ≠ .unused then
          { s.ru r with heartbeats := (s.ru r).heartbeats + 1 }
        else s.ru q := by
  unfold sendHeartbeat
  by_cases h : (s.ru r).state = .unused
  · simp [h]
  · by_cases e : r = q
    · subst e; simp [h]
    · simp [h, e]

theorem sendHeartbeat_length (r : RuIx) (q : Port) (h : ∀ q, (s.port q).queue.length ≤ 512) :
    ((sendHeartbeat r s).port q).queue.length ≤ 512 := by
  unfold sendHeartbeat
  simp only
  split
  · exact h q
  · exact offerControl_length _ _ _ _ fun q => by simpa using h q

@[simp] theorem round_contexts  :
    (round s).contexts = s.contexts := by
  unfold round; exact foldl_keeps (·.contexts) _ (fun s r => sendHeartbeat_contexts s r) _ _
@[simp] theorem round_zu  :
    (round s).zu = s.zu := by
  unfold round; exact foldl_keeps (·.zu) _ (fun s r => sendHeartbeat_zu s r) _ _
@[simp] theorem round_ur  :
    (round s).ur = s.ur := by
  unfold round; exact foldl_keeps (·.ur) _ (fun s r => sendHeartbeat_ur s r) _ _
@[simp] theorem round_links  :
    (round s).links = s.links := by
  unfold round; exact foldl_keeps (·.links) _ (fun s r => sendHeartbeat_links s r) _ _
@[simp] theorem round_resetHeld  :
    (round s).resetHeld = s.resetHeld := by
  unfold round; exact foldl_keeps (·.resetHeld) _ (fun s r => sendHeartbeat_resetHeld s r) _ _
@[simp] theorem round_pending  :
    (round s).pending = s.pending := by
  unfold round; exact foldl_keeps (·.pending) _ (fun s r => sendHeartbeat_pending s r) _ _
@[simp] theorem round_me_clock  :
    (round s).me.clock = s.me.clock := by
  unfold round; exact foldl_keeps (·.me.clock) _ (fun s r => sendHeartbeat_me_clock s r) _ _
@[simp] theorem round_kept  :
    (round s).kept = s.kept := by
  unfold round; exact foldl_keeps (·.kept) _ (fun s r => sendHeartbeat_kept s r) _ _
@[simp] theorem round_tc_floor  :
    (round s).tc.floor = s.tc.floor := by
  unfold round; exact foldl_keeps (·.tc.floor) _ (fun s r => sendHeartbeat_tc_floor s r) _ _
@[simp] theorem round_me_events  :
    (round s).me.events = s.me.events := by
  unfold round; exact foldl_keeps (·.me.events) _ (fun s r => sendHeartbeat_me_events s r) _ _
@[simp] theorem round_su_selector  :
    (round s).su.selector = s.su.selector := by
  unfold round; exact foldl_keeps (·.su.selector) _ (fun s r => sendHeartbeat_su_selector s r) _ _
@[simp] theorem round_cs_hold  :
    (round s).cs.hold = s.cs.hold := by
  unfold round; exact foldl_keeps (·.cs.hold) _ (fun s r => sendHeartbeat_cs_hold s r) _ _
@[simp] theorem round_cs_grace  :
    (round s).cs.grace = s.cs.grace := by
  unfold round; exact foldl_keeps (·.cs.grace) _ (fun s r => sendHeartbeat_cs_grace s r) _ _
@[simp] theorem round_cs_level  :
    (round s).cs.level = s.cs.level := by
  unfold round; exact foldl_keeps (·.cs.level) _ (fun s r => sendHeartbeat_cs_level s r) _ _
@[simp] theorem round_ctx (i : CtxIx) : (round s).ctx i = s.ctx i := by
  rw [State.ctx, State.ctx, round_contexts]
@[simp] theorem round_link (k : LinkIx) : (round s).link k = s.link k := by
  rw [State.link, State.link, round_links]
@[simp] theorem round_event (k : EventKind) : (round s).event k = s.event k := by
  rw [State.event, State.event, round_me_events]
@[simp] theorem round_active : (round s).active = s.active := active_of_selector (by simp)

theorem round_length (q : Port) (h : ∀ q, (s.port q).queue.length ≤ 512) :
    ((round s).port q).queue.length ≤ 512 := by
  have : ∀ (rs : List RuIx) (t : State), (∀ q, (t.port q).queue.length ≤ 512) →
      ∀ q, ((rs.foldl (fun s r => sendHeartbeat r s) t).port q).queue.length ≤ 512 := by
    intro rs
    induction rs with
    | nil => exact fun _ h => h
    | cons r rs ih => exact fun t h => ih _ fun q => sendHeartbeat_length t r q h
  exact this allRus s h q

/-! ### Service level and hand-over (R160, R161) -/

/-- The level is recomputed: unchanged, or written with its event and the floor (R161). -/
theorem recomputeLevel_cases :
    (levelOf s = s.cs.level ∧ recomputeLevel s = s)
    ∨ (levelOf s ≠ s.cs.level ∧ recomputeLevel s = recomputeFloor
        (raise .serviceLevel (some (.level (levelOf s)))
          { s with cs := { s.cs with level := levelOf s } })) := by
  unfold recomputeLevel
  by_cases h : levelOf s = s.cs.level
  · exact .inl ⟨h, by simp [h]⟩
  · exact .inr ⟨h, by simp [h]⟩

@[simp] theorem recomputeLevel_level : (recomputeLevel s).cs.level = levelOf s := by
  rcases recomputeLevel_cases s with ⟨h, e⟩ | ⟨-, e⟩ <;> rw [e]
  · exact h.symm
  · simp

@[simp] theorem recomputeLevel_contexts  :
    (recomputeLevel s).contexts = s.contexts := by
  rcases recomputeLevel_cases s with ⟨-, e⟩ | ⟨-, e⟩ <;> rw [e]; simp
@[simp] theorem recomputeLevel_zu  :
    (recomputeLevel s).zu = s.zu := by
  rcases recomputeLevel_cases s with ⟨-, e⟩ | ⟨-, e⟩ <;> rw [e]; simp
@[simp] theorem recomputeLevel_ur  :
    (recomputeLevel s).ur = s.ur := by
  rcases recomputeLevel_cases s with ⟨-, e⟩ | ⟨-, e⟩ <;> rw [e]; simp
@[simp] theorem recomputeLevel_links  :
    (recomputeLevel s).links = s.links := by
  rcases recomputeLevel_cases s with ⟨-, e⟩ | ⟨-, e⟩ <;> rw [e]; simp
@[simp] theorem recomputeLevel_resetHeld  :
    (recomputeLevel s).resetHeld = s.resetHeld := by
  rcases recomputeLevel_cases s with ⟨-, e⟩ | ⟨-, e⟩ <;> rw [e]; simp
@[simp] theorem recomputeLevel_pending  :
    (recomputeLevel s).pending = s.pending := by
  rcases recomputeLevel_cases s with ⟨-, e⟩ | ⟨-, e⟩ <;> rw [e]; simp
@[simp] theorem recomputeLevel_me_clock  :
    (recomputeLevel s).me.clock = s.me.clock := by
  rcases recomputeLevel_cases s with ⟨-, e⟩ | ⟨-, e⟩ <;> rw [e]; simp
@[simp] theorem recomputeLevel_kept  :
    (recomputeLevel s).kept = s.kept := by
  rcases recomputeLevel_cases s with ⟨-, e⟩ | ⟨-, e⟩ <;> rw [e]; simp; rfl
@[simp] theorem recomputeLevel_su_selector  :
    (recomputeLevel s).su.selector = s.su.selector := by
  rcases recomputeLevel_cases s with ⟨-, e⟩ | ⟨-, e⟩ <;> rw [e]; simp
@[simp] theorem recomputeLevel_cs_rus  :
    (recomputeLevel s).cs.rus = s.cs.rus := by
  rcases recomputeLevel_cases s with ⟨-, e⟩ | ⟨-, e⟩ <;> rw [e]; simp
@[simp] theorem recomputeLevel_cs_hold  :
    (recomputeLevel s).cs.hold = s.cs.hold := by
  rcases recomputeLevel_cases s with ⟨-, e⟩ | ⟨-, e⟩ <;> rw [e]; simp
@[simp] theorem recomputeLevel_cs_grace  :
    (recomputeLevel s).cs.grace = s.cs.grace := by
  rcases recomputeLevel_cases s with ⟨-, e⟩ | ⟨-, e⟩ <;> rw [e]; simp
@[simp] theorem recomputeLevel_active : (recomputeLevel s).active = s.active := active_of_selector (by simp)

@[simp] theorem graceAtSwitch_ports (new : Option LinkIx) :
    (graceAtSwitch new s).ports = s.ports := by cases new <;> rfl
@[simp] theorem graceAtSwitch_tc (new : Option LinkIx) :
    (graceAtSwitch new s).tc = s.tc := by cases new <;> rfl
@[simp] theorem graceAtSwitch_contexts (new : Option LinkIx) :
    (graceAtSwitch new s).contexts = s.contexts := by cases new <;> rfl
@[simp] theorem graceAtSwitch_zu (new : Option LinkIx) :
    (graceAtSwitch new s).zu = s.zu := by cases new <;> rfl
@[simp] theorem graceAtSwitch_ur (new : Option LinkIx) :
    (graceAtSwitch new s).ur = s.ur := by cases new <;> rfl
@[simp] theorem graceAtSwitch_links (new : Option LinkIx) :
    (graceAtSwitch new s).links = s.links := by cases new <;> rfl
@[simp] theorem graceAtSwitch_su (new : Option LinkIx) :
    (graceAtSwitch new s).su = s.su := by cases new <;> rfl
@[simp] theorem graceAtSwitch_me (new : Option LinkIx) :
    (graceAtSwitch new s).me = s.me := by cases new <;> rfl
@[simp] theorem graceAtSwitch_resetHeld (new : Option LinkIx) :
    (graceAtSwitch new s).resetHeld = s.resetHeld := by cases new <;> rfl
@[simp] theorem graceAtSwitch_pending (new : Option LinkIx) :
    (graceAtSwitch new s).pending = s.pending := by cases new <;> rfl
@[simp] theorem graceAtSwitch_kept (new : Option LinkIx) :
    (graceAtSwitch new s).kept = s.kept := by cases new <;> rfl
@[simp] theorem graceAtSwitch_cs_hold (new : Option LinkIx) :
    (graceAtSwitch new s).cs.hold = s.cs.hold := by cases new <;> rfl
@[simp] theorem graceAtSwitch_cs_level (new : Option LinkIx) :
    (graceAtSwitch new s).cs.level = s.cs.level := by cases new <;> rfl
@[simp] theorem graceAtSwitch_cs_rus (new : Option LinkIx) :
    (graceAtSwitch new s).cs.rus = s.cs.rus := by cases new <;> rfl

/-- A hand-over in its order: grace timer, level, and one round where level, gate or active link changed
(R161, R165). -/
theorem csHandover_eq (g : Bool) (sw : Option (Option LinkIx)) :
    let s' := sw.elim s fun new => graceAtSwitch new s
    csHandover g sw s
      = if levelOf s' ≠ s.cs.level ∨ g = true ∨ sw ≠ none then round (recomputeLevel s') else recomputeLevel s' := by
  intro s'
  have hb : csHandover g sw s = if levelChanges s' || g || sw.isSome then round (recomputeLevel s')
      else recomputeLevel s' := by unfold csHandover; cases sw <;> rfl
  have hc : levelChanges s' = decide (levelOf s' ≠ s.cs.level) := by
    have : s'.cs.level = s.cs.level := by rcases sw with _ | _ | k <;> rfl
    unfold levelChanges; rw [this]; by_cases e : levelOf s' = s.cs.level <;> simp [e]
  rw [hb, hc]
  by_cases e : levelOf s' = s.cs.level <;> cases g <;> cases sw <;> simp [e]

/-- A hand-over: grace timer where a switch was made, level, and one round where the level, the gate or
the active link has changed (R161). -/
theorem csHandover_cases (g : Bool) (sw : Option (Option LinkIx)) :
    let s' := match sw with
      | none => s
      | some new => graceAtSwitch new s
    csHandover g sw s = round (recomputeLevel s') ∨ csHandover g sw s = recomputeLevel s' := by
  unfold csHandover
  cases sw <;> simp only <;> split <;> simp

@[simp] theorem csHandover_contexts (g : Bool) (sw : Option (Option LinkIx)) :
    (csHandover g sw s).contexts = s.contexts := by
  rcases csHandover_cases s g sw with e | e <;> rw [e] <;> cases sw <;> simp
@[simp] theorem csHandover_zu (g : Bool) (sw : Option (Option LinkIx)) :
    (csHandover g sw s).zu = s.zu := by
  rcases csHandover_cases s g sw with e | e <;> rw [e] <;> cases sw <;> simp
@[simp] theorem csHandover_ur (g : Bool) (sw : Option (Option LinkIx)) :
    (csHandover g sw s).ur = s.ur := by
  rcases csHandover_cases s g sw with e | e <;> rw [e] <;> cases sw <;> simp
@[simp] theorem csHandover_links (g : Bool) (sw : Option (Option LinkIx)) :
    (csHandover g sw s).links = s.links := by
  rcases csHandover_cases s g sw with e | e <;> rw [e] <;> cases sw <;> simp
@[simp] theorem csHandover_resetHeld (g : Bool) (sw : Option (Option LinkIx)) :
    (csHandover g sw s).resetHeld = s.resetHeld := by
  rcases csHandover_cases s g sw with e | e <;> rw [e] <;> cases sw <;> simp
@[simp] theorem csHandover_pending (g : Bool) (sw : Option (Option LinkIx)) :
    (csHandover g sw s).pending = s.pending := by
  rcases csHandover_cases s g sw with e | e <;> rw [e] <;> cases sw <;> simp
@[simp] theorem csHandover_me_clock (g : Bool) (sw : Option (Option LinkIx)) :
    (csHandover g sw s).me.clock = s.me.clock := by
  rcases csHandover_cases s g sw with e | e <;> rw [e] <;> cases sw <;> simp
@[simp] theorem csHandover_kept (g : Bool) (sw : Option (Option LinkIx)) :
    (csHandover g sw s).kept = s.kept := by
  rcases csHandover_cases s g sw with e | e <;> rw [e] <;> cases sw <;> simp
@[simp] theorem csHandover_su_selector (g : Bool) (sw : Option (Option LinkIx)) :
    (csHandover g sw s).su.selector = s.su.selector := by
  rcases csHandover_cases s g sw with e | e <;> rw [e] <;> cases sw <;> simp
@[simp] theorem csHandover_cs_hold (g : Bool) (sw : Option (Option LinkIx)) :
    (csHandover g sw s).cs.hold = s.cs.hold := by
  rcases csHandover_cases s g sw with e | e <;> rw [e] <;> cases sw <;> simp
@[simp] theorem csHandover_active (g : Bool) (sw : Option (Option LinkIx)) :
    (csHandover g sw s).active = s.active := active_of_selector (by simp)

/-- After a hand-over the service level is the one R161 gives. -/
theorem csHandover_level (g : Bool) (sw : Option (Option LinkIx)) :
    (csHandover g sw s).cs.level = levelOf (csHandover g sw s) := by
  rcases csHandover_cases s g sw with e | e <;> rw [e] <;>
    simp only [round_cs_level, recomputeLevel_level] <;> exact (levelOf_congr (by simp) (by simp) (by simp)).symm

/-! ### The hold queue (R155 to R157) -/

/-- An entry offered to the hold queue joins the tail, or is dropped HOLD_FULL with its event (R155). -/
theorem holdJoin_cases (e : UserEntry) :
    (holdRoom s.cs.hold e = true ∧ holdJoin e s = s.setHold (s.cs.hold ++ [e]))
    ∨ (holdRoom s.cs.hold e = false
        ∧ holdJoin e s = raise .holdOverflow none (drop .holdFull .uplink s)) := by
  unfold holdJoin
  cases h : holdRoom s.cs.hold e with
  | true => exact .inl ⟨rfl, if_pos rfl⟩
  | false => exact .inr ⟨rfl, if_neg (by simp)⟩

/-- Room in the hold queue is room in frames and in bytes (R154, R155). -/
theorem holdRoom_iff (h : List UserEntry) (e : UserEntry) :
    holdRoom h e = true ↔ h.length < 1024 ∧ bytesOf h + e.length ≤ 1572864 := by
  simp only [holdRoom, Bool.and_eq_true, decide_eq_true_eq]; rfl

@[simp] theorem bytesOf_nil : bytesOf [] = 0 := rfl
@[simp] theorem bytesOf_cons (e : UserEntry) (h : List UserEntry) :
    bytesOf (e :: h) = e.length + bytesOf h := by simp [bytesOf]
@[simp] theorem bytesOf_append (h g : List UserEntry) : bytesOf (h ++ g) = bytesOf h + bytesOf g := by
  simp [bytesOf]

/-- A returned entry is put in whole (R156). -/
theorem insertByIntake_perm (e : UserEntry) (h : List UserEntry) : (insertByIntake e h).Perm (e :: h) := by
  induction h with
  | nil => exact .refl _
  | cons x xs ih =>
    rw [insertByIntake]
    split
    · exact .refl _
    · exact (ih.cons x).trans (.swap e x xs)

/-- A hold queue in the order of intake stays so when an entry is returned to it (R156). -/
theorem insertByIntake_inOrder (e : UserEntry) (h : List UserEntry)
    (ho : h.Pairwise fun a b => a.intake.toNat ≤ b.intake.toNat) :
    (insertByIntake e h).Pairwise fun a b => a.intake.toNat ≤ b.intake.toNat := by
  induction h with
  | nil => exact List.pairwise_singleton _ _
  | cons x xs ih =>
    obtain ⟨first, rest⟩ := List.pairwise_cons.mp ho
    rw [insertByIntake]
    split
    · next later =>
      exact List.pairwise_cons.mpr ⟨fun y hy => by
        rcases List.mem_cons.mp hy with rfl | hy
        · omega
        · have := first y hy; omega, ho⟩
    · refine List.pairwise_cons.mpr ⟨fun y hy => ?_, ih rest⟩
      rcases List.mem_cons.mp ((insertByIntake_perm e xs).mem_iff.mp hy) with rfl | hy
      · omega
      · exact first y hy

/-- The entries of a batch that fit are its longest beginning within the limits; the rest are those dropped
(R151). -/
theorem fitBatch_split (n b : Nat) (es : List UserEntry) : ∃ m, m ≤ es.length
    ∧ fitBatch n b es = (es.take m, es.drop m)
    ∧ (m = 0 ∨ (n + m ≤ 1024 ∧ b + bytesOf (es.take m) ≤ 1572864))
    ∧ (m = es.length ∨ 1024 < n + (m + 1) ∨ 1572864 < b + bytesOf (es.take (m + 1))) := by
  induction es generalizing n b with
  | nil => exact ⟨0, le_rfl, rfl, .inl rfl, .inl rfl⟩
  | cons e es ih =>
    rw [fitBatch]
    split
    · rename_i h
      obtain ⟨m, hm, hf, hi, ho⟩ := ih (n + 1) (b + e.length)
      refine ⟨m + 1, by simpa using hm, by rw [hf]; rfl, .inr ?_, ?_⟩
      · rw [List.take_succ_cons, bytesOf_cons]
        have h1 : n + 1 ≤ 1024 ∧ b + e.length ≤ 1572864 := h
        rcases hi with rfl | hi
        · simp; omega
        · omega
      · rw [List.take_succ_cons, bytesOf_cons, List.length_cons]
        omega
    · rename_i h
      have h1 : ¬ (n < 1024 ∧ b + e.length ≤ 1572864) := h
      refine ⟨0, Nat.zero_le _, rfl, .inl rfl, .inr ?_⟩
      simp; omega

theorem insertByIntake_length (e : UserEntry) (h : List UserEntry) :
    (insertByIntake e h).length = h.length + 1 := (insertByIntake_perm e h).length_eq

theorem bytesOf_insertByIntake (e : UserEntry) (h : List UserEntry) :
    bytesOf (insertByIntake e h) = bytesOf h + e.length := by
  have := ((insertByIntake_perm e h).map UserEntry.length).sum_eq
  simp only [bytesOf, List.map_cons, List.sum_cons] at *; omega

theorem dropMany_zero (r : DropReason) (d : Dir) : dropMany 0 r d s = s := by
  simp [dropMany, State.dropCount]

theorem dropMany_succ (n : Nat) (r : DropReason) (d : Dir) :
    dropMany (n + 1) r d s = dropMany n r d (drop r d s) := by
  simp [dropMany, drop, State.dropCount, BitVec.ofNat_add, BitVec.add_assoc, BitVec.add_comm]

/-! ### Steering (R144 to R151) -/

@[simp] theorem takeOut_contexts (k : LinkIx) :
    (takeOut k s).contexts = s.contexts := foldl_keeps (·.contexts) _ (fun _ _ => rfl) allShore s
@[simp] theorem takeOut_zu (k : LinkIx) :
    (takeOut k s).zu = s.zu := foldl_keeps (·.zu) _ (fun _ _ => rfl) allShore s
@[simp] theorem takeOut_ur (k : LinkIx) :
    (takeOut k s).ur = s.ur := foldl_keeps (·.ur) _ (fun _ _ => rfl) allShore s
@[simp] theorem takeOut_links (k : LinkIx) :
    (takeOut k s).links = s.links := foldl_keeps (·.links) _ (fun _ _ => rfl) allShore s
@[simp] theorem takeOut_resetHeld (k : LinkIx) :
    (takeOut k s).resetHeld = s.resetHeld := foldl_keeps (·.resetHeld) _ (fun _ _ => rfl) allShore s
@[simp] theorem takeOut_pending (k : LinkIx) :
    (takeOut k s).pending = s.pending := foldl_keeps (·.pending) _ (fun _ _ => rfl) allShore s
@[simp] theorem takeOut_me_clock (k : LinkIx) :
    (takeOut k s).me.clock = s.me.clock := foldl_keeps (·.me.clock) _ (fun _ _ => rfl) allShore s
@[simp] theorem takeOut_kept (k : LinkIx) :
    (takeOut k s).kept = s.kept := foldl_keeps (·.kept) _ (fun _ _ => rfl) allShore s
@[simp] theorem takeOut_su_selector (k : LinkIx) :
    (takeOut k s).su.selector = s.su.selector := foldl_keeps (·.su.selector) _ (fun _ _ => rfl) allShore s
@[simp] theorem takeOut_cs_level (k : LinkIx) :
    (takeOut k s).cs.level = s.cs.level := foldl_keeps (·.cs.level) _ (fun _ _ => rfl) allShore s
@[simp] theorem takeOut_cs_grace (k : LinkIx) :
    (takeOut k s).cs.grace = s.cs.grace := foldl_keeps (·.cs.grace) _ (fun _ _ => rfl) allShore s
@[simp] theorem takeOut_cs_rus (k : LinkIx) :
    (takeOut k s).cs.rus = s.cs.rus := foldl_keeps (·.cs.rus) _ (fun _ _ => rfl) allShore s
@[simp] theorem takeOut_su_drain (k : LinkIx) :
    (takeOut k s).su.drain = s.su.drain := foldl_keeps (·.su.drain) _ (fun _ _ => rfl) allShore s
@[simp] theorem takeOut_me_events (k : LinkIx) :
    (takeOut k s).me.events = s.me.events := foldl_keeps (·.me.events) _ (fun _ _ => rfl) allShore s
@[simp] theorem takeOut_me_coldPending (k : LinkIx) :
    (takeOut k s).me.coldPending = s.me.coldPending := foldl_keeps (·.me.coldPending) _ (fun _ _ => rfl) allShore s
@[simp] theorem takeOut_tc (k : LinkIx) :
    (takeOut k s).tc = s.tc := foldl_keeps (·.tc) _ (fun _ _ => rfl) allShore s

/-- What placing, the hold queue and a drop keep, a move keeps. -/
theorem moveTo_keeps {α : Type} (look : State → α) (hp : ∀ p b s, look (place p b s) = look s)
    (hh : ∀ h s, look (State.setHold s h) = look s)
    (hd : ∀ s, look (drop .holdFull .uplink s) = look s) (new : LinkIx) (shut : Bool)
    (es : List UserEntry) : look (moveTo new shut es s) = look s := by
  induction es generalizing s shut with
  | nil => rfl
  | cons e es ih =>
    rw [moveTo]
    split
    · rw [ih, hp]
    · split
      · rw [ih, hh]
      · rw [ih, hd]

@[simp] theorem moveTo_contexts (new : LinkIx) (shut : Bool) (es : List UserEntry) :
    (moveTo new shut es s).contexts = s.contexts := moveTo_keeps s (·.contexts) (fun _ _ _ => rfl) (fun _ _ => rfl) (fun _ => rfl) new shut es
@[simp] theorem moveTo_zu (new : LinkIx) (shut : Bool) (es : List UserEntry) :
    (moveTo new shut es s).zu = s.zu := moveTo_keeps s (·.zu) (fun _ _ _ => rfl) (fun _ _ => rfl) (fun _ => rfl) new shut es
@[simp] theorem moveTo_ur (new : LinkIx) (shut : Bool) (es : List UserEntry) :
    (moveTo new shut es s).ur = s.ur := moveTo_keeps s (·.ur) (fun _ _ _ => rfl) (fun _ _ => rfl) (fun _ => rfl) new shut es
@[simp] theorem moveTo_links (new : LinkIx) (shut : Bool) (es : List UserEntry) :
    (moveTo new shut es s).links = s.links := moveTo_keeps s (·.links) (fun _ _ _ => rfl) (fun _ _ => rfl) (fun _ => rfl) new shut es
@[simp] theorem moveTo_resetHeld (new : LinkIx) (shut : Bool) (es : List UserEntry) :
    (moveTo new shut es s).resetHeld = s.resetHeld := moveTo_keeps s (·.resetHeld) (fun _ _ _ => rfl) (fun _ _ => rfl) (fun _ => rfl) new shut es
@[simp] theorem moveTo_pending (new : LinkIx) (shut : Bool) (es : List UserEntry) :
    (moveTo new shut es s).pending = s.pending := moveTo_keeps s (·.pending) (fun _ _ _ => rfl) (fun _ _ => rfl) (fun _ => rfl) new shut es
@[simp] theorem moveTo_me_clock (new : LinkIx) (shut : Bool) (es : List UserEntry) :
    (moveTo new shut es s).me.clock = s.me.clock := moveTo_keeps s (·.me.clock) (fun _ _ _ => rfl) (fun _ _ => rfl) (fun _ => rfl) new shut es
@[simp] theorem moveTo_kept (new : LinkIx) (shut : Bool) (es : List UserEntry) :
    (moveTo new shut es s).kept = s.kept := moveTo_keeps s (·.kept) (fun _ _ _ => rfl) (fun _ _ => rfl) (fun _ => rfl) new shut es
@[simp] theorem moveTo_su_selector (new : LinkIx) (shut : Bool) (es : List UserEntry) :
    (moveTo new shut es s).su.selector = s.su.selector := moveTo_keeps s (·.su.selector) (fun _ _ _ => rfl) (fun _ _ => rfl) (fun _ => rfl) new shut es
@[simp] theorem moveTo_cs_level (new : LinkIx) (shut : Bool) (es : List UserEntry) :
    (moveTo new shut es s).cs.level = s.cs.level := moveTo_keeps s (·.cs.level) (fun _ _ _ => rfl) (fun _ _ => rfl) (fun _ => rfl) new shut es
@[simp] theorem moveTo_cs_grace (new : LinkIx) (shut : Bool) (es : List UserEntry) :
    (moveTo new shut es s).cs.grace = s.cs.grace := moveTo_keeps s (·.cs.grace) (fun _ _ _ => rfl) (fun _ _ => rfl) (fun _ => rfl) new shut es
@[simp] theorem moveTo_cs_rus (new : LinkIx) (shut : Bool) (es : List UserEntry) :
    (moveTo new shut es s).cs.rus = s.cs.rus := moveTo_keeps s (·.cs.rus) (fun _ _ _ => rfl) (fun _ _ => rfl) (fun _ => rfl) new shut es
@[simp] theorem moveTo_su_drain (new : LinkIx) (shut : Bool) (es : List UserEntry) :
    (moveTo new shut es s).su.drain = s.su.drain := moveTo_keeps s (·.su.drain) (fun _ _ _ => rfl) (fun _ _ => rfl) (fun _ => rfl) new shut es
@[simp] theorem moveTo_me_events (new : LinkIx) (shut : Bool) (es : List UserEntry) :
    (moveTo new shut es s).me.events = s.me.events := moveTo_keeps s (·.me.events) (fun _ _ _ => rfl) (fun _ _ => rfl) (fun _ => rfl) new shut es
@[simp] theorem moveTo_me_coldPending (new : LinkIx) (shut : Bool) (es : List UserEntry) :
    (moveTo new shut es s).me.coldPending = s.me.coldPending := moveTo_keeps s (·.me.coldPending) (fun _ _ _ => rfl) (fun _ _ => rfl) (fun _ => rfl) new shut es
@[simp] theorem moveTo_tc_floor (new : LinkIx) (shut : Bool) (es : List UserEntry) :
    (moveTo new shut es s).tc.floor = s.tc.floor := moveTo_keeps s (·.tc.floor) (fun _ _ _ => rfl) (fun _ _ => rfl) (fun _ => rfl) new shut es
/-- The entries of a move that find the queue full once one has found no room in the hold queue. -/
theorem moveTo_shut (new : LinkIx) (es : List UserEntry)
    (h : s.hasRoom (.shore (s.link new).cfg.port) = false) :
    moveTo new true es s = dropMany es.length .holdFull .uplink s := by
  induction es generalizing s with
  | nil => exact (dropMany_zero s _ _).symm
  | cons e es ih =>
    rw [moveTo]; simp only [h]
    simp only [Bool.not_true, Bool.false_and, Bool.false_eq_true, if_false]
    rw [ih _ (by simpa using h), List.length_cons, dropMany_succ]

/-- The entries of a move that find the queue full go back as a batch does (R156). -/
theorem moveTo_full (new : LinkIx) (es : List UserEntry)
    (h : s.hasRoom (.shore (s.link new).cfg.port) = false) :
    moveTo new false es s = returnBatch es s := by
  induction es generalizing s with
  | nil => simp [moveTo, returnBatch, fitBatch, dropMany_zero, State.setHold]
  | cons e es ih =>
    rw [moveTo, returnBatch, fitBatch]; simp only [h]
    simp only [Bool.not_false, Bool.true_and, Bool.false_eq_true, if_false]
    cases hr : holdRoom s.cs.hold e with
    | true =>
      have h1 : s.cs.hold.length < holdMaxFrames ∧ bytesOf s.cs.hold + e.length ≤ holdMaxBytes := by
        simpa [holdRoom] using hr
      rw [if_pos rfl, if_pos h1, ih (s.setHold (insertByIntake e s.cs.hold)) h]
      simp only [returnBatch, State.setHold, insertByIntake_length, bytesOf_insertByIntake]
      rfl
    | false =>
      have h1 : ¬ (s.cs.hold.length < holdMaxFrames ∧ bytesOf s.cs.hold + e.length ≤ holdMaxBytes) := by
        intro h2; simp [holdRoom, h2] at hr
      rw [if_neg (by simp), if_neg h1, moveTo_shut _ _ _ (by simpa using h)]
      simp only [List.length_cons, dropMany_succ]; rfl

/-- A batch goes back up to the entry that no longer fits; that one and the later ones are dropped HOLD_FULL
(R151, R156). -/
theorem returnBatch_spec (es : List UserEntry) : ∃ m, m ≤ es.length
    ∧ (m = 0 ∨ (s.cs.hold.length + m ≤ 1024 ∧ bytesOf s.cs.hold + bytesOf (es.take m) ≤ 1572864))
    ∧ (m = es.length ∨ 1024 < s.cs.hold.length + (m + 1) ∨ 1572864 < bytesOf s.cs.hold + bytesOf (es.take (m + 1)))
    ∧ returnBatch es s = { s with
          cs := { s.cs with hold := (es.take m).foldl (fun h e => insertByIntake e h) s.cs.hold }
          tc := { s.tc with
            drops := s.tc.drops.set (dropIx .holdFull .uplink)
              (s.dropCount .holdFull .uplink + BitVec.ofNat 32 (es.length - m)) } } := by
  obtain ⟨m, h1, h2, h3, h4⟩ := fitBatch_split s.cs.hold.length (bytesOf s.cs.hold) es
  refine ⟨m, h1, h3, h4, ?_⟩
  rw [returnBatch, h2]; simp only [List.length_drop]; rfl

/-- While the active link's queue has room the entries of a move join its tail, relabelled; from the first
that finds none, they go back as a batch does (R151, R156). -/
theorem moveTo_eq (new : LinkIx) (es : List UserEntry) :
    let p := Port.shore (s.link new).cfg.port
    let n := min es.length (512 - (s.port p).queue.length)
    moveTo new false es s = returnBatch (es.drop n) (s.setQueue p ((s.port p).queue
      ++ (es.take n).map fun u => { body := .up u new, placed := s.me.clock })) := by
  induction es generalizing s with
  | nil => simp [moveTo, returnBatch, fitBatch, dropMany_zero, State.setHold, State.setQueue_self]
  | cons e es ih =>
    intro p n
    cases hr : s.hasRoom p with
    | false =>
      have hn : n = 0 := by
        have : ¬ (s.port p).queue.length < 512 := of_decide_eq_false hr
        omega
      rw [moveTo_full s new _ hr, hn]
      simp [State.setQueue_self]
    | true =>
      have hl : (s.port p).queue.length < 512 := of_decide_eq_true hr
      have hq : ((place p (.up e new) s).port p).queue
          = (s.port p).queue ++ [{ body := .up e new, placed := s.me.clock }] := by
        rw [place_port, if_pos rfl]
      have hn : n = min es.length (512 - ((place p (.up e new) s).port p).queue.length) + 1 := by
        rw [hq, List.length_append, List.length_singleton]
        show min (es.length + 1) (512 - (s.port p).queue.length) = _
        omega
      rw [moveTo, if_pos hr]
      refine (ih (place p (.up e new) s)).trans ?_
      rw [hn, List.drop_succ_cons, List.take_succ_cons, ]
      have hp : Port.shore ((place p (.up e new) s).link new).cfg.port = p := rfl
      have hc : (place p (.up e new) s).me.clock = s.me.clock := rfl
      rw [hp, hc, hq]
      rw [place, State.setQueue_setQueue, List.append_assoc]; rfl
/-- The user entries of a link leave the shore queues, and every other entry stays in its order (R151). -/
theorem takeOut_port (k : LinkIx) (p : Port) : (takeOut k s).port p = match p with
    | .cell i => s.port (.cell i)
    | .shore i => { s.port (.shore i) with queue := withoutLabel k (s.port (.shore i)).queue } := by
  simp only [takeOut, allShore, List.foldl_cons, List.foldl_nil, State.setQueue_port]
  rcases p with i | i
  · simp
  · fin_cases i <;> simp

@[simp] theorem returnBatch_contexts (es : List UserEntry) : (returnBatch es s).contexts = s.contexts := rfl
@[simp] theorem returnBatch_zu (es : List UserEntry) : (returnBatch es s).zu = s.zu := rfl
@[simp] theorem returnBatch_ur (es : List UserEntry) : (returnBatch es s).ur = s.ur := rfl
@[simp] theorem returnBatch_links (es : List UserEntry) : (returnBatch es s).links = s.links := rfl
@[simp] theorem returnBatch_resetHeld (es : List UserEntry) :
    (returnBatch es s).resetHeld = s.resetHeld := rfl
@[simp] theorem returnBatch_pending (es : List UserEntry) : (returnBatch es s).pending = s.pending := rfl
@[simp] theorem returnBatch_me_clock (es : List UserEntry) : (returnBatch es s).me.clock = s.me.clock := rfl
@[simp] theorem returnBatch_kept (es : List UserEntry) : (returnBatch es s).kept = s.kept := rfl
@[simp] theorem returnBatch_su_selector (es : List UserEntry) :
    (returnBatch es s).su.selector = s.su.selector := rfl
@[simp] theorem returnBatch_cs_level (es : List UserEntry) : (returnBatch es s).cs.level = s.cs.level := rfl
@[simp] theorem returnBatch_cs_grace (es : List UserEntry) : (returnBatch es s).cs.grace = s.cs.grace := rfl
@[simp] theorem returnBatch_cs_rus (es : List UserEntry) : (returnBatch es s).cs.rus = s.cs.rus := rfl
@[simp] theorem returnBatch_su_drain (es : List UserEntry) : (returnBatch es s).su.drain = s.su.drain := rfl
@[simp] theorem returnBatch_me_events (es : List UserEntry) :
    (returnBatch es s).me.events = s.me.events := rfl
@[simp] theorem returnBatch_me_coldPending (es : List UserEntry) :
    (returnBatch es s).me.coldPending = s.me.coldPending := rfl
@[simp] theorem returnBatch_tc_floor (es : List UserEntry) : (returnBatch es s).tc.floor = s.tc.floor := rfl
@[simp] theorem moveEntries_contexts (k : LinkIx) :
    (moveEntries k s).contexts = s.contexts := by unfold moveEntries; simp only; split <;> simp
@[simp] theorem moveEntries_zu (k : LinkIx) :
    (moveEntries k s).zu = s.zu := by unfold moveEntries; simp only; split <;> simp
@[simp] theorem moveEntries_ur (k : LinkIx) :
    (moveEntries k s).ur = s.ur := by unfold moveEntries; simp only; split <;> simp
@[simp] theorem moveEntries_links (k : LinkIx) :
    (moveEntries k s).links = s.links := by unfold moveEntries; simp only; split <;> simp
@[simp] theorem moveEntries_resetHeld (k : LinkIx) :
    (moveEntries k s).resetHeld = s.resetHeld := by unfold moveEntries; simp only; split <;> simp
@[simp] theorem moveEntries_pending (k : LinkIx) :
    (moveEntries k s).pending = s.pending := by unfold moveEntries; simp only; split <;> simp
@[simp] theorem moveEntries_me_clock (k : LinkIx) :
    (moveEntries k s).me.clock = s.me.clock := by unfold moveEntries; simp only; split <;> simp
@[simp] theorem moveEntries_kept (k : LinkIx) :
    (moveEntries k s).kept = s.kept := by unfold moveEntries; simp only; split <;> simp
@[simp] theorem moveEntries_su_selector (k : LinkIx) :
    (moveEntries k s).su.selector = s.su.selector := by unfold moveEntries; simp only; split <;> simp
@[simp] theorem moveEntries_cs_level (k : LinkIx) :
    (moveEntries k s).cs.level = s.cs.level := by unfold moveEntries; simp only; split <;> simp
@[simp] theorem moveEntries_cs_grace (k : LinkIx) :
    (moveEntries k s).cs.grace = s.cs.grace := by unfold moveEntries; simp only; split <;> simp
@[simp] theorem moveEntries_cs_rus (k : LinkIx) :
    (moveEntries k s).cs.rus = s.cs.rus := by unfold moveEntries; simp only; split <;> simp
@[simp] theorem moveEntries_su_drain (k : LinkIx) :
    (moveEntries k s).su.drain = s.su.drain := by unfold moveEntries; simp only; split <;> simp
@[simp] theorem moveEntries_me_events (k : LinkIx) :
    (moveEntries k s).me.events = s.me.events := by unfold moveEntries; simp only; split <;> simp
@[simp] theorem moveEntries_me_coldPending (k : LinkIx) :
    (moveEntries k s).me.coldPending = s.me.coldPending := by unfold moveEntries; simp only; split <;> simp
@[simp] theorem moveEntries_tc_floor (k : LinkIx) :
    (moveEntries k s).tc.floor = s.tc.floor := by unfold moveEntries; simp only; split <;> simp
@[simp] theorem offerMarker_contexts (old new : Option LinkIx) (c : SwitchCause) :
    (offerMarker old new c s).contexts = s.contexts := by unfold offerMarker; split <;> simp
@[simp] theorem offerMarker_zu (old new : Option LinkIx) (c : SwitchCause) :
    (offerMarker old new c s).zu = s.zu := by unfold offerMarker; split <;> simp
@[simp] theorem offerMarker_ur (old new : Option LinkIx) (c : SwitchCause) :
    (offerMarker old new c s).ur = s.ur := by unfold offerMarker; split <;> simp
@[simp] theorem offerMarker_links (old new : Option LinkIx) (c : SwitchCause) :
    (offerMarker old new c s).links = s.links := by unfold offerMarker; split <;> simp
@[simp] theorem offerMarker_resetHeld (old new : Option LinkIx) (c : SwitchCause) :
    (offerMarker old new c s).resetHeld = s.resetHeld := by unfold offerMarker; split <;> simp
@[simp] theorem offerMarker_pending (old new : Option LinkIx) (c : SwitchCause) :
    (offerMarker old new c s).pending = s.pending := by unfold offerMarker; split <;> simp
@[simp] theorem offerMarker_me_clock (old new : Option LinkIx) (c : SwitchCause) :
    (offerMarker old new c s).me.clock = s.me.clock := by unfold offerMarker; split <;> simp
@[simp] theorem offerMarker_kept (old new : Option LinkIx) (c : SwitchCause) :
    (offerMarker old new c s).kept = s.kept := by unfold offerMarker; split <;> simp
@[simp] theorem offerMarker_cs (old new : Option LinkIx) (c : SwitchCause) :
    (offerMarker old new c s).cs = s.cs := by unfold offerMarker; split <;> simp
@[simp] theorem offerMarker_tc_floor (old new : Option LinkIx) (c : SwitchCause) :
    (offerMarker old new c s).tc.floor = s.tc.floor := by unfold offerMarker; split <;> simp
@[simp] theorem offerMarker_su_selector (old new : Option LinkIx) (c : SwitchCause) :
    (offerMarker old new c s).su.selector = s.su.selector := by unfold offerMarker; split <;> simp
/-- The SWITCH marker changes nothing of SU. -/
@[simp] theorem offerMarker_su (old new : Option LinkIx) (c : SwitchCause) :
    (offerMarker old new c s).su = s.su := by
  cases new with
  | none => rfl
  | some k => exact offerControl_keeps _ (·.su) _ _ (fun _ _ => rfl) (fun _ _ => rfl) (fun _ => rfl)

@[simp] theorem settleOld_contexts (old : Option LinkIx) (c : SwitchCause) :
    (settleOld old c s).contexts = s.contexts := by unfold settleOld; split <;> [rfl; (split <;> [simp; rfl])]
@[simp] theorem settleOld_zu (old : Option LinkIx) (c : SwitchCause) :
    (settleOld old c s).zu = s.zu := by unfold settleOld; split <;> [rfl; (split <;> [simp; rfl])]
@[simp] theorem settleOld_ur (old : Option LinkIx) (c : SwitchCause) :
    (settleOld old c s).ur = s.ur := by unfold settleOld; split <;> [rfl; (split <;> [simp; rfl])]
@[simp] theorem settleOld_links (old : Option LinkIx) (c : SwitchCause) :
    (settleOld old c s).links = s.links := by unfold settleOld; split <;> [rfl; (split <;> [simp; rfl])]
@[simp] theorem settleOld_resetHeld (old : Option LinkIx) (c : SwitchCause) :
    (settleOld old c s).resetHeld = s.resetHeld := by unfold settleOld; split <;> [rfl; (split <;> [simp; rfl])]
@[simp] theorem settleOld_pending (old : Option LinkIx) (c : SwitchCause) :
    (settleOld old c s).pending = s.pending := by unfold settleOld; split <;> [rfl; (split <;> [simp; rfl])]
@[simp] theorem settleOld_me_clock (old : Option LinkIx) (c : SwitchCause) :
    (settleOld old c s).me.clock = s.me.clock := by unfold settleOld; split <;> [rfl; (split <;> [simp; rfl])]
@[simp] theorem settleOld_kept (old : Option LinkIx) (c : SwitchCause) :
    (settleOld old c s).kept = s.kept := by unfold settleOld; split <;> [rfl; (split <;> [simp; rfl])]
@[simp] theorem settleOld_su_selector (old : Option LinkIx) (c : SwitchCause) :
    (settleOld old c s).su.selector = s.su.selector := by unfold settleOld; split <;> [rfl; (split <;> [simp; rfl])]
@[simp] theorem settleOld_cs_level (old : Option LinkIx) (c : SwitchCause) :
    (settleOld old c s).cs.level = s.cs.level := by unfold settleOld; split <;> [rfl; (split <;> [simp; rfl])]
@[simp] theorem settleOld_cs_grace (old : Option LinkIx) (c : SwitchCause) :
    (settleOld old c s).cs.grace = s.cs.grace := by unfold settleOld; split <;> [rfl; (split <;> [simp; rfl])]
@[simp] theorem settleOld_cs_rus (old : Option LinkIx) (c : SwitchCause) :
    (settleOld old c s).cs.rus = s.cs.rus := by unfold settleOld; split <;> [rfl; (split <;> [simp; rfl])]
@[simp] theorem settleOld_me_events (old : Option LinkIx) (c : SwitchCause) :
    (settleOld old c s).me.events = s.me.events := by unfold settleOld; split <;> [rfl; (split <;> [simp; rfl])]
@[simp] theorem settleOld_tc_floor (old : Option LinkIx) (c : SwitchCause) :
    (settleOld old c s).tc.floor = s.tc.floor := by unfold settleOld; split <;> [rfl; (split <;> [simp; rfl])]
@[simp] theorem raiseSwitch_contexts (old new : Option LinkIx) (c : SwitchCause) :
    (raiseSwitch old new c s).contexts = s.contexts := by unfold raiseSwitch; cases new <;> simp
@[simp] theorem raiseSwitch_zu (old new : Option LinkIx) (c : SwitchCause) :
    (raiseSwitch old new c s).zu = s.zu := by unfold raiseSwitch; cases new <;> simp
@[simp] theorem raiseSwitch_ur (old new : Option LinkIx) (c : SwitchCause) :
    (raiseSwitch old new c s).ur = s.ur := by unfold raiseSwitch; cases new <;> simp
@[simp] theorem raiseSwitch_links (old new : Option LinkIx) (c : SwitchCause) :
    (raiseSwitch old new c s).links = s.links := by unfold raiseSwitch; cases new <;> simp
@[simp] theorem raiseSwitch_resetHeld (old new : Option LinkIx) (c : SwitchCause) :
    (raiseSwitch old new c s).resetHeld = s.resetHeld := by unfold raiseSwitch; cases new <;> simp
@[simp] theorem raiseSwitch_pending (old new : Option LinkIx) (c : SwitchCause) :
    (raiseSwitch old new c s).pending = s.pending := by unfold raiseSwitch; cases new <;> simp
@[simp] theorem raiseSwitch_me_clock (old new : Option LinkIx) (c : SwitchCause) :
    (raiseSwitch old new c s).me.clock = s.me.clock := by unfold raiseSwitch; cases new <;> simp
@[simp] theorem raiseSwitch_kept (old new : Option LinkIx) (c : SwitchCause) :
    (raiseSwitch old new c s).kept = s.kept := by unfold raiseSwitch; cases new <;> simp
@[simp] theorem raiseSwitch_cs (old new : Option LinkIx) (c : SwitchCause) :
    (raiseSwitch old new c s).cs = s.cs := by unfold raiseSwitch; cases new <;> simp
@[simp] theorem raiseSwitch_tc_floor (old new : Option LinkIx) (c : SwitchCause) :
    (raiseSwitch old new c s).tc.floor = s.tc.floor := by unfold raiseSwitch; cases new <;> simp
@[simp] theorem raiseSwitch_su_selector (old new : Option LinkIx) (c : SwitchCause) :
    (raiseSwitch old new c s).su.selector = s.su.selector := by unfold raiseSwitch; cases new <;> simp
@[simp] theorem makeSwitch_contexts (c : SwitchCause) (new : Option LinkIx) (w : Su → Su) :
    (makeSwitch c new w s).contexts = s.contexts := by simp [makeSwitch]
@[simp] theorem makeSwitch_zu (c : SwitchCause) (new : Option LinkIx) (w : Su → Su) :
    (makeSwitch c new w s).zu = s.zu := by simp [makeSwitch]
@[simp] theorem makeSwitch_ur (c : SwitchCause) (new : Option LinkIx) (w : Su → Su) :
    (makeSwitch c new w s).ur = s.ur := by simp [makeSwitch]
@[simp] theorem makeSwitch_links (c : SwitchCause) (new : Option LinkIx) (w : Su → Su) :
    (makeSwitch c new w s).links = s.links := by simp [makeSwitch]
@[simp] theorem makeSwitch_resetHeld (c : SwitchCause) (new : Option LinkIx) (w : Su → Su) :
    (makeSwitch c new w s).resetHeld = s.resetHeld := by simp [makeSwitch]
@[simp] theorem makeSwitch_pending (c : SwitchCause) (new : Option LinkIx) (w : Su → Su) :
    (makeSwitch c new w s).pending = s.pending := by simp [makeSwitch]
@[simp] theorem makeSwitch_me_clock (c : SwitchCause) (new : Option LinkIx) (w : Su → Su) :
    (makeSwitch c new w s).me.clock = s.me.clock := by simp [makeSwitch]
@[simp] theorem makeSwitch_kept (c : SwitchCause) (new : Option LinkIx) (w : Su → Su) :
    (makeSwitch c new w s).kept = s.kept := by simp [makeSwitch]; rfl
@[simp] theorem makeSwitch_cs_level (c : SwitchCause) (new : Option LinkIx) (w : Su → Su) :
    (makeSwitch c new w s).cs.level = s.cs.level := by simp [makeSwitch]
@[simp] theorem makeSwitch_cs_grace (c : SwitchCause) (new : Option LinkIx) (w : Su → Su) :
    (makeSwitch c new w s).cs.grace = s.cs.grace := by simp [makeSwitch]
@[simp] theorem makeSwitch_cs_rus (c : SwitchCause) (new : Option LinkIx) (w : Su → Su) :
    (makeSwitch c new w s).cs.rus = s.cs.rus := by simp [makeSwitch]

@[simp] theorem undrain_selector (new : Option LinkIx) (su : Su) :
    (undrain new su).selector = su.selector := by cases new <;> rfl

/-- A switch leaves the selector as its rule writes it, with the switch number counted up (R147). -/
@[simp] theorem makeSwitch_selector (c : SwitchCause) (new : Option LinkIx) (w : Su → Su) :
    (makeSwitch c new w s).su.selector
      = { (w s.su).selector with switchNumber := (w s.su).switchNumber + 1 } := by
  have h := undrain_selector new (w s.su)
  simp only [Su.selector, Selector.mk.injEq] at h
  simp only [makeSwitch, recomputeFloor_su, raiseSwitch_su_selector, settleOld_su_selector,
    offerMarker_su_selector]
  simp [Su.selector, h]

@[simp] theorem makeSwitch_active (c : SwitchCause) (new : Option LinkIx) (w : Su → Su) :
    (makeSwitch c new w s).active = (w s.su).active := by
  have h := makeSwitch_selector s c new w
  simp only [Su.selector, Selector.mk.injEq] at h
  simp [State.active, Su.active, Su.slot, h]

/-- After a switch the floor in force is recomputed (R147, R11). -/
theorem makeSwitch_floor (c : SwitchCause) (new : Option LinkIx) (w : Su → Su) :
    (makeSwitch c new w s).tc.floor = floorOf (makeSwitch c new w s) := by
  unfold makeSwitch
  simp only [recomputeFloor_floor, floorOf_recomputeFloor]

@[simp] theorem commitStage_contexts (k : LinkIx) :
    (commitStage k s).state.contexts = s.contexts := by simp [commitStage]
@[simp] theorem commitStage_zu (k : LinkIx) : (commitStage k s).state.zu = s.zu := by simp [commitStage]
@[simp] theorem commitStage_ur (k : LinkIx) : (commitStage k s).state.ur = s.ur := by simp [commitStage]
@[simp] theorem commitStage_links (k : LinkIx) :
    (commitStage k s).state.links = s.links := by simp [commitStage]
@[simp] theorem commitStage_resetHeld (k : LinkIx) :
    (commitStage k s).state.resetHeld = s.resetHeld := by simp [commitStage]
@[simp] theorem commitStage_pending (k : LinkIx) :
    (commitStage k s).state.pending = s.pending := by simp [commitStage]
@[simp] theorem commitStage_me_clock (k : LinkIx) :
    (commitStage k s).state.me.clock = s.me.clock := by simp [commitStage]
@[simp] theorem commitStage_kept (k : LinkIx) : (commitStage k s).state.kept = s.kept := by simp [commitStage]
@[simp] theorem failover_contexts (c : SwitchCause) :
    (failover c s).state.contexts = s.contexts := by simp [failover]
@[simp] theorem failover_zu (c : SwitchCause) : (failover c s).state.zu = s.zu := by simp [failover]
@[simp] theorem failover_ur (c : SwitchCause) : (failover c s).state.ur = s.ur := by simp [failover]
@[simp] theorem failover_links (c : SwitchCause) : (failover c s).state.links = s.links := by simp [failover]
@[simp] theorem failover_resetHeld (c : SwitchCause) :
    (failover c s).state.resetHeld = s.resetHeld := by simp [failover]
@[simp] theorem failover_pending (c : SwitchCause) :
    (failover c s).state.pending = s.pending := by simp [failover]
@[simp] theorem failover_me_clock (c : SwitchCause) :
    (failover c s).state.me.clock = s.me.clock := by simp [failover]
@[simp] theorem failover_kept (c : SwitchCause) : (failover c s).state.kept = s.kept := by simp [failover]
@[simp] theorem recoveryTest_contexts  :
    (recoveryTest s).state.contexts = s.contexts := by
  unfold recoveryTest; repeat' split
  all_goals simp [unswitched]
@[simp] theorem recoveryTest_zu  :
    (recoveryTest s).state.zu = s.zu := by
  unfold recoveryTest; repeat' split
  all_goals simp [unswitched]
@[simp] theorem recoveryTest_ur  :
    (recoveryTest s).state.ur = s.ur := by
  unfold recoveryTest; repeat' split
  all_goals simp [unswitched]
@[simp] theorem recoveryTest_links  :
    (recoveryTest s).state.links = s.links := by
  unfold recoveryTest; repeat' split
  all_goals simp [unswitched]
@[simp] theorem recoveryTest_resetHeld  :
    (recoveryTest s).state.resetHeld = s.resetHeld := by
  unfold recoveryTest; repeat' split
  all_goals simp [unswitched]
@[simp] theorem recoveryTest_pending  :
    (recoveryTest s).state.pending = s.pending := by
  unfold recoveryTest; repeat' split
  all_goals simp [unswitched]
@[simp] theorem recoveryTest_me_clock  :
    (recoveryTest s).state.me.clock = s.me.clock := by
  unfold recoveryTest; repeat' split
  all_goals simp [unswitched]
@[simp] theorem recoveryTest_kept  :
    (recoveryTest s).state.kept = s.kept := by
  unfold recoveryTest; repeat' split
  all_goals simp [unswitched]
@[simp] theorem commitWaiting_contexts  :
    (commitWaiting s).state.contexts = s.contexts := by
  unfold commitWaiting; repeat' split
  all_goals simp [unswitched]
@[simp] theorem commitWaiting_zu  :
    (commitWaiting s).state.zu = s.zu := by
  unfold commitWaiting; repeat' split
  all_goals simp [unswitched]
@[simp] theorem commitWaiting_ur  :
    (commitWaiting s).state.ur = s.ur := by
  unfold commitWaiting; repeat' split
  all_goals simp [unswitched]
@[simp] theorem commitWaiting_links  :
    (commitWaiting s).state.links = s.links := by
  unfold commitWaiting; repeat' split
  all_goals simp [unswitched]
@[simp] theorem commitWaiting_resetHeld  :
    (commitWaiting s).state.resetHeld = s.resetHeld := by
  unfold commitWaiting; repeat' split
  all_goals simp [unswitched]
@[simp] theorem commitWaiting_pending  :
    (commitWaiting s).state.pending = s.pending := by
  unfold commitWaiting; repeat' split
  all_goals simp [unswitched]
@[simp] theorem commitWaiting_me_clock  :
    (commitWaiting s).state.me.clock = s.me.clock := by
  unfold commitWaiting; repeat' split
  all_goals simp [unswitched]
@[simp] theorem commitWaiting_kept  :
    (commitWaiting s).state.kept = s.kept := by
  unfold commitWaiting; repeat' split
  all_goals simp [unswitched]
@[simp] theorem suZoneChanged_contexts  :
    (suZoneChanged s).state.contexts = s.contexts := by
  unfold suZoneChanged; repeat' split
  all_goals simp
@[simp] theorem suZoneChanged_zu  :
    (suZoneChanged s).state.zu = s.zu := by
  unfold suZoneChanged; repeat' split
  all_goals simp
@[simp] theorem suZoneChanged_ur  :
    (suZoneChanged s).state.ur = s.ur := by
  unfold suZoneChanged; repeat' split
  all_goals simp
@[simp] theorem suZoneChanged_links  :
    (suZoneChanged s).state.links = s.links := by
  unfold suZoneChanged; repeat' split
  all_goals simp
@[simp] theorem suZoneChanged_resetHeld  :
    (suZoneChanged s).state.resetHeld = s.resetHeld := by
  unfold suZoneChanged; repeat' split
  all_goals simp
@[simp] theorem suZoneChanged_pending  :
    (suZoneChanged s).state.pending = s.pending := by
  unfold suZoneChanged; repeat' split
  all_goals simp
@[simp] theorem suZoneChanged_me_clock  :
    (suZoneChanged s).state.me.clock = s.me.clock := by
  unfold suZoneChanged; repeat' split
  all_goals simp
@[simp] theorem suZoneChanged_kept  :
    (suZoneChanged s).state.kept = s.kept := by
  unfold suZoneChanged; repeat' split
  all_goals simp
@[simp] theorem fireTrigger_contexts  :
    (fireTrigger s).state.contexts = s.contexts := by
  unfold fireTrigger; split
  · simp
  · rfl
@[simp] theorem fireTrigger_zu  :
    (fireTrigger s).state.zu = s.zu := by
  unfold fireTrigger; split
  · simp
  · rfl
@[simp] theorem fireTrigger_ur  :
    (fireTrigger s).state.ur = s.ur := by
  unfold fireTrigger; split
  · simp
  · rfl
@[simp] theorem fireTrigger_links  :
    (fireTrigger s).state.links = s.links := by
  unfold fireTrigger; split
  · simp
  · rfl
@[simp] theorem fireTrigger_resetHeld  :
    (fireTrigger s).state.resetHeld = s.resetHeld := by
  unfold fireTrigger; split
  · simp
  · rfl
@[simp] theorem fireTrigger_pending  :
    (fireTrigger s).state.pending = s.pending := by
  unfold fireTrigger; split
  · simp
  · rfl
@[simp] theorem fireTrigger_me_clock  :
    (fireTrigger s).state.me.clock = s.me.clock := by
  unfold fireTrigger; split
  · simp
  · rfl
@[simp] theorem fireTrigger_kept  :
    (fireTrigger s).state.kept = s.kept := by
  unfold fireTrigger; split
  · simp
  · rfl

/-- What a block's handling and the hand-over keep, the handling with its hand-over keeps. -/
theorem tellCs_keeps {α : Type} (look : State → α) (r : Steered)
    (hc : ∀ g sw s, look (csHandover g sw s) = look s) : look (tellCs r) = look r.state := by
  unfold tellCs
  split
  · rfl
  · exact hc _ _ _

theorem steerIf_keeps {α : Type} (look : State → α) (c : Bool) (f : State → Steered)
    (hc : ∀ g sw s, look (csHandover g sw s) = look s) (hf : look (f s).state = look s) :
    look (steerIf c f s) = look s := by
  unfold steerIf
  split
  · rw [tellCs_keeps look _ hc, hf]
  · rfl

@[simp] theorem failoverRow_contexts (k : LinkIx) :
    (failoverRow k s).contexts = s.contexts := steerIf_keeps s (·.contexts) _ _ (fun g w s => csHandover_contexts s g w) (failover_contexts s .failover)
@[simp] theorem failoverRow_zu (k : LinkIx) :
    (failoverRow k s).zu = s.zu := steerIf_keeps s (·.zu) _ _ (fun g w s => csHandover_zu s g w) (failover_zu s .failover)
@[simp] theorem failoverRow_ur (k : LinkIx) :
    (failoverRow k s).ur = s.ur := steerIf_keeps s (·.ur) _ _ (fun g w s => csHandover_ur s g w) (failover_ur s .failover)
@[simp] theorem failoverRow_links (k : LinkIx) :
    (failoverRow k s).links = s.links := steerIf_keeps s (·.links) _ _ (fun g w s => csHandover_links s g w) (failover_links s .failover)
@[simp] theorem failoverRow_resetHeld (k : LinkIx) :
    (failoverRow k s).resetHeld = s.resetHeld := steerIf_keeps s (·.resetHeld) _ _ (fun g w s => csHandover_resetHeld s g w) (failover_resetHeld s .failover)
@[simp] theorem failoverRow_pending (k : LinkIx) :
    (failoverRow k s).pending = s.pending := steerIf_keeps s (·.pending) _ _ (fun g w s => csHandover_pending s g w) (failover_pending s .failover)
@[simp] theorem failoverRow_me_clock (k : LinkIx) :
    (failoverRow k s).me.clock = s.me.clock := steerIf_keeps s (·.me.clock) _ _ (fun g w s => csHandover_me_clock s g w) (failover_me_clock s .failover)
@[simp] theorem failoverRow_kept (k : LinkIx) :
    (failoverRow k s).kept = s.kept := steerIf_keeps s (·.kept) _ _ (fun g w s => csHandover_kept s g w) (failover_kept s .failover)
@[simp] theorem stageRow_contexts (k : LinkIx) :
    (stageRow k s).contexts = s.contexts := steerIf_keeps s (·.contexts) _ _ (fun g w s => csHandover_contexts s g w) (commitStage_contexts s k)
@[simp] theorem stageRow_zu (k : LinkIx) :
    (stageRow k s).zu = s.zu := steerIf_keeps s (·.zu) _ _ (fun g w s => csHandover_zu s g w) (commitStage_zu s k)
@[simp] theorem stageRow_ur (k : LinkIx) :
    (stageRow k s).ur = s.ur := steerIf_keeps s (·.ur) _ _ (fun g w s => csHandover_ur s g w) (commitStage_ur s k)
@[simp] theorem stageRow_links (k : LinkIx) :
    (stageRow k s).links = s.links := steerIf_keeps s (·.links) _ _ (fun g w s => csHandover_links s g w) (commitStage_links s k)
@[simp] theorem stageRow_resetHeld (k : LinkIx) :
    (stageRow k s).resetHeld = s.resetHeld := steerIf_keeps s (·.resetHeld) _ _ (fun g w s => csHandover_resetHeld s g w) (commitStage_resetHeld s k)
@[simp] theorem stageRow_pending (k : LinkIx) :
    (stageRow k s).pending = s.pending := steerIf_keeps s (·.pending) _ _ (fun g w s => csHandover_pending s g w) (commitStage_pending s k)
@[simp] theorem stageRow_me_clock (k : LinkIx) :
    (stageRow k s).me.clock = s.me.clock := steerIf_keeps s (·.me.clock) _ _ (fun g w s => csHandover_me_clock s g w) (commitStage_me_clock s k)
@[simp] theorem stageRow_kept (k : LinkIx) :
    (stageRow k s).kept = s.kept := steerIf_keeps s (·.kept) _ _ (fun g w s => csHandover_kept s g w) (commitStage_kept s k)
@[simp] theorem recoveryRow_contexts (k : LinkIx) :
    (recoveryRow k s).contexts = s.contexts := steerIf_keeps s (·.contexts) _ _ (fun g w s => csHandover_contexts s g w) (recoveryTest_contexts s)
@[simp] theorem recoveryRow_zu (k : LinkIx) :
    (recoveryRow k s).zu = s.zu := steerIf_keeps s (·.zu) _ _ (fun g w s => csHandover_zu s g w) (recoveryTest_zu s)
@[simp] theorem recoveryRow_ur (k : LinkIx) :
    (recoveryRow k s).ur = s.ur := steerIf_keeps s (·.ur) _ _ (fun g w s => csHandover_ur s g w) (recoveryTest_ur s)
@[simp] theorem recoveryRow_links (k : LinkIx) :
    (recoveryRow k s).links = s.links := steerIf_keeps s (·.links) _ _ (fun g w s => csHandover_links s g w) (recoveryTest_links s)
@[simp] theorem recoveryRow_resetHeld (k : LinkIx) :
    (recoveryRow k s).resetHeld = s.resetHeld := steerIf_keeps s (·.resetHeld) _ _ (fun g w s => csHandover_resetHeld s g w) (recoveryTest_resetHeld s)
@[simp] theorem recoveryRow_pending (k : LinkIx) :
    (recoveryRow k s).pending = s.pending := steerIf_keeps s (·.pending) _ _ (fun g w s => csHandover_pending s g w) (recoveryTest_pending s)
@[simp] theorem recoveryRow_me_clock (k : LinkIx) :
    (recoveryRow k s).me.clock = s.me.clock := steerIf_keeps s (·.me.clock) _ _ (fun g w s => csHandover_me_clock s g w) (recoveryTest_me_clock s)
@[simp] theorem recoveryRow_kept (k : LinkIx) :
    (recoveryRow k s).kept = s.kept := steerIf_keeps s (·.kept) _ _ (fun g w s => csHandover_kept s g w) (recoveryTest_kept s)
@[simp] theorem floorRow_contexts (k : LinkIx) :
    (floorRow k s).contexts = s.contexts := by unfold floorRow; split <;> rfl
@[simp] theorem floorRow_zu (k : LinkIx) : (floorRow k s).zu = s.zu := by unfold floorRow; split <;> rfl
@[simp] theorem floorRow_ur (k : LinkIx) : (floorRow k s).ur = s.ur := by unfold floorRow; split <;> rfl
@[simp] theorem floorRow_links (k : LinkIx) :
    (floorRow k s).links = s.links := by unfold floorRow; split <;> rfl
@[simp] theorem floorRow_resetHeld (k : LinkIx) :
    (floorRow k s).resetHeld = s.resetHeld := by unfold floorRow; split <;> rfl
@[simp] theorem floorRow_pending (k : LinkIx) :
    (floorRow k s).pending = s.pending := by unfold floorRow; split <;> rfl
@[simp] theorem floorRow_me_clock (k : LinkIx) :
    (floorRow k s).me.clock = s.me.clock := by unfold floorRow; split <;> rfl
@[simp] theorem floorRow_kept (k : LinkIx) : (floorRow k s).kept = s.kept := by unfold floorRow; split <;> rfl
@[simp] theorem drainRow_contexts (k : LinkIx) :
    (drainRow k s).contexts = s.contexts := by
  unfold drainRow; split
  · simp
  · rfl
@[simp] theorem drainRow_zu (k : LinkIx) :
    (drainRow k s).zu = s.zu := by
  unfold drainRow; split
  · simp
  · rfl
@[simp] theorem drainRow_ur (k : LinkIx) :
    (drainRow k s).ur = s.ur := by
  unfold drainRow; split
  · simp
  · rfl
@[simp] theorem drainRow_links (k : LinkIx) :
    (drainRow k s).links = s.links := by
  unfold drainRow; split
  · simp
  · rfl
@[simp] theorem drainRow_resetHeld (k : LinkIx) :
    (drainRow k s).resetHeld = s.resetHeld := by
  unfold drainRow; split
  · simp
  · rfl
@[simp] theorem drainRow_pending (k : LinkIx) :
    (drainRow k s).pending = s.pending := by
  unfold drainRow; split
  · simp
  · rfl
@[simp] theorem drainRow_me_clock (k : LinkIx) :
    (drainRow k s).me.clock = s.me.clock := by
  unfold drainRow; split
  · simp
  · rfl
@[simp] theorem drainRow_kept (k : LinkIx) :
    (drainRow k s).kept = s.kept := by
  unfold drainRow; split
  · simp; rfl
  · rfl
@[simp] theorem suLinkChanged_contexts (k : LinkIx) :
    (suLinkChanged k s).contexts = s.contexts := by simp [suLinkChanged]
@[simp] theorem suLinkChanged_zu (k : LinkIx) : (suLinkChanged k s).zu = s.zu := by simp [suLinkChanged]
@[simp] theorem suLinkChanged_ur (k : LinkIx) : (suLinkChanged k s).ur = s.ur := by simp [suLinkChanged]
@[simp] theorem suLinkChanged_links (k : LinkIx) :
    (suLinkChanged k s).links = s.links := by simp [suLinkChanged]
@[simp] theorem suLinkChanged_resetHeld (k : LinkIx) :
    (suLinkChanged k s).resetHeld = s.resetHeld := by simp [suLinkChanged]
@[simp] theorem suLinkChanged_pending (k : LinkIx) :
    (suLinkChanged k s).pending = s.pending := by simp [suLinkChanged]
@[simp] theorem suLinkChanged_me_clock (k : LinkIx) :
    (suLinkChanged k s).me.clock = s.me.clock := by simp [suLinkChanged]
@[simp] theorem suLinkChanged_kept (k : LinkIx) : (suLinkChanged k s).kept = s.kept := by simp [suLinkChanged]
@[simp] theorem triggerMoment_contexts (t : Trigger) :
    (triggerMoment t s).contexts = s.contexts := by
  unfold triggerMoment; split
  · exact steerIf_keeps s (·.contexts) _ _ (fun g w s => csHandover_contexts s g w) (fireTrigger_contexts s)
  · rfl
@[simp] theorem triggerMoment_zu (t : Trigger) :
    (triggerMoment t s).zu = s.zu := by
  unfold triggerMoment; split
  · exact steerIf_keeps s (·.zu) _ _ (fun g w s => csHandover_zu s g w) (fireTrigger_zu s)
  · rfl
@[simp] theorem triggerMoment_ur (t : Trigger) :
    (triggerMoment t s).ur = s.ur := by
  unfold triggerMoment; split
  · exact steerIf_keeps s (·.ur) _ _ (fun g w s => csHandover_ur s g w) (fireTrigger_ur s)
  · rfl
@[simp] theorem triggerMoment_links (t : Trigger) :
    (triggerMoment t s).links = s.links := by
  unfold triggerMoment; split
  · exact steerIf_keeps s (·.links) _ _ (fun g w s => csHandover_links s g w) (fireTrigger_links s)
  · rfl
@[simp] theorem triggerMoment_resetHeld (t : Trigger) :
    (triggerMoment t s).resetHeld = s.resetHeld := by
  unfold triggerMoment; split
  · exact steerIf_keeps s (·.resetHeld) _ _ (fun g w s => csHandover_resetHeld s g w) (fireTrigger_resetHeld s)
  · rfl
@[simp] theorem triggerMoment_pending (t : Trigger) :
    (triggerMoment t s).pending = s.pending := by
  unfold triggerMoment; split
  · exact steerIf_keeps s (·.pending) _ _ (fun g w s => csHandover_pending s g w) (fireTrigger_pending s)
  · rfl
@[simp] theorem triggerMoment_me_clock (t : Trigger) :
    (triggerMoment t s).me.clock = s.me.clock := by
  unfold triggerMoment; split
  · exact steerIf_keeps s (·.me.clock) _ _ (fun g w s => csHandover_me_clock s g w) (fireTrigger_me_clock s)
  · rfl
@[simp] theorem triggerMoment_kept (t : Trigger) :
    (triggerMoment t s).kept = s.kept := by
  unfold triggerMoment; split
  · exact steerIf_keeps s (·.kept) _ _ (fun g w s => csHandover_kept s g w) (fireTrigger_kept s)
  · rfl

/-! ### Zones (R57) -/

@[simp] theorem enterZone_contexts (d : ZoneIx) : (enterZone d s).contexts = s.contexts := by simp [enterZone]
@[simp] theorem enterZone_ur (d : ZoneIx) : (enterZone d s).ur = s.ur := by simp [enterZone]
@[simp] theorem enterZone_links (d : ZoneIx) : (enterZone d s).links = s.links := by simp [enterZone]
@[simp] theorem enterZone_resetHeld (d : ZoneIx) :
    (enterZone d s).resetHeld = s.resetHeld := by simp [enterZone]
@[simp] theorem enterZone_pending (d : ZoneIx) : (enterZone d s).pending = s.pending := by simp [enterZone]
@[simp] theorem enterZone_cs (d : ZoneIx) : (enterZone d s).cs = s.cs := by simp [enterZone]
@[simp] theorem enterZone_me_clock (d : ZoneIx) : (enterZone d s).me.clock = s.me.clock := by simp [enterZone]
@[simp] theorem enterZone_su_selector (d : ZoneIx) :
    (enterZone d s).su.selector = s.su.selector := by simp [enterZone]

/-- Steps 1 to 4 of a zone change (R57). -/
@[simp] theorem enterZone_zu (d : ZoneIx) :
    (enterZone d s).zu
      = { s.zu with
          zoneIx := d, zone := s.zu.table[d], gen := s.zu.gen + 1
          gate := gateOf s.zu.table[d].entryKind } := by
  simp [enterZone]

/-- A zone change leaves ZU as its steps 1 to 4 do: SU and CS touch nothing of ZU (R57). -/
@[simp] theorem zoneChange_zu (d : ZoneIx) :
    (zoneChange d s).zu
      = { s.zu with
          zoneIx := d, zone := s.zu.table[d], gen := s.zu.gen + 1
          gate := gateOf s.zu.table[d].entryKind } := by
  simp [zoneChange]

@[simp] theorem zoneChange_contexts (d : ZoneIx) :
    (zoneChange d s).contexts = s.contexts := by simp [zoneChange]
@[simp] theorem zoneChange_ur (d : ZoneIx) : (zoneChange d s).ur = s.ur := by simp [zoneChange]
@[simp] theorem zoneChange_links (d : ZoneIx) : (zoneChange d s).links = s.links := by simp [zoneChange]
@[simp] theorem zoneChange_resetHeld (d : ZoneIx) :
    (zoneChange d s).resetHeld = s.resetHeld := by simp [zoneChange]
@[simp] theorem zoneChange_pending (d : ZoneIx) : (zoneChange d s).pending = s.pending := by simp [zoneChange]
@[simp] theorem zoneChange_me_clock (d : ZoneIx) :
    (zoneChange d s).me.clock = s.me.clock := by simp [zoneChange]

/-! ### Links (R129 to R131) -/

/-- The event of a change of health: none where nothing changed, else LINK_DOWN with a fault counted, or
LINK_STATE (R131). -/
theorem healthEvent_cases (k : LinkIx) (before after : Health) :
    (before = after ∧ healthEvent k before after s = s)
    ∨ (isFault before after = true ∧ healthEvent k before after s
        = raise .linkDown (some (.link k)) (s.setLink k { s.link k with faults := (s.link k).faults + 1 }))
    ∨ (before ≠ after ∧ isFault before after = false
        ∧ healthEvent k before after s = raise .linkState (some (.linkState k after)) s) := by
  unfold healthEvent
  by_cases h : before = after
  · exact .inl ⟨h, by simp [h]⟩
  · cases hf : isFault before after with
    | true => exact .inr (.inl ⟨rfl, by simp [h]⟩)
    | false => exact .inr (.inr ⟨h, rfl, by simp [h]⟩)

@[simp] theorem healthEvent_contexts (k : LinkIx) (b a : Health) :
    (healthEvent k b a s).contexts = s.contexts := by
  rcases healthEvent_cases s k b a with ⟨-, e⟩ | ⟨-, e⟩ | ⟨-, -, e⟩ <;> rw [e] <;> simp
@[simp] theorem healthEvent_zu (k : LinkIx) (b a : Health) :
    (healthEvent k b a s).zu = s.zu := by
  rcases healthEvent_cases s k b a with ⟨-, e⟩ | ⟨-, e⟩ | ⟨-, -, e⟩ <;> rw [e] <;> simp
@[simp] theorem healthEvent_ur (k : LinkIx) (b a : Health) :
    (healthEvent k b a s).ur = s.ur := by
  rcases healthEvent_cases s k b a with ⟨-, e⟩ | ⟨-, e⟩ | ⟨-, -, e⟩ <;> rw [e] <;> simp
@[simp] theorem healthEvent_resetHeld (k : LinkIx) (b a : Health) :
    (healthEvent k b a s).resetHeld = s.resetHeld := by
  rcases healthEvent_cases s k b a with ⟨-, e⟩ | ⟨-, e⟩ | ⟨-, -, e⟩ <;> rw [e] <;> simp
@[simp] theorem healthEvent_pending (k : LinkIx) (b a : Health) :
    (healthEvent k b a s).pending = s.pending := by
  rcases healthEvent_cases s k b a with ⟨-, e⟩ | ⟨-, e⟩ | ⟨-, -, e⟩ <;> rw [e] <;> simp
@[simp] theorem healthEvent_cs (k : LinkIx) (b a : Health) :
    (healthEvent k b a s).cs = s.cs := by
  rcases healthEvent_cases s k b a with ⟨-, e⟩ | ⟨-, e⟩ | ⟨-, -, e⟩ <;> rw [e] <;> simp
@[simp] theorem healthEvent_tc_floor (k : LinkIx) (b a : Health) :
    (healthEvent k b a s).tc.floor = s.tc.floor := by
  rcases healthEvent_cases s k b a with ⟨-, e⟩ | ⟨-, e⟩ | ⟨-, -, e⟩ <;> rw [e] <;> simp
@[simp] theorem healthEvent_me_clock (k : LinkIx) (b a : Health) :
    (healthEvent k b a s).me.clock = s.me.clock := by
  rcases healthEvent_cases s k b a with ⟨-, e⟩ | ⟨-, e⟩ | ⟨-, -, e⟩ <;> rw [e] <;> simp
@[simp] theorem healthEvent_kept (k : LinkIx) (b a : Health) :
    (healthEvent k b a s).kept = s.kept := by
  rcases healthEvent_cases s k b a with ⟨-, e⟩ | ⟨-, e⟩ | ⟨-, -, e⟩ <;> rw [e] <;> simp
@[simp] theorem healthEvent_su_selector (k : LinkIx) (b a : Health) :
    (healthEvent k b a s).su.selector = s.su.selector := by
  rcases healthEvent_cases s k b a with ⟨-, e⟩ | ⟨-, e⟩ | ⟨-, -, e⟩ <;> rw [e] <;> simp
@[simp] theorem changeHealth_contexts (k : LinkIx) (h : Health) :
    (changeHealth k h s).contexts = s.contexts := by unfold changeHealth; simp only; split <;> simp
@[simp] theorem changeHealth_zu (k : LinkIx) (h : Health) :
    (changeHealth k h s).zu = s.zu := by unfold changeHealth; simp only; split <;> simp
@[simp] theorem changeHealth_ur (k : LinkIx) (h : Health) :
    (changeHealth k h s).ur = s.ur := by unfold changeHealth; simp only; split <;> simp
@[simp] theorem changeHealth_resetHeld (k : LinkIx) (h : Health) :
    (changeHealth k h s).resetHeld = s.resetHeld := by unfold changeHealth; simp only; split <;> simp
@[simp] theorem changeHealth_pending (k : LinkIx) (h : Health) :
    (changeHealth k h s).pending = s.pending := by unfold changeHealth; simp only; split <;> simp
@[simp] theorem changeHealth_me_clock (k : LinkIx) (h : Health) :
    (changeHealth k h s).me.clock = s.me.clock := by unfold changeHealth; simp only; split <;> simp
@[simp] theorem changeHealth_kept (k : LinkIx) (h : Health) :
    (changeHealth k h s).kept = s.kept := by unfold changeHealth; simp only; split <;> simp

/-! ### Usage (R101 to R104) -/

@[simp] theorem urqEnter_ports (r : Record) : (urqEnter r s).ports = s.ports := rfl
@[simp] theorem urqEnter_tc (r : Record) : (urqEnter r s).tc = s.tc := rfl
@[simp] theorem urqEnter_contexts (r : Record) : (urqEnter r s).contexts = s.contexts := rfl
@[simp] theorem urqEnter_zu (r : Record) : (urqEnter r s).zu = s.zu := rfl
@[simp] theorem urqEnter_links (r : Record) : (urqEnter r s).links = s.links := rfl
@[simp] theorem urqEnter_su (r : Record) : (urqEnter r s).su = s.su := rfl
@[simp] theorem urqEnter_cs (r : Record) : (urqEnter r s).cs = s.cs := rfl
@[simp] theorem urqEnter_me (r : Record) : (urqEnter r s).me = s.me := rfl
@[simp] theorem urqEnter_resetHeld (r : Record) : (urqEnter r s).resetHeld = s.resetHeld := rfl
@[simp] theorem urqEnter_pending (r : Record) : (urqEnter r s).pending = s.pending := rfl
@[simp] theorem urqEnter_ur_outstanding (r : Record) :
    (urqEnter r s).ur.outstanding = s.ur.outstanding := by unfold urqEnter; simp only; split <;> rfl
@[simp] theorem urqEnter_ur_awaiting (r : Record) :
    (urqEnter r s).ur.awaiting = s.ur.awaiting := by unfold urqEnter; simp only; split <;> rfl
@[simp] theorem urqEnter_ur_period (r : Record) :
    (urqEnter r s).ur.period = s.ur.period := by unfold urqEnter; simp only; split <;> rfl
@[simp] theorem urqEnter_ur_sweep (r : Record) :
    (urqEnter r s).ur.sweep = s.ur.sweep := by unfold urqEnter; simp only; split <;> rfl
@[simp] theorem urqEnter_ur_position (r : Record) :
    (urqEnter r s).ur.position = s.ur.position := by unfold urqEnter; simp only; split <;> rfl
@[simp] theorem urqEnter_ur_closing (r : Record) :
    (urqEnter r s).ur.closing = s.ur.closing := by unfold urqEnter; simp only; split <;> rfl
@[simp] theorem urqEnter_ur_collector (r : Record) :
    (urqEnter r s).ur.collector = s.ur.collector := by unfold urqEnter; simp only; split <;> rfl

/-- A record joins the tail of the URQ under the next number of its period (R103). -/
@[simp] theorem urqEnter_urq (r : Record) :
    (urqEnter r s).ur.urq
      = s.ur.urq ++ [{ body := r, number := countUp (accOf s.ur r.period).count }] := by
  unfold urqEnter; simp only; split <;> rfl

@[simp] theorem urqEnter_ctx (r : Record) (i : CtxIx) : (urqEnter r s).ctx i = s.ctx i := by
  simp [State.ctx]
@[simp] theorem urqEnter_urq_length (r : Record) : (urqEnter r s).ur.urq.length = s.ur.urq.length + 1 := by
  simp

/-- The closing rule: into the URQ, into the awaiting slot, or not at all (R101). -/
theorem closeInterval_cases (i : CtxIx) (iv : Interval) :
    let r := recordOf .interval i (s.ctx i) iv
    (s.ur.urq.length < 256 ∧ s.ur.awaiting = []
        ∧ closeInterval i iv s = some (urqEnter r (dropOpen i s)))
    ∨ ((256 ≤ s.ur.urq.length ∨ s.ur.awaiting ≠ []) ∧ (s.ctx i).awaiting = none
        ∧ closeInterval i iv s = some (toAwaiting i r (dropOpen i s)))
    ∨ ((256 ≤ s.ur.urq.length ∨ s.ur.awaiting ≠ []) ∧ (s.ctx i).awaiting ≠ none
        ∧ closeInterval i iv s = none) := by
  unfold closeInterval placing
  by_cases h : s.ur.urq.length < 256 ∧ s.ur.awaiting = []
  · exact .inl ⟨h.1, h.2, by simp [State.urqRoom, urqCapacity, h.1, h.2]⟩
  · have h' : 256 ≤ s.ur.urq.length ∨ s.ur.awaiting ≠ [] := by
      rcases not_and_or.mp h with h | h
      · exact .inl (by omega)
      · exact .inr h
    have hb : (s.urqRoom && s.ur.awaiting.isEmpty) = false := by
      rcases h' with h' | h'
      · have : s.urqRoom = false := decide_eq_false (by simp only [urqCapacity]; omega)
        simp [this]
      · simp [h']
    cases ha : (s.ctx i).awaiting with
    | none => exact .inr (.inl ⟨h', rfl, by simp [hb]⟩)
    | some r => exact .inr (.inr ⟨h', by simp, by simp [hb]⟩)

/-! ### Charging (R70, R80) -/

/-- A barring failure is notified once in a generation (R70). -/
theorem barringFailure_cases (i : CtxIx) :
    ((s.ctx i).notifiedGen = s.zu.gen ∧ barringFailure i s = s)
    ∨ ((s.ctx i).notifiedGen ≠ s.zu.gen
        ∧ barringFailure i s
          = sendBearerNotice i { s.ctx i with notifiedGen := s.zu.gen }
              (.barred s.zu.zone.realm s.zu.gen)
              (s.setCtx i { s.ctx i with notifiedGen := s.zu.gen })) := by
  unfold barringFailure
  by_cases h : (s.ctx i).notifiedGen = s.zu.gen
  · exact .inl ⟨h, by simp [h]⟩
  · exact .inr ⟨h, by simp [h]⟩

/-- A refusal by the shared checks on a named context, or the command's own part (R29). -/
theorem named_cases (n : CtxName) (f : CtxIx → Context → State → Reply × State) :
    (4096 ≤ n.index.toNat ∧ named n f s = refused .badArgument s)
    ∨ ∃ i : CtxIx, n.index.toNat = i.val
      ∧ ((((s.ctx i).state = .free ∨ (s.ctx i).incarnation ≠ n.incarnation)
            ∧ named n f s = refused .notFound s)
        ∨ (Names s n i ∧ named n f s = f i (s.ctx i) s)) := by
  unfold named
  by_cases h : n.index.toNat < 4096
  · refine .inr ⟨⟨_, h⟩, rfl, ?_⟩
    rw [inRange_of_lt h]
    simp only
    by_cases hs : (s.ctx ⟨_, h⟩).state = .free
    · exact .inl ⟨.inl hs, by simp [hs]⟩
    by_cases hi : (s.ctx ⟨_, h⟩).incarnation = n.incarnation
    · exact .inr ⟨⟨rfl, hs, hi⟩, by simp [hs, hi]⟩
    · exact .inl ⟨.inr hi, by simp [hi]⟩
  · exact .inl ⟨by omega, by rw [inRange_of_le (by omega)]⟩

/-- A named context that exists in its incarnation is handed to the command (R29). -/
theorem named_of_names {n : CtxName} {i : CtxIx} (f : CtxIx → Context → State → Reply × State)
    (h : Names s n i) : named n f s = f i (s.ctx i) s := by
  simp [named, inRange_of_eq i h.1, h.2.1, h.2.2]

end Sys2Proof.Machine
end

