-- ==== Sys2Proof/Laws/Bytes.lean ====
section
/-! SUPPORT. Numbers as bytes and back (R185, R186), and a request spelled by its command code and items. -/

namespace Sys2Proof.Machine

@[simp] theorem beBytes_length (n x : Nat) : (beBytes n x).length = n := by
  induction n with
  | zero => rfl
  | succ n ih => simp [beBytes, ih]

@[simp] theorem ofBytes_nil : ofBytes [] = 0 := rfl
@[simp] theorem ofBytes_singleton (b : Byte) : ofBytes [b] = b.toNat := by simp [ofBytes]

/-- Bytes before others count for more. -/
theorem ofBytes_append (a b : List Byte) : ofBytes (a ++ b) = ofBytes a * 256 ^ b.length + ofBytes b := by
  have from_ : ∀ (b : List Byte) (n : Nat), b.foldl (fun a b => a * 256 + b.toNat) n
      = n * 256 ^ b.length + b.foldl (fun a b => a * 256 + b.toNat) 0 := by
    intro b
    induction b with
    | nil => intro n; simp
    | cons x b ih =>
      intro n
      rw [List.foldl_cons, List.foldl_cons, List.length_cons, ih, ih (0 * 256 + x.toNat)]
      ring
  unfold ofBytes
  rw [List.foldl_append, from_]

/-- The low bytes of a number spell what they hold of it. -/
theorem ofBytes_beBytes (n x : Nat) : ofBytes (beBytes n x) = x % 256 ^ n := by
  induction n with
  | zero => simp [beBytes, Nat.mod_one]
  | succ n ih =>
    have : beBytes (n + 1) x = [BitVec.ofNat 8 (x / 256 ^ n)] ++ beBytes n x := rfl
    rw [this, ofBytes_append, ih, beBytes_length, ofBytes_singleton, Nat.pow_succ, Nat.mod_mul]
    simp
    ring

/-- A number of `8 * n` bits is read back from its `n` bytes. -/
theorem ofNat_ofBytes_beBytes (n : Nat) (x : BitVec (8 * n)) :
    BitVec.ofNat (8 * n) (ofBytes (beBytes n x.toNat)) = x := by
  have : (256 : Nat) ^ n = 2 ^ (8 * n) := by rw [pow_mul]; norm_num
  rw [ofBytes_beBytes, Nat.mod_eq_of_lt (this ▸ x.isLt)]
  simp

/-! ### The number in some bytes of a frame (R185) -/

/-- Bytes before the field are passed over. -/
theorem field_skip (a b : List Byte) (i n : Nat) (h : a.length ≤ i) :
    field (a ++ b) i n = field b (i - a.length) n := by
  unfold field; rw [List.drop_append, List.drop_of_length_le h]; rfl

/-- A field at the start of the bytes. -/
theorem field_first (a b : List Byte) (n : Nat) (h : a.length = n) : field (a ++ b) 0 n = ofBytes a := by
  unfold field; rw [List.drop_zero, ← h, List.take_left]

theorem field_skip_beBytes (m x : Nat) (b : List Byte) (i n : Nat) (h : m ≤ i) :
    field (beBytes m x ++ b) i n = field b (i - m) n := by
  rw [field_skip _ _ _ _ (by simpa using h), beBytes_length]

theorem field_first_beBytes (n x : Nat) (b : List Byte) : field (beBytes n x ++ b) 0 n = x % 256 ^ n := by
  rw [field_first _ _ _ (by simp), ofBytes_beBytes]

/-! ### A request spelled by its command code and items (R173, R186) -/

/-- A known command code whose items pass check 4 acts as its command (R173, R186). -/
theorem exec_badCommand_known (s : State) (rq : Request) (code : Byte) (xs : List Item) (cmd : Command)
    (hc : commandOf code = some cmd) (ha : argsOk cmd xs = true) :
    exec (.badCommand rq code xs) s = .next (ask rq cmd (bodyOf rq.port xs cmd) s) := by
  have : meRequest rq code xs = handle rq cmd (bodyOf rq.port xs cmd) := by
    funext t; simp only [meRequest, hc, ha, Bool.and_true]
  simp only [exec, execBadCommand, ask, this]

/-- One whose items fail check 4 acts as its command with the check failed (R173, R186). -/
theorem exec_badCommand_misspelled (s : State) (rq : Request) (code : Byte) (xs : List Item) (cmd : Command)
    (hc : commandOf code = some cmd) (ha : argsOk cmd xs = false) :
    exec (.badCommand rq code xs) s
      = .next (ask { rq with itemsOk := false } cmd (bodyOf rq.port xs cmd) s) := by
  have : meRequest rq code xs = handle { rq with itemsOk := false } cmd (bodyOf rq.port xs cmd) := by
    funext t; simp only [meRequest, hc, ha, Bool.and_false]
  simp only [exec, execBadCommand, ask, this]
  rfl

end Sys2Proof.Machine
end

