-- ==== Sys2Proof/Laws/Contexts.lean ====
section
/-! SUPPORT. What reading the values of a Modify Context gives, in the terms of Safety.lean (R32, R186). -/

namespace Sys2Proof.Machine

/-- Members of a set as read: those given, ascending (R186). -/
theorem readRoamSet_iff (bs : List Byte) (rs : List Realm) : readRoamSet bs = some rs ↔
    (∀ b ∈ bs, b.toNat ≠ 0 ∧ b.toNat ≤ 15) ∧ rs.Pairwise (· < ·) ∧ ∀ r, r ∈ rs ↔ ∃ b ∈ bs, b.toNat = r.val := by
  have hm : ∀ r : Realm, r ∈ ((List.finRange 16).filter fun i => bs.any fun b => b.toNat == i.val)
      ↔ ∃ b ∈ bs, b.toNat = r.val := by simp
  have hp : ((List.finRange 16).filter fun i => bs.any fun b => b.toNat == i.val).Pairwise (· < ·) :=
    List.Pairwise.filter _ (List.pairwise_lt_finRange 16)
  have hc : readRoamSet bs = if ∀ b ∈ bs, b.toNat ≠ 0 ∧ b.toNat ≤ 15 then
      some ((List.finRange 16).filter fun i => bs.any fun b => b.toNat == i.val) else none := by
    unfold readRoamSet readSet
    by_cases h0 : ∃ b ∈ bs, b.toNat = 0
    · rw [if_pos (by simpa using h0), if_neg fun h => by obtain ⟨b, hb, e⟩ := h0; exact (h b hb).1 e]
    · rw [if_neg (by simpa using h0)]
      by_cases h1 : ∀ b ∈ bs, b.toNat < 16
      · rw [if_pos (by simpa using h1), if_pos fun b hb => ⟨fun e => h0 ⟨b, hb, e⟩, by have := h1 b hb; omega⟩]
      · rw [if_neg (by simpa using h1), if_neg fun h => h1 fun b hb => by have := (h b hb).2; omega]
  rw [hc]
  constructor
  · intro h
    split at h
    · next h0 => cases h; exact ⟨h0, hp, hm⟩
    · cases h
  · rintro ⟨h0, h1, h2⟩
    rw [if_pos h0]
    have : ((List.finRange 16).filter fun i => bs.any fun b => b.toNat == i.val) = rs :=
      List.Perm.eq_of_pairwise (le := (· < ·)) (fun a b _ _ h h' => absurd h (lt_asymm h')) hp h1
        ((List.perm_ext_iff_of_nodup hp.nodup h1.nodup).mpr fun r => (hm r).trans (h2 r).symm)
    rw [this]

/-- A value read where it is given. -/
theorem readOpt_iff {α β : Type} (f : α → Option β) (x : Option α) (y : Option β) :
    readOpt f x = some y ↔ (x = none ∧ y = none) ∨ ∃ a b, x = some a ∧ y = some b ∧ f a = some b := by
  cases x with
  | none => cases y <;> simp [readOpt]
  | some a =>
    cases h : f a <;> cases y <;> simp [readOpt, h]

/-- A class given is taken as its number. -/
theorem readOpt_class (x : Option Byte) (y : Option Floor) : readOpt readClass x = some y ↔
    (¬ ∃ b, x = some b ∧ (b.toNat = 0 ∨ 7 < b.toNat)) ∧ y.map Fin.val = x.map BitVec.toNat := by
  cases x with
  | none => cases y <;> simp [readOpt]
  | some b =>
    by_cases h : b.toNat = 0 ∨ 7 < b.toNat
    · have : readClass b = none := by
        unfold readClass; split
        · rfl
        · exact inRange_of_le (by omega)
      simp [readOpt, this, h]
    · have : readClass b = some ⟨b.toNat, by omega⟩ := by
        unfold readClass; rw [if_neg (by omega)]; exact inRange_of_lt _
      cases y <;> (simp [readOpt, this, Fin.ext_iff, eq_comm]; try omega)

/-- An index given is taken as its number. -/
theorem readOpt_inRange {n : Nat} (x : Option Byte) (y : Option (Fin n)) :
    readOpt (fun b : Byte => inRange n b.toNat) x = some y ↔
      (¬ ∃ b, x = some b ∧ n ≤ b.toNat) ∧ y.map Fin.val = x.map BitVec.toNat := by
  cases x with
  | none => cases y <;> simp [readOpt]
  | some b =>
    by_cases h : n ≤ b.toNat
    · have : inRange n b.toNat = none := inRange_of_le h
      simp [readOpt, this, h]
    · have : inRange n b.toNat = some ⟨b.toNat, by omega⟩ := inRange_of_lt _
      cases y <;> simp [readOpt, this, h, Fin.ext_iff, eq_comm]

/-- A limit mode given is taken by its code. -/
theorem readOpt_limitMode (x : Option Byte) (y : Option LimitMode) : readOpt readLimitMode x = some y ↔
    (¬ ∃ b, x = some b ∧ 1 < b.toNat) ∧ y.map LimitMode.code = x.map BitVec.toNat := by
  cases x with
  | none => cases y <;> simp [readOpt]
  | some b =>
    unfold readOpt readLimitMode
    rcases hb : b.toNat with _ | _ | n
    · rcases y with _ | _ | _ <;> simp [hb, LimitMode.code]
    · rcases y with _ | _ | _ <;> simp [hb, LimitMode.code]
    · simp [hb]

/-- A roam set given is taken as its members in ascending order. -/
theorem readOpt_roam (x : Option (List Byte)) (y : Option (List Realm)) : readOpt readRoamArg x = some y ↔
    (¬ ∃ bs, x = some bs ∧ (15 < bs.length ∨ ∃ b ∈ bs, b.toNat = 0 ∨ 15 < b.toNat))
    ∧ (x = none → y = none)
    ∧ ∀ bs, x = some bs → ∃ rs, y = some rs ∧ rs.Pairwise (· < ·) ∧ ∀ r, r ∈ rs ↔ ∃ b ∈ bs, b.toNat = r.val := by
  cases x with
  | none => cases y <;> simp [readOpt]
  | some bs =>
    rw [readOpt_iff]
    simp only [reduceCtorEq, false_and, false_or, Option.some.injEq, exists_eq_left', IsEmpty.forall_iff, true_and,
      forall_eq']
    constructor
    · rintro ⟨_, rs, rfl, rfl, h⟩
      unfold readRoamArg at h
      split at h
      · cases h
      · next hl =>
        obtain ⟨h0, h1, h2⟩ := (readRoamSet_iff _ _).mp h
        refine ⟨?_, rs, rfl, h1, h2⟩
        rintro (c | ⟨b, hb, c | c⟩)
        · exact hl c
        · exact (h0 b hb).1 c
        · exact absurd (h0 b hb).2 (by omega)
    · rintro ⟨h0, rs, rfl, h1, h2⟩
      refine ⟨bs, rs, rfl, rfl, ?_⟩
      unfold readRoamArg
      rw [if_neg fun c => h0 (.inl c)]
      exact (readRoamSet_iff _ _).mpr ⟨fun b hb => ⟨fun c => h0 (.inr ⟨b, hb, .inl c⟩),
        not_lt.mp fun c => h0 (.inr ⟨b, hb, .inr c⟩)⟩, h1, h2⟩

/-- The values a Modify Context gives are those its reader takes (R32). -/
theorem modifyValues_iff (a : ModifyArgs) (v : ModifyValues) : modifyValues a = some v ↔ GivesValues a v := by
  have h : modifyValues a = some v ↔ readOpt readClass a.cls = some v.cls
      ∧ readOpt (fun b : Byte => inRange 4 b.toNat) a.plan = some v.plan
      ∧ readOpt (fun b : Byte => inRange 16 b.toNat) a.homeRealm = some v.homeRealm
      ∧ readOpt readRoamArg a.roamSet = some v.roamSet
      ∧ readOpt readLimitMode a.limitMode = some v.limitMode := by
    unfold modifyValues
    obtain ⟨v1, v2, v3, v4, v5⟩ := v
    cases readOpt readClass a.cls <;> cases readOpt (fun b : Byte => inRange 4 b.toNat) a.plan <;>
      cases readOpt (fun b : Byte => inRange 16 b.toNat) a.homeRealm <;>
      cases readOpt readRoamArg a.roamSet <;> cases readOpt readLimitMode a.limitMode <;> simp
  rw [h, readOpt_class, readOpt_inRange, readOpt_inRange, readOpt_roam, readOpt_limitMode]
  simp only [GivesValues, Unlisted, not_or, Nat.succ_le_iff]
  tauto

/-- A value given that its reader refuses. -/
theorem readOpt_none_iff {α β : Type} (f : α → Option β) (x : Option α) :
    readOpt f x = none ↔ ∃ a, x = some a ∧ f a = none := by
  cases x with
  | none => simp [readOpt]
  | some a => cases h : f a <;> simp [readOpt, h]

/-- The values of a Modify Context are refused where one is unlisted, and only there (R32). -/
theorem modifyValues_none_iff (a : ModifyArgs) : modifyValues a = none ↔ Unlisted a := by
  refine ⟨fun h => ?_, fun h => ?_⟩
  · by_contra hu
    simp only [Unlisted, not_or] at hu
    obtain ⟨h1, h2, h3, h4, h5⟩ := hu
    have e1 : readOpt readClass a.cls ≠ none := fun e => by
      obtain ⟨b, hb, e⟩ := (readOpt_none_iff _ _).mp e
      refine h1 ⟨b, hb, ?_⟩
      unfold readClass at e
      split at e
      · next h => exact .inl h
      · by_contra c; rw [inRange_of_lt (by omega)] at e; cases e
    have e2 : readOpt (fun b : Byte => inRange 4 b.toNat) a.plan ≠ none := fun e => by
      obtain ⟨b, hb, e⟩ := (readOpt_none_iff _ _).mp e
      exact h2 ⟨b, hb, by by_contra c; rw [inRange_of_lt (by omega)] at e; cases e⟩
    have e3 : readOpt (fun b : Byte => inRange 16 b.toNat) a.homeRealm ≠ none := fun e => by
      obtain ⟨b, hb, e⟩ := (readOpt_none_iff _ _).mp e
      exact h3 ⟨b, hb, by by_contra c; rw [inRange_of_lt (by omega)] at e; cases e⟩
    have e4 : readOpt readRoamArg a.roamSet ≠ none := fun e => by
      obtain ⟨bs, hb, e⟩ := (readOpt_none_iff _ _).mp e
      refine h4 ⟨bs, hb, ?_⟩
      by_contra c
      simp only [not_or, not_lt, not_exists, not_and] at c
      rw [readRoamArg, if_neg (by omega), readRoamSet, readSet, if_neg, if_pos] at e
      · cases e
      · simpa using fun b hb => Nat.lt_succ_of_le (c.2 b hb).2
      · simpa using fun b hb => (c.2 b hb).1
    have e5 : readOpt readLimitMode a.limitMode ≠ none := fun e => by
      obtain ⟨b, hb, e⟩ := (readOpt_none_iff _ _).mp e
      refine h5 ⟨b, hb, ?_⟩
      unfold readLimitMode at e
      rcases h : b.toNat with _ | _ | n
      · rw [h] at e; cases e
      · rw [h] at e; cases e
      · omega
    obtain ⟨y1, h1⟩ := Option.ne_none_iff_exists'.mp e1
    obtain ⟨y2, h2⟩ := Option.ne_none_iff_exists'.mp e2
    obtain ⟨y3, h3⟩ := Option.ne_none_iff_exists'.mp e3
    obtain ⟨y4, h4⟩ := Option.ne_none_iff_exists'.mp e4
    obtain ⟨y5, h5⟩ := Option.ne_none_iff_exists'.mp e5
    simp only [modifyValues, h1, h2, h3, h4, h5] at h
    cases h
  · cases hm : modifyValues a with
    | none => rfl
    | some v => exact absurd h ((modifyValues_iff a v).mp hm).1

end Sys2Proof.Machine
end

