-- ==== Sys2Proof/Laws/PerInstr.lean ====
section
/-! SUPPORT. One lemma for each command: a request is told apart by its command code (R186), and one that
names a context is of level ACCOUNT (R174). -/

namespace Sys2Proof.Laws.RequestCode

open Sys2Proof.Machine

/-- The code of the command's request is that of no other command, and a request that names a context
carries the same request and is of level ACCOUNT (R29, R174, R186). -/
def Statement (i : Instr) : Prop :=
  (∀ rq cmd, requestOf i = some (rq, cmd) →
    ∀ other : Command, other.code = cmd.code → other = cmd)
  ∧ (∀ rq cmd n, namingOf i = some (rq, cmd, n) →
    requestOf i = some (rq, cmd) ∧ cmd.level = .account)

/-- Command codes are distinct (R186). -/
theorem code_injective (a b : Command) (h : a.code = b.code) : a = b := by
  cases a <;> cases b <;> first | rfl | cases h

/-- A command that names no context. -/
theorem of_unnamed {i : Instr} (h : namingOf i = none) : Statement i :=
  ⟨fun _ cmd _ other => code_injective other cmd, fun _ _ _ e => by rw [h] at e; cases e⟩

/-- A command that names a context. -/
theorem of_named {i : Instr} {rq : Request} {cmd : Command} {n : CtxName}
    (h : namingOf i = some (rq, cmd, n)) (hr : requestOf i = some (rq, cmd))
    (hl : cmd.level = .account) : Statement i := by
  refine ⟨fun _ cmd _ other => code_injective other cmd, fun rq' cmd' n' e => ?_⟩
  rw [h] at e; cases e; exact ⟨hr, hl⟩

theorem badFrame (port : Port) (bytes : List Byte) : Statement (.badFrame port bytes) := of_unnamed rfl
theorem bearerUplinkIntake (port : Fin 4) (src : Addr) (frame : BearerFrame) :
    Statement (.bearerUplinkIntake port src frame) := of_unnamed rfl
theorem linkFrameIntake (port : Fin 4) (src : Addr) (anchorId : Num16) (sequence : Num32) (inner : BearerFrame) :
    Statement (.linkFrameIntake port src anchorId sequence inner) := of_unnamed rfl
theorem echo (port : Fin 4) (src : Addr) (anchorId : Num16) (sequence : Num32) (probeNumber : Num16) (sendTime : Time) :
    Statement (.echo port src anchorId sequence probeNumber sendTime) := of_unnamed rfl
theorem radioStatus (port : Fin 4) (src : Addr) (attached : BitVec 16) :
    Statement (.radioStatus port src attached) := of_unnamed rfl
theorem badCommand (rq : Request) (code : Byte) (items : List Item) :
    Statement (.badCommand rq code items) := of_unnamed rfl
theorem readStatus (rq : Request) : Statement (.readStatus rq) := of_unnamed rfl
theorem readContext (rq : Request) (index : Num16) : Statement (.readContext rq index) := of_unnamed rfl
theorem findContext (rq : Request) (bearerId : Num32) : Statement (.findContext rq bearerId) := of_unnamed rfl
theorem readZone (rq : Request) (index : Byte) : Statement (.readZone rq index) := of_unnamed rfl
theorem readLink (rq : Request) (index : Byte) : Statement (.readLink rq index) := of_unnamed rfl
theorem readRadioUnit (rq : Request) (index : Byte) : Statement (.readRadioUnit rq index) := of_unnamed rfl
theorem readEvents (rq : Request) : Statement (.readEvents rq) := of_unnamed rfl
theorem readCounters (rq : Request) : Statement (.readCounters rq) := of_unnamed rfl
theorem createContext (rq : Request) (args : CreateArgs) :
    Statement (.createContext rq args) := of_unnamed rfl
theorem modifyContext (rq : Request) (name : CtxName) (args : ModifyArgs) :
    Statement (.modifyContext rq name args) := of_named rfl rfl rfl
theorem suspendContext (rq : Request) (name : CtxName) :
    Statement (.suspendContext rq name) := of_named rfl rfl rfl
theorem resumeContext (rq : Request) (name : CtxName) :
    Statement (.resumeContext rq name) := of_named rfl rfl rfl
theorem topUp (rq : Request) (name : CtxName) (money : BitVec 64) (allowance : BitVec 32) :
    Statement (.topUp rq name money allowance) := of_named rfl rfl rfl
theorem releaseContext (rq : Request) (name : CtxName) :
    Statement (.releaseContext rq name) := of_named rfl rfl rfl
theorem closePeriod (rq : Request) : Statement (.closePeriod rq) := of_unnamed rfl
theorem positionReport (rq : Request) (args : PositionArgs) :
    Statement (.positionReport rq args) := of_unnamed rfl
theorem writeZone (rq : Request) (args : ZoneArgs) : Statement (.writeZone rq args) := of_unnamed rfl
theorem reloadZone (rq : Request) : Statement (.reloadZone rq) := of_unnamed rfl
theorem armWaypoint (rq : Request) (args : WaypointArgs) : Statement (.armWaypoint rq args) := of_unnamed rfl
theorem disarmWaypoint (rq : Request) (comparator : Byte) :
    Statement (.disarmWaypoint rq comparator) := of_unnamed rfl
theorem writeLink (rq : Request) (args : LinkArgs) : Statement (.writeLink rq args) := of_unnamed rfl
theorem stageLink (rq : Request) (link : Byte) (trigger : Byte) :
    Statement (.stageLink rq link trigger) := of_unnamed rfl
theorem cancelStage (rq : Request) : Statement (.cancelStage rq) := of_unnamed rfl
theorem setFailoverOrder (rq : Request) (order : List Byte) :
    Statement (.setFailoverOrder rq order) := of_unnamed rfl
theorem writeRadioUnit (rq : Request) (args : RuArgs) : Statement (.writeRadioUnit rq args) := of_unnamed rfl
theorem setFloor (rq : Request) (floor : Byte) : Statement (.setFloor rq floor) := of_unnamed rfl
theorem openAttach (rq : Request) : Statement (.openAttach rq) := of_unnamed rfl
theorem configure (rq : Request) (args : ConfigureArgs) : Statement (.configure rq args) := of_unnamed rfl
theorem clearEvents (rq : Request) (kinds : List Byte) : Statement (.clearEvents rq kinds) := of_unnamed rfl
theorem resetWarm (rq : Request) : Statement (.resetWarm rq) := of_unnamed rfl
theorem resetCold (rq : Request) : Statement (.resetCold rq) := of_unnamed rfl
theorem coldReset (cause : ColdCause) : Statement (.coldReset cause) := of_unnamed rfl
theorem epochBoundary : Statement (.epochBoundary) := of_unnamed rfl
theorem staleDeadline : Statement (.staleDeadline) := of_unnamed rfl
theorem lostDeadline : Statement (.lostDeadline) := of_unnamed rfl
theorem probeTime (link : LinkIx) : Statement (.probeTime link) := of_unnamed rfl
theorem graceExpiry : Statement (.graceExpiry) := of_unnamed rfl
theorem heartbeatTime : Statement (.heartbeatTime) := of_unnamed rfl
theorem livenessDeadline (ru : RuIx) : Statement (.livenessDeadline ru) := of_unnamed rfl
theorem shoreCarrierDown (port : Fin 4) : Statement (.shoreCarrierDown port) := of_unnamed rfl
theorem shoreCarrierUp (port : Fin 4) : Statement (.shoreCarrierUp port) := of_unnamed rfl
theorem cellCarrierChange (port : Fin 4) (up : Bool) :
    Statement (.cellCarrierChange port up) := of_unnamed rfl
theorem entrySelection (port : Port) : Statement (.entrySelection port) := of_unnamed rfl
theorem transmissionCompletion (port : Port) : Statement (.transmissionCompletion port) := of_unnamed rfl
theorem usageFrameBuild : Statement (.usageFrameBuild) := of_unnamed rfl
theorem holdDrainMove : Statement (.holdDrainMove) := of_unnamed rfl
theorem sweepVisit : Statement (.sweepVisit) := of_unnamed rfl
theorem periodSummary : Statement (.periodSummary) := of_unnamed rfl
theorem endMarker (link : LinkIx) : Statement (.endMarker link) := of_unnamed rfl
theorem resetInputAsserted : Statement (.resetInputAsserted) := of_unnamed rfl

end Sys2Proof.Laws.RequestCode
end

