-- ==== Sys2Proof/Laws/Steering.lean ====
section
/-! SUPPORT. Which links SU chooses: the searches of the failover order, the successor, the recovery test and
the rows of R144, each said in the terms of Safety.lean. -/

namespace Sys2Proof.Machine

/-! ### What CS leaves of SU -/

@[simp] theorem sendHeartbeat_su (s : State) (r : RuIx) : (sendHeartbeat r s).su = s.su := by
  unfold sendHeartbeat
  simp only
  split
  · rfl
  · exact offerControl_keeps _ (·.su) _ _ (fun _ _ => rfl) (fun _ _ => rfl) (fun _ => rfl)

@[simp] theorem round_su (s : State) : (round s).su = s.su :=
  foldl_keeps (·.su) _ (fun s r => sendHeartbeat_su s r) allRus s

@[simp] theorem recomputeLevel_su (s : State) : (recomputeLevel s).su = s.su := by
  unfold recomputeLevel; split <;> simp

@[simp] theorem csHandover_su (s : State) (g : Bool) (sw : Option (Option LinkIx)) :
    (csHandover g sw s).su = s.su := by
  unfold csHandover
  cases sw <;> simp only <;> split <;> simp

/-! ### The searches (R145, R146) -/

/-- The first link that a search of the order finds. -/
theorem firstInOrder_iff (s : State) (h : Health) (k : LinkIx) : FirstInOrder s h k ↔
    (s.su.order.find? fun k => (s.link k).health == h && s.usable k) = some k := by
  rw [List.find?_eq_some_iff_append]
  constructor
  · rintro ⟨pre, post, h1, h2, h3, h4⟩
    refine ⟨by simp [h2, h3], pre, post, h1, fun j hj => ?_⟩
    have := h4 j hj
    by_cases e : (s.link j).health = h <;> simp_all
  · rintro ⟨h1, pre, post, h2, h3⟩
    simp at h1
    refine ⟨pre, post, h2, h1.1, h1.2, fun j hj hh => ?_⟩
    have := h3 j hj
    simp [hh.1, hh.2] at this

/-- A search of the order that finds none. -/
theorem noneInOrder_iff (s : State) (h : Health) : NoneInOrder s h ↔
    (s.su.order.find? fun k => (s.link k).health == h && s.usable k) = none := by
  rw [List.find?_eq_none]; simp [NoneInOrder]

/-- What the failover order gives (R145). -/
theorem fromOrder_iff (s : State) (r : Option LinkIx) : FromOrder s r ↔ fromOrder s = r := by
  unfold fromOrder
  cases r with
  | none =>
    simp only [FromOrder, noneInOrder_iff]
    constructor
    · rintro ⟨h1, h2⟩; rw [h1]; exact h2
    · intro h; split at h <;> simp_all
  | some k =>
    simp only [FromOrder, noneInOrder_iff, firstInOrder_iff]
    constructor
    · rintro (h | ⟨h1, h2⟩)
      · rw [h]
      · rw [h1]; exact h2
    · intro h; split at h
      · exact .inl (by rw [← h]; assumption)
      · exact .inr ⟨by assumption, h⟩

/-- The usable staged link (R145, R146). -/
theorem stagedUsable_iff (s : State) (k : LinkIx) : StagedUsable s k ↔ s.usableStaged = some k := by
  unfold StagedUsable State.usableStaged Su.staged
  cases s.su.stage with
  | none => simp
  | some st => simp only [Option.filter_eq_some_iff]; simp

/-- No usable staged link. -/
theorem noneStagedUsable_iff (s : State) : (∀ k, ¬ StagedUsable s k) ↔ s.usableStaged = none := by
  simp only [stagedUsable_iff]; cases s.usableStaged <;> simp

/-- A WAITING stage whose link is usable (R141). -/
theorem waitingUsable_iff (s : State) (k : LinkIx) :
    WaitingUsable s k ↔ s.waitingUsable = true ∧ s.usableStaged = some k := by
  unfold WaitingUsable State.waitingUsable
  rw [stagedUsable_iff]
  cases s.su.stage with
  | none => simp
  | some st =>
    simp
    constructor
    · rintro ⟨h1, h2⟩; simp [h1, h2]
    · rintro ⟨⟨h1, h2⟩, h3⟩; exact ⟨h3, h1⟩

/-- The successor (R145). -/
theorem successor_iff (s : State) (r : Option LinkIx) : Successor s r ↔ successor s = r := by
  unfold successor
  cases r with
  | none =>
    simp only [Successor, fromOrder_iff, noneStagedUsable_iff]
    constructor
    · rintro ⟨h1, h2⟩; rw [h1]; exact h2
    · intro h; split at h <;> simp_all
  | some k =>
    simp only [Successor, fromOrder_iff, stagedUsable_iff]
    constructor
    · rintro (h | ⟨h1, h2⟩)
      · rw [h]
      · rw [h1]; exact h2
    · intro h; split at h
      · exact .inl (by rw [← h]; assumption)
      · exact .inr ⟨by assumption, h⟩

/-- The recovery test in blackout (R146). -/
theorem recovers_iff (s : State) (h : s.active = none) (r : Option LinkIx) (t : State) :
    Recovers s r t ↔ recoveryTest s = ⟨t, r.map some⟩ := by
  unfold recoveryTest; rw [h]
  cases r with
  | none =>
    simp only [Recovers, fromOrder_iff, noneStagedUsable_iff]
    constructor
    · rintro ⟨h1, h2, rfl⟩; rw [h1, h2]; rfl
    · intro hh
      split at hh
      · simp [commitStage] at hh
      · split at hh
        · simp at hh
        · rename_i h1 _ h2; simp [unswitched] at hh; exact ⟨h1, h2, hh.symm⟩
  | some k =>
    simp only [Recovers, fromOrder_iff, noneStagedUsable_iff s]
    simp only [stagedUsable_iff]
    have hc : commitCause s = .recovery := by simp [commitCause, h]
    constructor
    · rintro (⟨h1, rfl⟩ | ⟨h1, h2, rfl⟩)
      · rw [h1]; simp [commitStage, hc]
      · rw [h1, h2]; rfl
    · intro hh
      split at hh
      · rename_i j hj
        simp [commitStage, hc] at hh; obtain ⟨h1, rfl⟩ := hh
        exact .inl ⟨hj, h1.symm⟩
      · split at hh
        · simp at hh; obtain ⟨h1, rfl⟩ := hh; rename_i e _ _ e2; exact .inr ⟨e, e2, h1.symm⟩
        · simp [unswitched] at hh

/-- The recovery test and its hand-off to CS. -/
theorem tellCs_recoveryTest (s : State) (h : s.active = none) (r : Option LinkIx) (t : State)
    (hr : Recovers s r t) : tellCs (recoveryTest s) = told r t := by
  rw [(recovers_iff s h r t).1 hr]; cases r <;> rfl

/-! ### The rows of R144 -/

/-- A usable link (R138). -/
theorem State.usable_iff (s : State) (k : LinkIx) : s.usable k = true ↔
    ((s.link k).health = .up ∨ (s.link k).health = .impaired) ∧ k ∈ s.zu.zone.linkMask := by
  simp [State.usable, Health.carries]

/-- Usable depends on the links and the zone in force only. -/
theorem State.usable_congr {s t : State} (h1 : t.links = s.links) (h2 : t.zu = s.zu)
    (k : LinkIx) : t.usable k = s.usable k := by
  simp [State.usable, State.link, h1, h2]

/-- A stage on a link that is not usable commits nothing. -/
theorem stage_waits_unusable (s : State) (k : LinkIx) (h : s.usable k = false) :
    (s.waitingUsable && s.su.staged == some k) = false := by
  by_contra hh
  simp at hh
  obtain ⟨h1, h2⟩ := hh
  unfold State.waitingUsable at h1
  split at h1
  · simp at h1
    have : s.usableStaged = none := by simp [State.usableStaged, h2, h]
    simp [this] at h1
  · cases h1

/-- The stage row for a link that is not usable. -/
theorem stageRow_unusable (s : State) (k : LinkIx) (h : s.usable k = false) : stageRow k s = s := by
  simp [stageRow, steerIf, stage_waits_unusable s k h]

/-- The recovery row for a link that is not usable. -/
theorem recoveryRow_unusable (s : State) (k : LinkIx) (h : s.usable k = false) : recoveryRow k s = s := by
  simp [recoveryRow, steerIf, h]

/-- The recovery row with an active link. -/
theorem recoveryRow_active (s : State) (k j : LinkIx) (h : s.active = some j) : recoveryRow k s = s := by
  simp [recoveryRow, steerIf, h]

/-- A DOWN or OFF link is not usable. -/
theorem usable_of_dead (s : State) (k : LinkIx) (h : (s.link k).health = .down ∨ (s.link k).health = .off) :
    s.usable k = false := by
  rcases h with h | h <;> simp [State.usable, h, Health.carries]

end Sys2Proof.Machine
end

