-- ==== Sys2Proof/Tests/Slice0.lean ====
section
/-! SUPPORT. The model's own tests: ill-formed terms that WellFormed refuses, one or two small steps for
each command with results worked out from the rules, and, for each statement, a state and operands that meet
its hypotheses. -/

namespace Sys2Proof.Tests

open Sys2Proof.Machine

/-! ## Ill-formed terms are refused (R4, R186) -/

def frameOf (id : Num32) (n : Nat) : BearerFrame := ⟨.bearer, id, List.replicate n 0⟩

theorem test_wf_refuses_empty_frame : (Instr.badFrame (.cell 0) []).wf = false := by decide
theorem test_wf_refuses_bearer_id_zero : (Instr.bearerUplinkIntake 0 0 (frameOf 0 1)).wf = false := by
  decide
theorem test_wf_refuses_long_payload : (Instr.bearerUplinkIntake 0 0 (frameOf 1 9001)).wf = false := by
  rw [Instr.wf, BearerFrame.wf, frameOf, List.length_replicate]; decide
theorem test_wf_refuses_inner_id_zero : (Instr.linkFrameIntake 0 0 0 0 (frameOf 0 1)).wf = false := by
  decide
theorem test_wf_refuses_long_item (rq : Request) :
    (Instr.badCommand rq 99 [⟨1, List.replicate 256 0⟩]).wf = false := by
  rw [Instr.wf, List.all_cons, Item.wf, List.length_replicate]; decide
theorem test_wf_refuses_roam_set_of_16 (rq : Request) (a : CreateArgs) :
    (Instr.createContext rq { a with roamSet := List.replicate 16 1 }).wf = false := by
  simp [Instr.wf, CreateArgs.wf]
theorem test_wf_refuses_modified_roam_set_of_16 (rq : Request) (n : CtxName) (a : ModifyArgs) :
    (Instr.modifyContext rq n { a with roamSet := some (List.replicate 16 1) }).wf = false := by
  simp [Instr.wf, ModifyArgs.wf]
theorem test_wf_refuses_link_mask_of_9 (rq : Request) (a : ZoneArgs) :
    (Instr.writeZone rq { a with linkMask := List.replicate 9 1 }).wf = false := by
  simp [Instr.wf, ZoneArgs.wf]
theorem test_wf_refuses_order_of_9 (rq : Request) :
    (Instr.setFailoverOrder rq (List.replicate 9 1)).wf = false := by simp [Instr.wf]
theorem test_wf_refuses_17_kinds (rq : Request) :
    (Instr.clearEvents rq (List.replicate 17 1)).wf = false := by simp [Instr.wf]

/-! ## Small states -/

/-- A request on C0, whose access level is CONTROL after a cold reset (R174). -/
def rq : Request := ⟨.cell 0, 7, 1, true⟩

/-- The state a command leaves. -/
def after (i : Instr) (s : State) : State :=
  match exec i s with
  | .next t => t
  | _ => State.reset

/-- The response at the head of C0's queue. -/
def reply (i : Instr) (s : State) : Option (Status × List Item) :=
  match ((after i s).port (.cell 0)).queue with
  | ⟨.control ⟨_, .response _ _ st rs _⟩, _⟩ :: _ => some (st, rs)
  | _ => none

/-- An ACTIVE prepaid context of class 7 and bearer ID 9, with 10 CU. -/
def card : Context :=
  { Context.freeAt 1 with
    state := .active, bearerId := 9, cls := 7, balance := 10, servingRu := 0, notifiedGen := 0xffff }

/-- Its name in a request. -/
def name : CtxName := ⟨0, 1⟩

/-- An UP link on S0 with anchor link ID 3. -/
def upLink : Link :=
  { Link.cold with
    cfg := { Link.cold.cfg with enabled := true, anchorId := 3, anchorAddr := 8, upFloor := 2 }
    health := .up, probeAt := some 1000 }

/-- An ALIVE unit on C1 at address 5. -/
def unit : RadioUnit := { RadioUnit.cold with port := 1, addr := 5, state := .alive, deadline := some 50 }

/-- A ship at sea: the context at index 0, the unit at index 0, link 0 UP, and no active link. -/
def ship : State := ((State.reset.setCtx 0 card).setRu 0 unit).setLink 0 upLink

/-- The same ship with link 0 as its active link. -/
def linked : State := { ship with su := { Su.cold with slotA := some 0 } }

/-- An entry of the context, of 4 payload bytes. -/
def entry : UserEntry := { frame := frameOf 9 4, ctx := 0, incarnation := 1, cls := 7, intake := 0 }

/-! ## Frames -/

theorem test_bad_frame_is_counted :
    (after (.badFrame (.cell 0) [1, 2, 3]) State.reset).dropCount .badFrame .uplink = 1
    ∧ ((after (.badFrame (.cell 0) [1, 2, 3]) State.reset).port (.cell 0)).received = 1 := by decide

theorem test_uplink_frame_is_held_without_a_link :
    (after (.bearerUplinkIntake 1 5 (frameOf 9 4)) ship).cs.hold = [entry] := by decide

theorem test_uplink_frame_joins_the_active_link :
    (((after (.bearerUplinkIntake 1 5 (frameOf 9 4)) linked).port (.shore 0)).queue.map Entry.body)
      = [.up entry 0] := by decide

theorem test_uplink_frame_of_no_unit_is_dropped :
    (after (.bearerUplinkIntake 1 6 (frameOf 9 4)) ship).dropCount .unknownRu .uplink = 1 := by decide

theorem test_downlink_frame_goes_to_the_unit :
    (((after (.linkFrameIntake 0 8 3 0 (frameOf 9 4)) ship).port (.cell 1)).queue.map Entry.body)
      = [.down entry 256 5] := by decide

theorem test_echo_makes_a_down_link_trial :
    let l := { upLink with health := .down, outstanding := some (4, 0) }
    ((after (.echo 0 8 3 0 4 0) (ship.setLink 0 l)).link 0).health = .trial := by decide

theorem test_late_echo_is_counted :
    ((after (.echo 0 8 3 0 4 0) ship).link 0).lateEchoes = 1 := by decide

theorem test_radio_status_makes_a_lost_unit_alive :
    let t := after (.radioStatus 1 5 20) (ship.setRu 0 { unit with state := .lost, deadline := none })
    (t.ru 0).state = .alive ∧ (t.ru 0).heartbeats = 1 ∧ (t.ru 0).deadline = some 5000000 := by decide

theorem test_unknown_command_is_refused :
    reply (.badCommand rq 99 []) State.reset = some (.badCommand, []) := by decide

/-! ## Requests that report -/

theorem test_read_status_reports_36_items :
    (reply (.readStatus rq) State.reset).map (fun r => r.2.length) = some 36 := by decide
theorem test_read_context_out_of_range :
    reply (.readContext rq 4096) State.reset = some (.badArgument, []) := by decide
theorem test_find_context_reports_index_and_state :
    reply (.findContext rq 9) ship = some (.ok, [⟨1, [0, 0]⟩, ⟨2, [0, 1]⟩, ⟨3, [1]⟩]) := by decide
theorem test_read_zone_in_force :
    (reply (.readZone rq 255) State.reset).map (fun r => (r.1, r.2.length)) = some (.ok, 3) := by decide
theorem test_read_link_reports_30_items :
    (reply (.readLink rq 0) ship).map (fun r => (r.1, r.2.length)) = some (.ok, 30) := by decide
theorem test_read_radio_unit_address :
    (reply (.readRadioUnit rq 0) ship).map (fun r => r.2[2]?) = some (some ⟨3, [0, 0, 0, 0, 0, 5]⟩) := by
  decide
theorem test_read_events_none_pending : reply (.readEvents rq) State.reset = some (.ok, []) := by decide
theorem test_read_counters_counts_its_own_frame :
    (reply (.readCounters rq) State.reset).map (fun r => r.2[27]?)
      = some (some ⟨2, [0, 0, 0, 1, 0, 0, 0, 0]⟩) := by decide

/-! ## Requests that change accounts -/

/-- The arguments of a Create Context that passes R30 (class 1 to 7, balance at least 1). -/
def create : CreateArgs :=
  { bearerId := 9, cls := 7, plan := 0, homeRealm := 0, roamSet := [], account := 0, servingRu := 0
    allowance := 0, balance := 1, lowThreshold := 0, limitMode := 0 }

theorem test_create_context_would_take_index_0 : lowestFree State.reset.contexts = some 0 := by decide

theorem test_create_context_refuses_a_bearer_id_in_use :
    reply (.createContext rq create) (State.reset.setCtx 0 card) = some (.duplicate, []) := by decide

theorem test_modify_context_writes_class :
    ((after (.modifyContext rq name ⟨some 3, none, none, none, none, none⟩) ship).ctx 0).cls = 3 := by decide

theorem test_modify_context_refuses_over_limit :
    reply (.modifyContext rq name ⟨none, none, none, none, some 10000000000, none⟩) ship
      = some (.overLimit, []) := by decide

theorem test_suspend_context :
    let t := after (.suspendContext rq name) ship
    (t.ctx 0).state = .suspended
    ∧ (t.port (.cell 1)).queue.map Entry.body
      = [.control ⟨5, .bearerNotice .suspended 9 0 1⟩] := by decide

theorem test_resume_context_refuses_active : reply (.resumeContext rq name) ship = some (.wrongState, []) := by
  decide

theorem test_top_up_clears_the_exhausted_mark :
    let t := after (.topUp rq name 5 7) (State.reset.setCtx 0 { card with balance := -4, exhausted := true })
    (t.ctx 0).balance = 1 ∧ (t.ctx 0).exhausted = false ∧ (t.ctx 0).allowance = 7 := by decide

theorem test_top_up_keeps_the_mark_at_zero :
    ((after (.topUp rq name 4 0)
      (State.reset.setCtx 0 { card with balance := -4, exhausted := true })).ctx 0).exhausted = true := by
  decide

theorem test_release_context_writes_a_final_record :
    let t := after (.releaseContext rq name) ship
    (t.ctx 0).state = .free ∧ (t.ctx 0).incarnation = 1
    ∧ t.ur.urq.map (fun r => (r.number, r.body.kind)) = [(1, .final)] := by decide

theorem test_release_context_waits_for_a_full_queue :
    let r : UrqRecord := ⟨summaryRecord 1 ⟨1, 0, 0⟩, 1⟩
    let t := after (.releaseContext rq name) { ship with ur := { Ur.cold with awaiting := [1], urq := [r] } }
    (t.ctx 0).state = .closing ∧ t.ur.awaiting = [1, 0] := by decide

theorem test_close_period_starts_the_sweep :
    let t := after (.closePeriod rq) State.reset
    t.ur.period = 2 ∧ t.ur.closing = some 1 ∧ t.ur.sweep = .visiting ∧ t.ur.accOther.period = 1 := by decide

/-! ## Requests that steer -/

/-- A fix at 500, on the centre line. -/
def fix (quality : Byte) : PositionArgs := ⟨500, 0, quality, 0⟩

theorem test_first_report_after_lost_is_accepted :
    let t := after (.positionReport rq (fix 2)) State.reset
    t.zu.pos.state = .fresh ∧ t.zu.pos.a = 500 ∧ t.zu.pos.stale = some 30000000
    ∧ t.zu.pos.lost = some 300000000 := by decide

theorem test_report_of_quality_none_changes_nothing :
    (after (.positionReport rq (fix 0)) State.reset).zu.pos.state = .lost := by decide

/-- A guarded harbour zone from 400 to 599, of link mask 0. -/
def harbour : ZoneArgs :=
  { index := 1, present := 0, start := 400, length := 200, crossLimit := 10, kind := 0, realm := 2
    permit := 0, entryKind := 1, admission := 4, rates := Vector.replicate 4 100, linkMask := [0] }

theorem test_write_zone_then_report_enters_it :
    let t := after (.positionReport rq (fix 1)) (after (.writeZone rq harbour) State.reset)
    t.zu.zoneIx = 1 ∧ t.zu.gen = 1 ∧ t.zu.gate = .closed ∧ t.cs.level = .limited := by decide +kernel

theorem test_write_zone_refuses_length_zero :
    reply (.writeZone rq { harbour with length := 0 }) State.reset = some (.badArgument, []) := by decide

theorem test_reload_zone_counts_the_generation :
    (after (.reloadZone rq) State.reset).zu.gen = 1
    ∧ ((after (.reloadZone rq) State.reset).event .zoneChange).detail = some (.zone 0 1) := by decide

theorem test_arm_waypoint :
    (after (.armWaypoint rq ⟨1, 77, 1, 1⟩) State.reset).zu.w1 = ⟨77, .decreasing, .commit, true⟩ := by decide

theorem test_disarm_waypoint_says_it_was_not_armed :
    reply (.disarmWaypoint rq 0) State.reset = some (.ok, [⟨1, [1]⟩]) := by decide

/-- A Write Link that enables link 1 on S2. -/
def link : LinkArgs :=
  { index := 1, enabled := 0, shorePort := 6, kind := 2, anchorId := 4, anchorAddr := 9, multiplier := 2000
    upFloor := 9, impairedFloor := 1, probeInterval := 1, upCount := 3, downCount := 3, impairLoss := 4
    recoverLoss := 1, rttLimit := 500000, rttRecover := 250000, startSeq := 5 }

theorem test_write_link_clamps_and_goes_down :
    let l := (after (.writeLink rq link) State.reset).link 1
    l.health = .down ∧ l.cfg.multiplier = 1023 ∧ l.cfg.upFloor = 7 ∧ l.cfg.probeInterval = 10
    ∧ l.nextSeq = 5 ∧ l.probeAt = some 10000 := by decide

theorem test_write_link_refuses_recover_loss_at_impair_loss :
    reply (.writeLink rq { link with recoverLoss := 4 }) State.reset = some (.badArgument, []) := by decide

theorem test_stage_link_commits_in_blackout :
    let t := after (.stageLink rq 0 0) ship
    t.active = some 0 ∧ t.su.switchNumber = 1 ∧ t.su.stage = none
    ∧ (t.event .switchDone).detail = some (.switch none (some 0) .recovery) := by decide +kernel

theorem test_stage_link_refuses_the_active_link :
    reply (.stageLink rq 0 0) linked = some (.wrongState, []) := by decide

theorem test_cancel_stage_empties_the_slot :
    let s := { linked with su := { linked.su with slotB := some 1, stage := some ⟨.epoch, .untriggered⟩ } }
    (after (.cancelStage rq) s).su.slotB = none
    ∧ reply (.cancelStage rq) s = some (.ok, [⟨1, [1, 1, 0]⟩]) := by decide

theorem test_set_failover_order_recovers_in_blackout :
    (after (.setFailoverOrder rq [1, 0]) ship).active = some 0
    ∧ (after (.setFailoverOrder rq [1, 0]) ship).su.order = [1, 0] := by decide +kernel

theorem test_set_failover_order_refuses_a_repeat :
    reply (.setFailoverOrder rq [1, 1]) ship = some (.badArgument, []) := by decide

theorem test_write_radio_unit_is_lost_at_first :
    (after (.writeRadioUnit rq ⟨15, 0, 3, 6⟩) State.reset).ru 15
      = { RadioUnit.cold with port := 3, addr := 6, state := .lost } := by decide

theorem test_set_floor_takes_the_largest :
    (after (.setFloor rq 6) State.reset).tc.floor = 6
    ∧ (after (.setFloor rq 2) State.reset).tc.floor = 5 := by decide

theorem test_open_attach_opens_a_closed_gate :
    reply (.openAttach rq) { State.reset with zu := { Zu.cold with gate := .closed } }
      = some (.ok, [⟨1, [1]⟩]) := by decide +kernel

/-- A Configure that gives nothing. -/
def nothing : ConfigureArgs :=
  { epochLength := none, frameType := none, noticeDest := none, collector := none, access := []
    staleTimeout := none, lostTimeout := none, ruTimeout := none, heartbeatInterval := none
    graceTime := none, holdAge := none, maxStep := none, confirmCount := none, limitedFloor := none
    noticeFloor := none, eventLevels := [] }

theorem test_configure_clamps_and_recomputes_the_floor :
    let t := after (.configure rq { nothing with epochLength := some 5000, limitedFloor := some 3 }) State.reset
    t.me.epochLength = 1000 ∧ t.cs.limitedFloor = 3 ∧ t.tc.floor = 3 := by decide

theorem test_configure_refuses_lost_at_stale :
    reply (.configure rq { nothing with lostTimeout := some 30 }) State.reset = some (.badArgument, []) := by
  decide

theorem test_clear_events_clears_what_was_seen :
    let s := after (.readEvents rq) (raise .ruLost (some (.ru 3)) State.reset)
    ((after (.clearEvents rq [13]) s).event .ruLost).pending = false
    ∧ ((after (.clearEvents rq [13]) (raise .ruLost (some (.ru 3)) State.reset)).event .ruLost).pending
      = true := by decide +kernel

theorem test_reset_warm_puts_links_down_and_keeps_contexts :
    let t := after (.resetWarm rq) linked
    (t.link 0).health = .down ∧ t.active = none ∧ (t.ru 0).state = .lost ∧ t.zu.gen = 1
    ∧ (t.ctx 0).balance = 10 := by decide +kernel

theorem test_reset_cold_waits_for_its_response :
    (after (.resetCold rq) State.reset).me.coldPending = .waiting
    ∧ reply (.resetCold rq) State.reset = some (.ok, [⟨1, [0]⟩]) := by decide

/-! ## The clock, the lines and the part's own steps -/

/-- The state with the route clock at a time. -/
def atTime (n : Time) (s : State) : State := { s with me := { s.me with clock := n } }

theorem test_cold_reset_clears_the_clock :
    (after (.coldReset .powerOn) (atTime 99 linked)).me.clock = 0
    ∧ ((after (.coldReset .powerOn) linked).link 0).health = .off := by decide

theorem test_epoch_boundary_drops_aged_entries :
    let t := after .epochBoundary (atTime 10000001 { ship with cs := { ship.cs with hold := [entry] } })
    t.me.epochNumber = 1 ∧ t.me.nextBoundary = 200000 ∧ t.cs.hold = [] ∧ t.dropCount .holdAged .uplink = 1 := by
  decide

theorem test_epoch_boundary_keeps_entries_at_the_limit :
    (after .epochBoundary (atTime 10000000 { ship with cs := { ship.cs with hold := [entry] } })).cs.hold
      = [entry] := by decide

theorem test_stale_deadline :
    let zu := { Zu.cold with pos := { Zu.cold.pos with state := .fresh, stale := some 40 } }
    (after .staleDeadline (atTime 40 { State.reset with zu := zu })).zu.pos.state = .stale
    ∧ (after .staleDeadline (atTime 39 { State.reset with zu := zu })).zu.pos.state = .fresh := by decide

theorem test_lost_deadline_enters_zone_0 :
    let zu := { Zu.cold with pos := { Zu.cold.pos with state := .stale, lost := some 40 }, zoneIx := 5 }
    let t := after .lostDeadline (atTime 40 { State.reset with zu := zu })
    t.zu.pos.state = .lost ∧ t.zu.zoneIx = 0 ∧ t.zu.gen = 1 := by decide

theorem test_probe_time_builds_a_probe :
    let t := after (.probeTime 0) (atTime 1000 ship)
    (t.link 0).outstanding = some (0, 1000) ∧ (t.link 0).probeAt = some 1001000
    ∧ (t.port (.shore 0)).queue.map Entry.body = [.control ⟨8, .probe 3 0 1000⟩] := by decide

theorem test_third_loss_takes_the_active_link_down :
    let l := { upLink with losses := 2, outstanding := some (4, 0) }
    let t := after (.probeTime 0) (atTime 1000 (linked.setLink 0 l))
    (t.link 0).health = .down ∧ t.active = none ∧ (t.event .blackout).pending = true
    ∧ t.cs.grace = some 20001000 ∧ (t.link 0).faults = 1 := by decide +kernel

theorem test_grace_expiry_limits_the_service :
    let zu := { Zu.cold with zone := { Zone.fallback with permit := .serve } }
    let s := { State.reset with zu := zu, cs := { Cs.cold with grace := some 40, level := .full } }
    (after .graceExpiry (atTime 40 s)).cs.level = .limited
    ∧ (after .graceExpiry (atTime 39 s)).cs.level = .full := by decide +kernel

theorem test_heartbeat_time_sends_a_round :
    let t := after .heartbeatTime (atTime 1000000 ship)
    (t.port (.cell 1)).queue.map Entry.body
      = [.control ⟨5, .backhaulStatus .limited .open 0 5 none 0 1000000⟩]
    ∧ t.cs.nextHeartbeat = 2000000 := by decide +kernel

theorem test_liveness_deadline_loses_the_unit :
    ((after (.livenessDeadline 0) (atTime 50 ship)).ru 0).state = .lost := by decide

theorem test_shore_carrier_down_fails_over :
    let t := after (.shoreCarrierDown 0) linked
    (t.link 0).health = .down ∧ t.active = none ∧ (t.port (.shore 0)).carrier = false := by decide +kernel

theorem test_shore_carrier_up :
    ((after (.shoreCarrierUp 0) (after (.shoreCarrierDown 0) linked)).port (.shore 0)).carrier = true := by
  decide +kernel

theorem test_cell_carrier_change :
    ((after (.cellCarrierChange 1 false) ship).port (.cell 1)).carrier = false := by decide

/-- The ship with the entry queued for link 0, in a zone of a rate for its plan. -/
def loaded (rate : BitVec 16) (e : UserEntry) : State :=
  let s := place (.shore 0) (.up e 0) linked
  { s with zu := { s.zu with zone := { s.zu.zone with rates := Vector.replicate 4 rate } } }

theorem test_entry_selection_sends_a_link_frame :
    let t := after (.entrySelection (.shore 0)) (loaded 0 entry)
    (t.port (.shore 0)).sending.map Wire.carried = some (.link 3 0 entry)
    ∧ (t.link 0).nextSeq = 1 ∧ (t.link 0).bytesSent = 38 ∧ (t.port (.shore 0)).queue = [] := by decide

theorem test_entry_selection_refuses_above_the_balance :
    let e := { entry with frame := frameOf 9 44 }
    let t := after (.entrySelection (.shore 0))
      ((loaded 65535 e).setCtx 0 { card with balance := 1, remainder := 255999999 })
    t.dropCount .quota .uplink = 1 ∧ (t.ctx 0).exhausted = true ∧ (t.ctx 0).balance = 1 := by decide

theorem test_transmission_completion_counts :
    let t := after (.transmissionCompletion (.shore 0)) (after (.entrySelection (.shore 0)) (loaded 0 entry))
    (t.port (.shore 0)).transmitted = 1 ∧ (t.port (.shore 0)).sending = none := by decide

/-- A record for the URQ. -/
def record : UrqRecord := ⟨summaryRecord 1 ⟨1, 0, 0⟩, 1⟩

/-- A part with a collector on S3 and one record. -/
def billing : State := { State.reset with ur := { Ur.cold with urq := [record], collector := some (.shore 3, 4) } }

theorem test_usage_frame_build_takes_the_record :
    let t := after .usageFrameBuild billing
    t.ur.outstanding = some 1 ∧ t.ur.urq = [record]
    ∧ (t.port (.shore 3)).queue.map Entry.body = [.control ⟨4, .usage [record]⟩] := by decide

theorem test_usage_frame_completion_frees_the_record :
    let t := after (.transmissionCompletion (.shore 3))
      (after (.entrySelection (.shore 3)) (after .usageFrameBuild billing))
    t.ur.urq = [] ∧ t.ur.outstanding = none := by decide

theorem test_hold_drain_move_labels_the_head :
    let t := after .holdDrainMove { linked with cs := { linked.cs with hold := [entry] } }
    t.cs.hold = [] ∧ (t.port (.shore 0)).queue.map Entry.body = [.up entry 0] := by decide

theorem test_sweep_visit_goes_on :
    let s := { State.reset with ur := { Ur.cold with sweep := .visiting } }
    (after .sweepVisit s).ur.position = 1
    ∧ (after .sweepVisit { s with ur := { s.ur with sweep := .paused, awaiting := [0] } }).ur.sweep = .paused := by
  decide

theorem test_end_marker_carries_the_last_number :
    let s := { ship with su := { Su.cold with drain := [⟨0, 6, false⟩] } }
    let t := after (.endMarker 0) s
    (t.port (.shore 0)).queue.map Entry.body = [.control ⟨8, .endMarker 0 3 6 0xffffffff⟩]
    ∧ t.su.drain = [⟨0, 6, true⟩] := by decide

theorem test_reset_input_discards_frames :
    let t := after .resetInputAsserted (loaded 0 entry)
    t.resetHeld = true ∧ (t.port (.shore 0)).queue = [] := by decide +kernel

/-! ## Worked examples of the spec -/

/-- Chapter 5: 1,400 chargeable bytes at weighted rate 768,000 come to 4 CU and remainder 51,200,000. -/
theorem test_charge_example : chargeOf 1400 0 1200 640 0 = ⟨0, 4, 51200000⟩ := by decide

/-- R84: the largest product gives 2,357 CU. -/
theorem test_largest_charge : (chargeOf 9000 0 65535 1023 255999999).cost = 2357 := by decide

/-- Section 7.3: samples 40,000, 48,000 and 41,000 give S8 320,000, 328,000 and 328,000. -/
theorem test_smoothing_example :
    smooth none 40000 = 320000 ∧ smooth (some 320000) 48000 = 328000 ∧ smooth (some 328000) 41000 = 328000 := by
  decide

/-- Section 11.5: a payload of 1,400 bytes leaves as a LINK frame of 1,434 bytes. -/
theorem test_link_frame_length_example (e : UserEntry) (h : e.frame.payload.length = 1400) :
    linkFrameLength e = 1434 := by simp [linkFrameLength, UserEntry.length, h]

/-! ## Every statement's hypotheses are met by some state and operands -/

theorem reset_ctx (i : CtxIx) : State.reset.ctx i = Context.freeAt 0 := by simp [State.reset, State.ctx]
theorem reset_link (k : LinkIx) : State.reset.link k = Link.cold := by simp [State.reset, State.link]
theorem reset_port (p : Port) : State.reset.port p = PortState.cold := by simp [State.reset, State.port]

theorem ship_ctx (i : CtxIx) : ship.ctx i = if 0 = i then card else Context.freeAt 0 := by
  simp [ship, reset_ctx]
theorem ship_link (k : LinkIx) : ship.link k = if 0 = k then upLink else Link.cold := by
  simp [ship, reset_link]
theorem ship_port (p : Port) : ship.port p = PortState.cold := by simp [ship, reset_port]

/-- Every request passes on C0 of the ship. -/
theorem ship_passes (cmd : Command) : Passes ship rq cmd := ⟨⟨rfl, rfl⟩, by cases cmd <;> decide, rfl, rfl⟩
theorem linked_passes (cmd : Command) : Passes linked rq cmd := ⟨⟨rfl, rfl⟩, by cases cmd <;> decide, rfl, rfl⟩
theorem reset_passes (cmd : Command) : Passes State.reset rq cmd :=
  ⟨⟨rfl, rfl⟩, by cases cmd <;> decide, rfl, rfl⟩
theorem ship_names : Names ship name 0 := ⟨rfl, by decide, by decide⟩

/-- The ship with one command waiting, which answers a next state. -/
def waiting : State := linked.withPending [.graceExpiry]

theorem waiting_steps : ∃ t, step waiting = .next t := ⟨_, rfl⟩

theorem witness_StepKeepsWithinCapacity : WithinCapacity waiting ∧ ∃ t, step waiting = .next t :=
  ⟨⟨fun p => by simp [waiting, linked, State.withPending, State.port, ship, State.reset, PortState.cold],
    by decide, by decide, by decide, fun n h => by cases h⟩, waiting_steps⟩

/-- Two held entries, of one intake time and of a later one, the last of which the clock has just reached. -/
theorem witness_StepKeepsWithinCapacity_inOrder :
    let s := atTime 7 { waiting with cs := { waiting.cs with hold := [entry, entry, { entry with intake := 7 }] } }
    HoldInOrder s ∧ s.me.clock.toNat + 1 < 2 ^ 64 ∧ ∃ t, step s = .next t := by
  refine ⟨⟨by decide, fun e h => ?_⟩, by decide, _, rfl⟩
  rcases h with h | ⟨p, x, hx, -⟩
  · have : ∀ e ∈ [entry, entry, { entry with intake := 7 }], e.intake.toNat ≤ 7 := by decide
    exact this e h
  · change x ∈ (ship.port p).queue at hx
    rw [ship_port] at hx; cases hx

theorem witness_StepKeepsAccountsSound : AccountsSound waiting ∧ ∃ t, step waiting = .next t := by
  refine ⟨⟨fun i => ?_, fun e h => ?_⟩, waiting_steps⟩
  · change (ship.ctx i).Sound
    rw [ship_ctx]; split <;> simp [Context.Sound, card, Context.freeAt]
  · rcases h with h | ⟨p, x, hx, -⟩
    · cases h
    · change x ∈ (ship.port p).queue at hx
      rw [ship_port] at hx; cases hx

theorem waiting_distinct : BearersDistinct waiting := by
  refine ⟨fun i => ?_, fun i => ?_, fun i j => ?_⟩
  · change (ship.ctx i).state = .free → ship.ctx i = Context.freeAt (ship.ctx i).incarnation
    rw [ship_ctx]; split <;> simp [card, Context.freeAt]
  · change (ship.ctx i).state ≠ .free → (ship.ctx i).bearerId ≠ 0 ∧ (ship.ctx i).cls ≠ 0
    rw [ship_ctx]; split <;> simp [card, Context.freeAt]
  · change (ship.ctx i).state ≠ .free → (ship.ctx j).state ≠ .free → (ship.ctx i).bearerId = (ship.ctx j).bearerId → i = j
    rw [ship_ctx, ship_ctx]
    split <;> split <;> simp [card, Context.freeAt]
    exact (by assumption : (0 : CtxIx) = i) ▸ (by assumption : (0 : CtxIx) = j)

theorem witness_StepKeepsBearersDistinct : BearersDistinct waiting ∧ ∃ t, step waiting = .next t :=
  ⟨waiting_distinct, waiting_steps⟩

theorem witness_StepKeepsAwaitingExact :
    BearersDistinct waiting ∧ AwaitingExact waiting ∧ ∃ t, step waiting = .next t := by
  refine ⟨waiting_distinct, ⟨by decide, fun i => ?_, fun i => ?_, fun i => ?_⟩, waiting_steps⟩
  · change i ∈ ([] : List CtxIx) ↔ (ship.ctx i).awaiting.isSome = true
    rw [ship_ctx]; split <;> simp [card, Context.freeAt]
  · change (ship.ctx i).state = .free → (ship.ctx i).awaiting = none
    rw [ship_ctx]; split <;> simp [card, Context.freeAt]
  · change (ship.ctx i).state = .closing → _
    rw [ship_ctx]; split <;> simp [card, Context.freeAt]

theorem witness_StepKeepsSelectorSound : SelectorSound waiting ∧ ∃ t, step waiting = .next t := by
  refine ⟨⟨fun k => ?_, fun k h => ?_, by decide, fun k h => ?_, by decide, fun m h => ?_⟩, waiting_steps⟩
  · change (ship.link k).Sound
    rw [ship_link]; split <;> simp [Link.Sound, upLink, Link.cold]
  · have hk : k = 0 := by
      change some 0 = some k at h; exact (Option.some.inj h).symm
    subst hk; exact ⟨.inl rfl, rfl, by decide⟩
  · cases h
  · cases h

theorem witness_StepKeepsLevelAndFloor : LevelAndFloor waiting ∧ ∃ t, step waiting = .next t :=
  ⟨⟨rfl, rfl⟩, waiting_steps⟩

theorem witness_OnlyColdResetSetsClock :
    (∀ c, Instr.graceExpiry ≠ .coldReset c) ∧ ∃ t, exec .graceExpiry ship = .next t :=
  ⟨by simp, _, rfl⟩

/-- After a reset nothing is due until its deadlines; a waiting entry and a reached boundary are. -/
theorem witness_OnlyColdResetSetsClock_idle :
    State.reset.pending = [] ∧ State.reset.resetHeld = false ∧ { State.reset with resetHeld := true }.resetHeld = true
    ∧ (∀ i, ¬ Due State.reset i)
    ∧ (loaded 0 entry).pending = [] ∧ Due (loaded 0 entry) (.entrySelection (.shore 0))
    ∧ Due (atTime 100000 State.reset) .epochBoundary ∧ ¬ Due (atTime 99999 State.reset) .epochBoundary := by
  refine ⟨rfl, rfl, rfl, fun i h => ?_, rfl, ⟨rfl, rfl, by decide⟩, by simp only [Due]; decide,
    by simp only [Due]; decide⟩
  cases i <;> simp only [Due, reset_port, reset_link, reset_ctx] at h
  case coldReset => exact absurd h.2 (by decide)
  case epochBoundary => revert h; decide
  case staleDeadline => exact absurd h.1 (by decide)
  case lostDeadline => exact absurd h.1 (by decide)
  case probeTime => exact h.1 rfl
  case graceExpiry => obtain ⟨d, hd, -⟩ := h; cases hd
  case heartbeatTime => revert h; decide
  case livenessDeadline r => exact absurd h.1 (by simp [State.ru, State.reset, Cs.cold, RadioUnit.cold])
  case entrySelection => exact h.2.2 rfl
  case usageFrameBuild => exact h.2.1 rfl
  case holdDrainMove => exact h.1 rfl
  case sweepVisit => revert h; decide
  case periodSummary => exact absurd h.1 (by decide)
  case endMarker => obtain ⟨⟨m, hm, -⟩, -⟩ := h; cases hm

/-- A whole BEARER frame of 40 payload bytes, as it stands on the line of a cell port. -/
def good : List Byte := (Arrival.bearer 5 (frameOf 9 40)).frame 0x88B5 1

/-- A good frame meets no condition, and each single byte changed, or a frame too long, meets one. -/
theorem witness_BadFrameIsDropped :
    let echo := (Arrival.echo 8 3 0 4 0).frame 0x88B5 1
    let status := (Arrival.radioStatus 5 20).frame 0x88B5 1
    Receives ship (.cell 0) ∧ Receives ship (.shore 0)
    ∧ field good 12 2 = ship.me.frameType.toNat ∧ field good 16 2 + 14 = good.length
    ∧ field (good.set 12 0) 12 2 ≠ ship.me.frameType.toNat
    ∧ 9216 < (List.replicate 9217 (0 : Byte)).length
    ∧ field (good.set 14 2) 14 1 ≠ 1
    ∧ ¬ (field (good.set 17 55) 16 2 + 14 = good.length
        ∨ (good.length = 60 ∧ field (good.set 17 55) 16 2 + 14 ≤ 60))
    ∧ field (good.set 15 3) 15 1 ∉ [1, 2, 8, 11] ∧ field good 15 1 ∉ [3, 5, 11]
    ∧ field (good.set 21 0) 18 4 = 0 ∧ field (good.set 23 41) 22 2 + 10 ≠ field good 16 2
    ∧ field (echo.set 17 21) 15 1 = 5 ∧ field (echo.set 17 21) 16 2 = 21 ∧ field echo 16 2 = 20 ∧ echo.length = 60
    ∧ field (status.set 17 5) 15 1 = 8 ∧ field (status.set 17 5) 16 2 = 5 ∧ field status 16 2 = 6 := by
  refine ⟨⟨rfl, rfl⟩, ⟨rfl, rfl⟩, by decide, by decide, by decide, ?_, ?_⟩
  · rw [List.length_replicate]; decide
  · decide

theorem witness_FrameBytesAreReadBack :
    (frameOf 9 0).wf = true ∧ (frameOf 1 60).wf = true ∧ ([] : List Byte).length ≤ 9195
    ∧ Sendable (.bare entry) ∧ Sendable (.link 3 7 entry) ∧ Sendable (.control (.probe 3 0 0))
    ∧ Sendable (.control (.response 1 1 .ok [⟨1, [0]⟩, ⟨2, []⟩] false))
    ∧ Sendable (.control (.usage [record])) ∧ Sendable (.control (.usage (List.replicate 16 record))) := by
  simp only [Sendable, jzLength]
  refine ⟨by decide, by decide, by decide, by decide, by decide, trivial, by decide, by decide, by decide,
    by decide, fun r h => ?_⟩
  rw [List.eq_of_mem_replicate h]
  decide

/-! Bytes written out from the tables of R185 to R187. -/

theorem test_switch_marker_bytes :
    Wire.bytes ⟨2, 3, 0x88B5, .control (.switchMarker 0x0102 0x0304 (some (0x0506, 0x0708090A)) true)⟩
      = [0, 0, 0, 0, 0, 2, 0, 0, 0, 0, 0, 3, 0x88, 0xB5, 1, 6, 0, 19, 1, 2, 0, 0, 0, 0, 3, 4, 2, 5, 6, 7, 8, 9, 10]
        ++ List.replicate 27 0 := by decide

theorem test_bearer_notice_bytes :
    controlJz (.bearerNotice (.lowBalance (-2)) 0x01020304 4095 0x0506)
      = [1, 10, 0, 22, 5, 1, 2, 3, 4, 15, 255, 5, 6, 0, 255, 255, 255, 255, 255, 255, 255, 254] := by decide

theorem test_notice_bytes :
    controlJz (.notice .switchDone 4 0x0102 (some (.switch none (some 6) .recovery)))
      = [1, 13, 0, 22, 2, 4, 0, 0, 0, 0, 0, 0, 1, 2, 255, 6, 3, 0, 0, 0, 0, 0] := by decide

theorem test_response_bytes :
    controlJz (.response 0x0102 45 .overLimit [⟨1, [9, 8]⟩, ⟨2, []⟩] false)
      = [1, 12, 0, 14, 1, 2, 45, 12, 1, 2, 9, 8, 2, 0] := by decide

theorem test_usage_record_bytes :
    let r : Record :=
      { kind := .final, plan := 3, zoneIx := 63, realm := 15, period := 1, ctx := 4095, incarnation := 2
        bearerId := 3, zoneGen := 4, start := 5, stop := 6, up := 7, down := 8, free := 9, frames := 10
        charge := 11, balanceAfter := -1, remainder := 0x01020304 }
    let n := fun (k : Nat) (b : Byte) => List.replicate k (0 : Byte) ++ [b]
    recordBytes ⟨r, 12⟩ = [1, 3, 63, 15] ++ n 3 1 ++ n 3 12 ++ [15, 255] ++ n 1 2 ++ n 3 3 ++ n 1 4 ++ n 7 5
      ++ n 7 6 ++ n 7 7 ++ n 7 8 ++ n 7 9 ++ n 7 10 ++ n 7 11 ++ List.replicate 8 255 ++ [1, 2, 3, 4] := by
  decide

theorem witness_FrameBytesActAsTheirCommand :
    (frameOf 9 0).wf = true ∧ (∀ x ∈ [(⟨1, [0]⟩ : Item)], x.wf = true)
    ∧ ([(⟨1, [0]⟩ : Item)].flatMap itemBytes).length ≤ 9195 := by decide

/-- A Configure of every kind of setting. -/
def settings : ConfigureArgs :=
  { nothing with
    epochLength := some 200, frameType := some 0x0600, noticeDest := some (some ⟨7, 4⟩), collector := some none
    access := [⟨1, 1⟩, ⟨2, 2⟩, ⟨1, 3⟩], graceTime := some 0, noticeFloor := some 7
    eventLevels := [⟨15, 7⟩, ⟨0, 9⟩, ⟨15, 2⟩] }

/-- Items in another order, a roam set of 15, a Configure with its pairs, and a POSTPAID account; each passes
check 4 of R173. -/
theorem witness_FrameBytesActAsTheirCommand_items :
    (Instr.createContext rq { create with roamSet := List.replicate 15 1 }).wf = true
    ∧ spelling (.topUp rq name 5 7)
      = some (rq, 20, [⟨1, [0, 0]⟩, ⟨2, [0, 1]⟩, ⟨3, [0, 0, 0, 0, 0, 0, 0, 5]⟩, ⟨4, [0, 0, 0, 7]⟩])
    ∧ [(⟨4, [0, 0, 0, 7]⟩ : Item), ⟨1, [0, 0]⟩].Perm [⟨1, [0, 0]⟩, ⟨4, [0, 0, 0, 7]⟩]
    ∧ (spelling (.configure rq settings)).map (fun x => argsOk .configure x.2.2 && x.2.2.length == 18) = some true
    ∧ (spelling (.configure rq settings)).map (fun x => configureArgs x.2.2) = some settings
    ∧ { create with account := 1 }.roamSet.length ≤ 15 ∧ { create with account := 1 }.account = 1 := by
  refine ⟨?_, by decide, by decide, by decide, by decide, by decide, rfl⟩
  rw [Instr.wf, CreateArgs.wf, List.length_replicate]; decide

/-- The items of a request act as the request, with its arguments: section 11.2's sizes. -/
theorem test_top_up_by_its_items :
    exec (.badCommand rq 20 [⟨4, [0, 0, 0, 7]⟩, ⟨3, [0, 0, 0, 0, 0, 0, 0, 5]⟩, ⟨2, [0, 1]⟩, ⟨1, [0, 0]⟩]) ship
      = exec (.topUp rq name 5 7) ship := by
  rw [exec_badCommand_known _ _ _ _ .topUp (by decide) (by decide)]; rfl

/-- Each reason of R8 and R9 refuses some frame. -/
theorem witness_IntakeDropsByFirstTest :
    (frameOf 9 4).wf = true ∧ Receives ship (.cell 1) ∧ Receives ship (.shore 0)
    ∧ matchRu ship.cs.rus 1 6 = none ∧ matchLink ship.links 0 4 = none
    ∧ matchRu ship.cs.rus 1 5 = some 0 ∧ matchLink ship.links 0 3 = some 0
    ∧ lookupBearer ship.contexts 9 = some 0
    ∧ (∀ b : Num32, b ≠ 9 → lookupBearer ship.contexts b = none)
    ∧ RefusedAtIntake ship { card with state := .suspended } .bearer .notActive
    ∧ RefusedAtIntake ship { card with state := .closing } .signal .notActive
    ∧ RefusedAtIntake ship { card with exhausted := true } .bearer .exhausted
    ∧ RefusedAtIntake { ship with cs := { ship.cs with level := .silent } } card .bearer .silent
    ∧ RefusedAtIntake ship { card with cls := 5 } .bearer .floor
    ∧ (let s := { ship with zu := { ship.zu with zone := { Zone.fallback with realm := 15 } } }
      (s.ctx 0).state = .active ∧ passesRealm s.zu.zone.realm (s.ctx 0) = false) := by
  refine ⟨by decide, ⟨rfl, rfl⟩, ⟨rfl, rfl⟩, by decide, by decide, by decide, by decide, by decide, ?_,
    .inl ⟨rfl, by decide⟩, .inr ⟨rfl, by decide, by decide⟩, ⟨rfl, rfl, by decide, rfl⟩,
    ⟨rfl, rfl, by decide, rfl, rfl⟩, ?_, by decide⟩
  · intro b hb
    rw [lookupBearer, firstFin_eq_none]
    intro i
    have h := ship_ctx i
    simp only [State.ctx] at h
    rw [h]; split
    · simp [card]; exact fun e => hb e.symm
    · simp [Context.freeAt]
  · exact ⟨rfl, rfl, by decide, by decide, by decide, by decide⟩

theorem witness_BarringFailureNotifiesOnce :
    (ship.ctx 0).notifiedGen ≠ ship.zu.gen ∧ (State.reset.ctx 0).notifiedGen = State.reset.zu.gen
    ∧ (ship.ru 0).state ≠ .unused ∧ (ship.ru 1).state = .unused := by decide

theorem ship_admits : Admissible ship card .bearer ∧ Admissible ship card .signal :=
  ⟨⟨by decide, .inl ⟨rfl, rfl, by decide, by decide, by decide⟩⟩, ⟨by decide, .inr ⟨rfl, .inl rfl⟩⟩⟩

/-- The linked ship with a whole queue of probes on S0. -/
def crowded : State :=
  linked.setQueue (.shore 0) (List.replicate 512 ⟨.control ⟨8, .probe 3 0 0⟩, 0⟩)

theorem crowded_length : (crowded.port (.shore 0)).queue.length = 512 := by
  rw [crowded, State.setQueue_port, if_pos rfl]; exact List.length_replicate

/-- A state in a zone of realm 15, which the context does not serve. -/
def barred (s : State) : State := { s with zu := { s.zu with zone := { Zone.fallback with realm := 15 } } }

/-- A hold queue at its capacity of 1,024 entries. -/
def packed (s : State) : State := { s with cs := { s.cs with hold := List.replicate 1024 entry } }

theorem witness_AdmittedUplinkFrameIsRouted :
    (frameOf 9 4).wf = true ∧ Receives linked (.cell 1) ∧ matchRu linked.cs.rus 1 5 = some 0
    ∧ lookupBearer linked.contexts 9 = some 0 ∧ Admissible linked (linked.ctx 0) .bearer
    ∧ linked.active = some 0 ∧ linked.cs.hold = [] ∧ (linked.port (.shore 0)).queue.length < 512
    ∧ ship.active = none ∧ ship.cs.hold.length < 1024 ∧ bytesOf ship.cs.hold + (9000 + 24) ≤ 1572864
    ∧ (crowded.active = some 0 ∧ 512 ≤ (crowded.port (.shore (crowded.link 0).cfg.port)).queue.length)
    ∧ 1024 ≤ (packed ship).cs.hold.length ∧ (packed ship).active = none := by
  refine ⟨by decide, ⟨rfl, rfl⟩, by decide, by decide, ship_admits.1, rfl, rfl, by decide, rfl, by decide,
    by decide, ⟨rfl, crowded_length.ge⟩, List.length_replicate.ge, rfl⟩

/-- A SIGNAL frame that fails the realm test, for each way it may be carried. -/
theorem witness_AdmittedUplinkFrameIsRouted_signal :
    (⟨.signal, 9, []⟩ : BearerFrame).kind = .signal ∧ (⟨.signal, 9, []⟩ : BearerFrame).wf = true
    ∧ (∀ s ∈ [linked, ship], (barred s).cs.hold = [] ∧ ((barred s).ctx 0).state = .active
      ∧ passesRealm (barred s).zu.zone.realm ((barred s).ctx 0) = false
      ∧ lookupBearer (barred s).contexts 9 = some 0 ∧ matchRu (barred s).cs.rus 1 5 = some 0)
    ∧ (barred linked).active = some 0 ∧ (barred ship).active = none
    ∧ 1024 ≤ (packed (barred ship)).cs.hold.length := by
  refine ⟨rfl, rfl, by decide, rfl, rfl, List.length_replicate.ge⟩

theorem witness_AdmittedDownlinkFrameIsRouted :
    let full := fun s : State => s.setQueue (.cell 1) (crowded.port (.shore 0)).queue
    (frameOf 9 4).wf = true ∧ Receives ship (.shore 0) ∧ matchLink ship.links 0 3 = some 0
    ∧ lookupBearer ship.contexts 9 = some 0 ∧ Admissible ship (ship.ctx 0) .bearer
    ∧ (ship.ru (ship.ctx 0).servingRu).state = .alive ∧ (ship.port (.cell 1)).queue.length < 512
    ∧ 512 ≤ ((full ship).port (.cell 1)).queue.length ∧ 512 ≤ ((full (barred ship)).port (.cell 1)).queue.length
    ∧ (∀ s ∈ [ship.setRu 0 { unit with state := .lost }, barred (ship.setRu 0 { unit with state := .lost })],
      (s.ru 0).state ≠ .alive)
    ∧ (⟨.signal, 9, []⟩ : BearerFrame).kind = .signal ∧ ((barred ship).ctx 0).state = .active
    ∧ passesRealm (barred ship).zu.zone.realm ((barred ship).ctx 0) = false
    ∧ ((barred ship).ru ((barred ship).ctx 0).servingRu).state = .alive
    ∧ ((barred ship).port (.cell 1)).queue.length < 512 := by
  refine ⟨by decide, ⟨rfl, rfl⟩, by decide, by decide, ship_admits.1, by decide, by decide, ?_, ?_, by decide,
    by decide⟩ <;>
  · rw [State.setQueue_port, if_pos rfl]; exact crowded_length.ge

theorem witness_EchoRecordsSuccessOrCountsLate :
    let s := ship.setLink 0 { upLink with outstanding := some (4, 100) }
    Receives s (.shore 0) ∧ matchLink s.links 0 3 = some 0 ∧ (s.link 0).outstanding = some (4, 100)
    ∧ (∀ t, (ship.link 0).outstanding ≠ some (4, t)) ∧ matchLink s.links 0 4 = none := by
  refine ⟨⟨rfl, rfl⟩, by decide, by decide, fun t h => ?_, by decide⟩
  have : (none : Option (Num16 × Time)) = some (4, t) := h
  cases this

theorem witness_RadioStatusMakesUnitAlive :
    Receives ship (.cell 1) ∧ matchRu ship.cs.rus 1 6 = none ∧ matchRu ship.cs.rus 1 5 = some 0
    ∧ (ship.ru 0).state = .alive ∧ ((ship.setRu 0 { unit with state := .lost }).ru 0).state = .lost := by
  refine ⟨⟨rfl, rfl⟩, by decide⟩

/-- Each of the shared checks of R5 and R173 turns some request away. -/
theorem witness_RequestChecksComeInOrder :
    requestOf (.setFloor rq 0) = some (rq, .setFloor)
    ∧ ¬ Receives { ship with resetHeld := true } rq.port ∧ Receives ship rq.port
    ∧ ship.access (.cell 1) = .none
    ∧ (let s := { ship with me := { ship.me with access := ship.me.access.set 0 .read } }
      s.access rq.port ≠ .none ∧ (s.access rq.port).code < Command.setFloor.level.code)
    ∧ (let s := { ship with me := { ship.me with coldPending := .waiting } }
      Command.setFloor.level.code ≤ (s.access rq.port).code ∧ s.me.coldPending ≠ .none)
    ∧ (⟨.cell 0, 7, 1, false⟩ : Request).itemsOk = false
    ∧ (∀ cmd : Command, (15 : Byte).toNat ≠ cmd.code) ∧ (∀ cmd : Command, (47 : Byte).toNat ≠ cmd.code) := by
  refine ⟨rfl, fun h => (by cases h.1), ⟨rfl, rfl⟩, by decide, by decide, by decide, rfl, ?_, ?_⟩ <;>
    intro cmd <;> cases cmd <;> decide

/-- An item of identifier 0, one past the last, one given twice; an argument left out; a value too long, and a
set past its limit. -/
theorem witness_RequestChecksComeInOrder_items :
    (Instr.setFloor rq 3).wf = true ∧ requestOf (.setFloor rq 3) = some (rq, .setFloor)
    ∧ spelling (.setFloor rq 3) = some (rq, 42, [⟨1, [3]⟩]) ∧ Passes ship rq .setFloor
    ∧ (⟨0, []⟩ : Item).id = 0 ∧ argCount .setFloor < (⟨2, []⟩ : Item).id.toNat
    ∧ (∃ y ∈ [(⟨1, [3]⟩ : Item)], y.id = (⟨1, [4]⟩ : Item).id)
    ∧ [(⟨1, [3]⟩ : Item)] = [] ++ ⟨1, [3]⟩ :: [] ∧ Required (.setFloor rq 3) 1
    ∧ Missized .setFloor 1 1 [0, 3] ∧ Missized .setFloor 1 1 []
    ∧ Missized .setFailoverOrder 1 0 (List.replicate 9 0) ∧ ¬ Missized .setFailoverOrder 1 0 (List.replicate 8 0)
    ∧ Required (.createContext rq create) 9 ∧ ¬ Required (.createContext rq { create with account := 1 }) 9
    ∧ Missized .configure 3 7 [0] ∧ ¬ Missized .configure 3 7 [] ∧ ¬ Required (.configure rq nothing) 1 := by
  refine ⟨rfl, rfl, rfl, ship_passes _, rfl, by decide, by decide, rfl, trivial, ?_, ?_, ?_, ?_,
    .inr (by decide), ?_, ?_, ?_, id⟩ <;> simp [Missized, setLimit, Required]

theorem crowded_full : ∀ x ∈ (crowded.port (.shore 0)).queue, x.isUser = false := by
  intro x hx
  rw [crowded, State.setQueue_port, if_pos rfl] at hx
  rw [(List.mem_replicate.mp hx).2]; rfl

theorem witness_ControlEntryTakesItsPlace :
    (ship.port (.shore 0)).queue.length < 512
    ∧ 512 ≤ (crowded.port (.shore 0)).queue.length
    ∧ (∀ x ∈ (crowded.port (.shore 0)).queue, x.isUser = false)
    ∧ (let q : List Entry := ⟨.up entry 0, 0⟩ :: List.replicate 511 ⟨.control ⟨8, .probe 3 0 0⟩, 0⟩
      512 ≤ ((linked.setQueue (.shore 0) q).port (.shore 0)).queue.length
      ∧ (∀ x ∈ List.replicate 511 (⟨.control ⟨8, .probe 3 0 0⟩, 0⟩ : Entry), x.isUser = false)
      ∧ (⟨.up entry 0, 0⟩ : Entry).isUser = true) := by
  refine ⟨by decide, crowded_length.ge, crowded_full, ?_, ?_, rfl⟩
  · rw [State.setQueue_port, if_pos rfl, List.length_cons, List.length_replicate]
  · intro x hx
    rw [(List.mem_replicate.mp hx).2]; rfl

/-- An END marker of a member of the drain set, and a response to a Reset COLD, dropped from a full queue. -/
theorem witness_ControlEntryTakesItsPlace_dropped :
    let s := { crowded with su := { crowded.su with drain := [⟨1, 6, true⟩, ⟨2, 3, false⟩] } }
    512 ≤ (s.port (.shore 0)).queue.length ∧ (∀ x ∈ (s.port (.shore 0)).queue, x.isUser = false)
    ∧ (s.su.drain.filter fun m => !(m.link == 1 && m.switchNumber == 6)) = [⟨2, 3, false⟩]
    ∧ (⟨8, .response 1 46 .ok [] true⟩ : Control).body = .response 1 46 .ok [] true
    ∧ ship.me.coldPending ≠ .due := ⟨crowded_length.ge, crowded_full, by decide, rfl, by decide⟩

/-- Every index of the reports is met at the ends of its range. -/
theorem witness_ReadRequestsOnlyReport :
    (∀ cmd, Passes ship rq cmd)
    ∧ (0 : Num16).toNat = (0 : CtxIx).val ∧ (4095 : Num16).toNat = (4095 : CtxIx).val ∧ 4095 < (4096 : Num16).toNat
    ∧ (9 : Num32) ≠ 0 ∧ lookupBearer ship.contexts 9 = some 0
    ∧ (63 : Byte).toNat = (63 : ZoneIx).val ∧ 63 < (64 : Byte).toNat ∧ (64 : Byte).toNat ≠ 255
    ∧ (7 : Byte).toNat = (7 : LinkIx).val ∧ 7 < (8 : Byte).toNat
    ∧ (15 : Byte).toNat = (15 : RuIx).val ∧ 15 < (16 : Byte).toNat :=
  ⟨ship_passes, by decide⟩

/-- Read Status on a port of level READ, while a cold reset is pending. -/
theorem witness_ReadRequestsOnlyReport_pending :
    let s := { ship with me := { ship.me with coldPending := .waiting, access := ship.me.access.set 0 .read } }
    Receives s rq.port ∧ 1 ≤ (s.access rq.port).code ∧ rq.itemsOk = true ∧ s.me.coldPending ≠ .none :=
  ⟨⟨rfl, rfl⟩, by decide⟩

theorem witness_EventsAreShownThenCleared :
    (∀ cmd, Passes ship rq cmd) ∧ [(15 : Byte), 16].length ≤ 16 ∧ (∃ b ∈ [(15 : Byte), 16], 16 ≤ b.toNat)
    ∧ (∀ b ∈ [(0 : Byte), 15], b.toNat < 16) := ⟨ship_passes, by decide⟩

theorem witness_RaisingWritesItsEntry :
    let s := { ship with me := { ship.me with noticeDest := some (.cell 2, 4) } }
    s.me.noticeFloor < (s.event .ruLost).level ∧ (s.port (.cell 2)).queue.length < 512
    ∧ EventKind.ruLost ≠ .zoneFault
    ∧ ¬ (ship.me.noticeFloor < (ship.event .ruLost).level ∧ ship.me.noticeDest.isSome = true) := by decide

theorem witness_CreateContextTakesLowestFree :
    Passes State.reset rq .createContext ∧ create.bearerId ≠ 0 ∧ create.roamSet.length ≤ 15
    ∧ createValues create = some ⟨7, 0, 0, [], 0, .prepaid, .stopBefore⟩ ∧ (7 : Floor) ≠ 0
    ∧ readRoamSet create.roamSet = some []
    ∧ 1 ≤ create.balance.toInt ∧ create.balance.toInt ≤ 9999999999 ∧ create.lowThreshold.toNat ≤ 9999999999
    ∧ (∀ j, (State.reset.ctx j).state ≠ .free → (State.reset.ctx j).bearerId ≠ create.bearerId)
    ∧ State.reset.zu.gate = .open ∧ (State.reset.ctx 0).state = .free
    ∧ ∀ j : CtxIx, j < 0 → (State.reset.ctx j).state ≠ .free := by
  refine ⟨reset_passes _, by decide, by decide, by decide, by decide, by decide, by decide, by decide, by decide,
    fun j h => ?_, rfl, by decide, fun j h => ?_⟩
  · rw [reset_ctx] at h; exact absurd rfl h
  · exact absurd h (by simp)

/-- Each check of R30 refuses some request. -/
theorem witness_CreateContextRefusesInOrder :
    Passes ship rq .createContext ∧ create.roamSet.length ≤ 15
    ∧ ({ create with cls := 8 }.cls = 0 ∨ 7 < { create with cls := 8 }.cls.toNat)
    ∧ createValues create = some ⟨7, 0, 0, [], 0, .prepaid, .stopBefore⟩
    ∧ 9999999999 < (10000000000 : BitVec 64).toInt ∧ (0 : BitVec 64).toInt < 1
    ∧ (∃ j, (ship.ctx j).state ≠ .free ∧ (ship.ctx j).bearerId = create.bearerId)
    ∧ (∀ j, (State.reset.ctx j).state ≠ .free → (State.reset.ctx j).bearerId ≠ create.bearerId)
    ∧ (let z := { Zu.cold with gate := .closed }
      z.gate = .closed ∧ (7 : Floor).val < z.zone.admission)
    ∧ ∀ j, ({ State.reset with contexts := Vector.replicate 4096 card }.ctx j).state ≠ .free := by
  refine ⟨ship_passes _, by decide, by decide, by decide, by decide, by decide, ⟨0, by decide, by decide⟩,
    fun j h => ?_, by decide, fun j => ?_⟩
  · rw [reset_ctx] at h; exact absurd rfl h
  · simp [State.ctx, card]

theorem witness_NamedContextChecks :
    namingOf (.suspendContext rq name) = some (rq, .suspendContext, name) ∧ Passes ship rq .suspendContext
    ∧ 4095 < (4096 : Num16).toNat ∧ name.index.toNat = (0 : CtxIx).val ∧ (State.reset.ctx 0).state = .free
    ∧ (ship.ctx 0).incarnation ≠ 2 ∧ (ship.ctx 0).incarnation = name.incarnation
    ∧ ((ship.setCtx 0 { card with state := .closing }).ctx 0).state = .closing :=
  ⟨rfl, ship_passes _, by decide⟩

theorem witness_ModifyContextWritesGivenValues :
    Passes ship rq .modifyContext ∧ Names ship name 0 ∧ (ship.ctx 0).state ≠ .closing
    ∧ (ship.ctx 0).account ≠ .postpaid
    ∧ GivesValues ⟨some 7, some 3, some 15, some [15, 1], some 9999999999, some 1⟩
      ⟨some 7, some 3, some 15, some [1, 15], some .stopAfter⟩
    ∧ (9999999999 : BitVec 64).toNat ≤ 9999999999 ∧ (ship.ctx 0).openIv = none :=
  ⟨ship_passes _, ship_names, by decide, by decide, (modifyValues_iff _ _).mp (by decide), by decide, by decide⟩

/-- Values just outside their lists, a CLOSING and a POSTPAID context, and a threshold just over the limit. -/
theorem witness_ModifyContextWritesGivenValues_refusals :
    (∀ a : ModifyArgs, a ∈ ([⟨some 0, none, none, none, none, none⟩, ⟨some 8, none, none, none, none, none⟩,
        ⟨none, some 4, none, none, none, none⟩, ⟨none, none, some 16, none, none, none⟩,
        ⟨none, none, none, some [0], none, none⟩, ⟨none, none, none, some [16], none, none⟩,
        ⟨none, none, none, some (List.replicate 16 1), none, none⟩, ⟨none, none, none, none, none, some 2⟩] :
        List ModifyArgs) → Unlisted a)
    ∧ ¬ Unlisted ⟨none, none, none, none, some 10000000000, none⟩
    ∧ 9999999999 < (10000000000 : BitVec 64).toNat
    ∧ Names (ship.setCtx 0 { card with state := .closing }) name 0
    ∧ Names (ship.setCtx 0 { card with account := .postpaid }) name 0
    ∧ ((ship.setCtx 0 { card with account := .postpaid }).ctx 0).account = .postpaid := by
  refine ⟨fun a h => ?_, fun h => ?_, by decide, ⟨rfl, by decide, by decide⟩, ⟨rfl, by decide, by decide⟩, rfl⟩
  · rw [← modifyValues_none_iff]
    revert a; decide
  · rw [← modifyValues_none_iff] at h
    exact absurd h (by decide)

/-- An interval of period 1 and plan 0. -/
def interval : Interval :=
  { period := 1, zoneIx := 0, zoneGen := 0, realm := 0, plan := 0, start := 0, last := 0, up := 0, down := 0
    free := 0, frames := 0, charge := 0 }

theorem witness_PlanChangeClosesInterval :
    let s := ship.setCtx 0 { card with openIv := some interval }
    Passes s rq .modifyContext ∧ Names s name 0 ∧ (s.ctx 0).state ≠ .closing ∧ (3 : Plan) ≠ (s.ctx 0).plan
    ∧ (s.ctx 0).account ≠ .postpaid
    ∧ GivesValues ⟨some 1, some 3, none, some [], some 0, some 0⟩
      ⟨some 1, some 3, none, some [], some .stopBefore⟩
    ∧ (s.ctx 0).openIv = some interval ∧ s.ur.urq.length < 256 ∧ s.ur.awaiting = [] ∧ (s.ctx 0).awaiting = none
    ∧ ((ship.setCtx 0 { card with awaiting := some record.body }).ctx 0).awaiting ≠ none
    ∧ 256 ≤ ({ s with ur := { s.ur with urq := List.replicate 256 record } } : State).ur.urq.length :=
  ⟨⟨⟨rfl, rfl⟩, by decide, rfl, rfl⟩, ⟨rfl, by decide, by decide⟩, by decide, by decide, by decide,
    (modifyValues_iff _ _).mp (by decide), rfl, by decide, rfl,
    rfl, by decide, List.length_replicate.ge⟩

theorem witness_SuspendAndResumeChangeState :
    let s := ship.setCtx 0 { card with state := .suspended }
    Names ship name 0 ∧ Passes ship rq .suspendContext ∧ (ship.ctx 0).state = .active
    ∧ (ship.ctx 0).state ≠ .suspended ∧ Passes ship rq .resumeContext
    ∧ Names s name 0 ∧ Passes s rq .resumeContext ∧ (s.ctx 0).state = .suspended ∧ (s.ctx 0).state ≠ .active :=
  ⟨ship_names, ship_passes _, by decide, by decide, ship_passes _, ⟨rfl, by decide, by decide⟩,
    ⟨⟨rfl, rfl⟩, by decide, rfl, rfl⟩, by decide, by decide⟩

theorem witness_TopUpAddsMoneyAndAllowance :
    Passes ship rq .topUp ∧ Names ship name 0 ∧ (ship.ctx 0).state ≠ .closing ∧ (ship.ctx 0).account = .prepaid
    ∧ ((ship.setCtx 0 { card with account := .postpaid }).ctx 0).account = .postpaid
    ∧ (9999999989 : BitVec 64) ≠ 0 ∧ (9999999989 : BitVec 64).toNat ≤ 9999999999
    ∧ (ship.ctx 0).balance + (9999999989 : BitVec 64).toNat ≤ 9999999999
    ∧ 9999999999 < (ship.ctx 0).balance + (9999999990 : BitVec 64).toNat
    ∧ (ship.ctx 0).allowance + (4294967295 : BitVec 32).toNat ≤ 4294967295 :=
  ⟨ship_passes _, ship_names, by decide⟩

theorem witness_ReleaseContextPlacesFinalRecord :
    let s := ship.setCtx 0 { card with openIv := some interval, awaiting := some record.body }
    Passes ship rq .releaseContext ∧ Names ship name 0 ∧ (ship.ctx 0).state ≠ .closing
    ∧ (ship.ctx 0).awaiting = none ∧ ship.ur.urq.length < 256 ∧ ship.ur.awaiting = [] ∧ (s.ctx 0).awaiting ≠ none
    ∧ 256 ≤ ({ ship with ur := { ship.ur with urq := List.replicate 256 record } } : State).ur.urq.length :=
  ⟨ship_passes _, ship_names, by decide, rfl, by decide, rfl, by decide, List.length_replicate.ge⟩

/-- A closed period 1 whose sweep waits for its summary. -/
def closing : Ur :=
  { Ur.cold with period := 2, closing := some 1, sweep := .summaryWait, accCurrent := ⟨2, 0, 0⟩, accOther := ⟨1, 3, 7⟩ }

theorem witness_UrqEntriesAreNumbered :
    let s := { State.reset with ur := closing }
    s.ur.accCurrent.period = { record.body with period := 2 }.period
    ∧ s.ur.accCurrent.count.toNat + 1 < 2 ^ 32 ∧ s.ur.accCurrent.period ≠ record.body.period
    ∧ s.ur.accOther.count.toNat + 1 < 2 ^ 32 ∧ s.ur.accOther.charge.toNat + record.body.charge.toNat < 2 ^ 64
    ∧ s.resetHeld = false ∧ s.ur.sweep = .summaryWait ∧ s.ur.closing = some 1
    ∧ (∀ i r, (s.ctx i).awaiting = some r → r.period ≠ 1) ∧ s.ur.urq.length < 256
    ∧ (∃ i r, ((s.setCtx 0 { card with awaiting := some record.body }).ctx i).awaiting = some r ∧ r.period = 1) := by
  refine ⟨by decide, by decide, by decide, by decide, by decide, rfl, rfl, rfl, fun i r h => ?_, by decide,
    0, record.body, by decide, by decide⟩
  have : (State.reset.ctx i).awaiting = some r := h
  rw [reset_ctx] at this; cases this

theorem witness_ClosePeriodSweepsTheTable :
    let ur := { Ur.cold with sweep := .visiting, closing := some 1 }
    let s := { ship with ur := ur }.setCtx 0 { card with openIv := some interval }
    Passes State.reset rq .closePeriod ∧ State.reset.ur.sweep = .idle ∧ closing.sweep ≠ .idle
    ∧ s.resetHeld = false ∧ s.ur.sweep = .visiting ∧ s.ur.position = (0 : CtxIx).val
    ∧ (∀ iv, (ship.ctx 0).openIv = some iv → some iv.period ≠ ur.closing)
    ∧ (s.ctx 0).openIv = some interval ∧ some interval.period = s.ur.closing
    ∧ s.ur.urq.length < 256 ∧ s.ur.awaiting = [] ∧ { ur with sweep := .paused, awaiting := [0] }.awaiting ≠ [] := by
  refine ⟨reset_passes _, by decide, by decide, by decide, by decide, by decide, fun iv h => ?_, by decide⟩
  have : (none : Option Interval) = some iv := h
  cases this

/-- A table whose descriptor 1 covers A from 400 to 599, within 10 of the centre line. -/
def charted (present : Bool) : State :=
  let z : Zone := { Zone.absent with present := present, start := 400, length := 200, crossLimit := 10, realm := 2 }
  { State.reset with zu := { Zu.cold with table := Zu.cold.table.set 1 z } }

/-- The span holds its first position and its last, and the cross limit itself. -/
theorem witness_CandidateIsFirstCovering :
    let covers := fun (a : Nat) (x : Int) (d : ZoneIx) =>
      (charted true).zu.table[d].start ≤ a
        ∧ a < (charted true).zu.table[d].start + (charted true).zu.table[d].length
        ∧ x.natAbs ≤ (charted true).zu.table[d].crossLimit
    covers 400 (-10) 1 ∧ covers 599 10 1 ∧ (∀ e : ZoneIx, e ≠ 0 → e < 1 → ¬ covers 400 0 e)
    ∧ (charted true).zu.table[(1 : ZoneIx)].present = true
    ∧ (charted false).zu.table[(1 : ZoneIx)].present = false
    ∧ (∀ d : ZoneIx, d ≠ 0 → ¬ covers 399 0 d) ∧ (∀ d : ZoneIx, d ≠ 0 → ¬ covers 600 0 d)
    ∧ ∀ d : ZoneIx, d ≠ 0 → ¬ covers 400 11 d := by
  refine ⟨by decide, by decide, by decide, by decide, by decide, by decide +kernel, by decide +kernel, by decide +kernel⟩

theorem witness_PositionReportIsNotUsedOrRejected :
    let s := { State.reset with zu := { Zu.cold with pos := { Zu.cold.pos with state := .fresh, a := 2501 } } }
    Passes s rq .positionReport ∧ 1048575 < (1048576 : BitVec 32).toNat ∧ 2 < (3 : Byte).toNat
    ∧ s.me.clock.toNat < (1 : Time).toNat
    ∧ (fix 0).a.toNat ≤ 1048575 ∧ (fix 0).fixTime.toNat ≤ s.me.clock.toNat ∧ (fix 0).quality = 0
    ∧ (fix 2).quality = 2 ∧ s.zu.pos.state ≠ .lost
    ∧ s.zu.maxStep < max (fix 2).a.toNat s.zu.pos.a - min (fix 2).a.toNat s.zu.pos.a :=
  ⟨⟨⟨rfl, rfl⟩, by decide, rfl, rfl⟩, by decide⟩

/-- A first fix after LOST in zone 0 and in another zone, and later ones below and at the confirm count. -/
theorem witness_AcceptedReportDecidesZone :
    let s := { charted true with zu := { (charted true).zu with
      pos := { Zu.cold.pos with state := .fresh, a := 2500 }, candidate := some 1, count := 2 } }
    Passes s rq .positionReport ∧ (fix 2).a.toNat ≤ 1048575 ∧ (fix 2).fixTime.toNat ≤ s.me.clock.toNat
    ∧ readQuality (fix 2).quality = some .fine
    ∧ firstMatch s.zu.table 500 0 = some 1 ∧ s.zu.table[(1 : ZoneIx)].present = true
    ∧ (charted true).zu.pos.state = .lost ∧ candidateOf s.zu.table 500 0 ≠ s.zu.zoneIx
    ∧ candidateOf State.reset.zu.table 500 0 = State.reset.zu.zoneIx
    ∧ (s.zu.pos.state ≠ .lost ∧ max 500 s.zu.pos.a - min 500 s.zu.pos.a ≤ s.zu.maxStep)
    ∧ s.zu.confirmCount ≤ s.zu.count + 1 ∧ 1 < (charted true).zu.confirmCount := by
  refine ⟨⟨⟨rfl, rfl⟩, by decide, rfl, rfl⟩, by decide, by decide, by decide, by decide +kernel,
    by decide, by decide, by decide +kernel, by decide +kernel, by decide, by decide, by decide⟩

/-- A report whose first match is absent, and that fires W0 and W1. -/
theorem witness_AcceptedReportDecidesZone_fires :
    let s := { charted false with zu := { (charted false).zu with
      pos := { Zu.cold.pos with state := .stale, a := 400 }
      w0 := ⟨500, .increasing, .notify, true⟩, w1 := ⟨401, .increasing, .commit, true⟩ } }
    Passes s rq .positionReport ∧ s.zu.pos.state ≠ .lost ∧ max 500 s.zu.pos.a - min 500 s.zu.pos.a ≤ s.zu.maxStep
    ∧ firstMatch s.zu.table 500 0 = some 1 ∧ s.zu.table[(1 : ZoneIx)].present = false
    ∧ s.zu.w0.fires s.zu.pos.a 500 = true ∧ s.zu.w1.fires s.zu.pos.a 500 = true :=
  ⟨⟨⟨rfl, rfl⟩, by decide, rfl, rfl⟩, by decide, by decide, by decide +kernel, by decide, by decide, by decide⟩

theorem test_report_raises_zone_fault_and_fires_both :
    let s := { charted false with zu := { (charted false).zu with
      pos := { Zu.cold.pos with state := .stale, a := 400 }
      w0 := ⟨500, .increasing, .notify, true⟩, w1 := ⟨401, .increasing, .notify, true⟩ } }
    let t := after (.positionReport rq (fix 2)) s
    (t.event .zoneFault).detail = some (.zoneIndex 1) ∧ (t.event .waypoint).detail = some (.waypoint .w1)
    ∧ t.zu.w0.armed = false ∧ t.zu.w1.armed = false := by decide +kernel

/-- The crossings of R63 at their ends: reaching the value counts, and leaving it does not. Each argument of
Arm Waypoint just outside its list (R62). -/
theorem witness_WaypointsArmAndFire :
    let w : Waypoint := ⟨77, .increasing, .commit, true⟩
    let s := { linked with
      zu := { linked.zu with w0 := w }, su := { linked.su with slotB := some 1, stage := some ⟨.waypoint, .untriggered⟩ } }
    (s.zu.waypoint .w0).armed = true ∧ (76 < w.value ∧ w.value ≤ 77) ∧ ¬ (77 < w.value ∧ w.value ≤ 78)
    ∧ s.su.stage = some ⟨.waypoint, .untriggered⟩ ∧ (linked.su.stage = none)
    ∧ Passes ship rq .armWaypoint ∧ Passes ship rq .disarmWaypoint ∧ (1 : Byte).toNat = WaypointId.w1.code
    ∧ (1048575 : BitVec 32).toNat ≤ 1048575 ∧ 1 < (2 : Byte).toNat
    ∧ ∀ a ∈ ([⟨2, 0, 0, 0⟩, ⟨0, 1048576, 0, 0⟩, ⟨0, 0, 2, 0⟩, ⟨0, 0, 0, 2⟩] : List WaypointArgs),
      1 < a.comparator.toNat ∨ 1048575 < a.value.toNat ∨ 1 < a.direction.toNat ∨ 1 < a.action.toNat :=
  ⟨by decide, by decide, by decide, rfl, rfl, ship_passes _, ship_passes _, by decide⟩

theorem witness_ZoneRequestsAct :
    (∀ cmd, Passes State.reset rq cmd)
    ∧ 63 < (64 : Byte).toNat ∧ 1048575 < (1048576 : BitVec 32).toNat ∧ 1048576 < (1048577 : BitVec 32).toNat
    ∧ State.reset.zu.table[State.reset.zu.zoneIx].present = true
    ∧ (let s := { State.reset with zu := { Zu.cold with zoneIx := 1 } }
      Passes s rq .reloadZone ∧ s.zu.table[s.zu.zoneIx].present = false)
    ∧ State.reset.zu.gate = .open
    ∧ (let s := { State.reset with zu := { Zu.cold with gate := .closed } }
      Passes s rq .openAttach ∧ s.zu.gate = .closed) :=
  ⟨reset_passes, by decide, by decide, by decide, by decide,
    ⟨⟨⟨rfl, rfl⟩, by decide, rfl, rfl⟩, by decide⟩, by decide, ⟨⟨⟨rfl, rfl⟩, by decide, rfl, rfl⟩, by decide⟩⟩

/-- A Write Zone with every field at the end of its range, its descriptor, and a mask one too long. -/
theorem witness_ZoneRequestsAct_fields :
    let z : Zone :=
      { present := false, start := 1048575, length := 1048576, crossLimit := 32767, kind := .international
        realm := 15, permit := .silent, entryKind := .guarded, admission := 8, rates := Vector.replicate 4 100
        linkMask := [0, 7] }
    let a : ZoneArgs :=
      { index := 63, present := 1, start := 1048575, length := 1048576, crossLimit := 32767, kind := 2, realm := 15
        permit := 2, entryKind := 1, admission := 8, rates := Vector.replicate 4 100, linkMask := [7, 0, 7] }
    a.index.toNat = (63 : ZoneIx).val ∧ (63 : ZoneIx) ≠ 0 ∧ a.start.toNat = z.start ∧ a.length.toNat = z.length
    ∧ a.crossLimit.toNat = z.crossLimit ∧ a.realm.toNat = z.realm.val ∧ a.admission.toNat = z.admission
    ∧ a.rates = z.rates ∧ a.linkMask.length ≤ 8 ∧ (∀ b ∈ a.linkMask, b.toNat ≤ 7)
    ∧ z.linkMask = ([0, 1, 2, 3, 4, 5, 6, 7] : List LinkIx).filter
        (fun k => a.linkMask.any fun b => b.toNat == k.val)
    ∧ 8 < [(0 : Byte), 1, 2, 3, 4, 5, 6, 7, 7].length := by decide

theorem witness_PositionDeadlinesAge :
    let fresh := { Zu.cold with pos := { Zu.cold.pos with state := .fresh, stale := some 40 } }
    let stale := { Zu.cold with pos := { Zu.cold.pos with state := .stale, lost := some 40 } }
    fresh.pos.state = .fresh ∧ fresh.pos.stale = some 40 ∧ stale.pos.state = .stale ∧ stale.pos.lost = some 40
    ∧ (40 : Time).toNat ≤ (atTime 40 ship).me.clock.toNat ∧ (atTime 39 ship).me.clock.toNat < (40 : Time).toNat
    ∧ (atTime 40 ship).resetHeld = false := by decide

/-- Each row of the table of R129 is met. -/
theorem witness_HealthFollowsItsTable :
    let l := { upLink with losses := 3 }
    let lossy := { upLink with outcomes := [.loss, .loss, .loss, .loss], s8 := some 2000008 }
    l.cfg.downCount ≤ l.losses ∧ upLink.losses < upLink.cfg.downCount
    ∧ upLink.cfg.impairLoss ≤ (lossy.outcomes.filter fun o => o == .loss).length
    ∧ (∃ v, some (4000008 : Nat) = some v ∧ upLink.cfg.rttLimit < v / 8)
    ∧ (∃ v, some (2000000 : Nat) = some v ∧ v / 8 ≤ upLink.cfg.rttRecover)
    ∧ (upLink.outcomes.filter fun o => o == .loss).length ≤ upLink.cfg.recoverLoss
    ∧ (Health.down ≠ upLink.health ∧ upLink.health ≠ .off) := by
  refine ⟨by decide, by decide, by decide, ⟨_, rfl, by decide⟩, ⟨_, rfl, by decide⟩, by decide, by decide⟩

theorem witness_ProbeTimeBuildsProbe :
    (atTime 1000 ship).resetHeld = false ∧ (ship.link 0).probeAt = some 1000 ∧ (ship.link 0).health ≠ .off
    ∧ (1000 : Time).toNat ≤ (atTime 1000 ship).me.clock.toNat
    ∧ (atTime 999 ship).me.clock.toNat < (1000 : Time).toNat
    ∧ (ship.port (.shore 0)).carrier = true ∧ (ship.port (.shore 0)).queue.length < 512
    ∧ ((ship.setCarrier (.shore 0) false).port (.shore 0)).carrier = false := by decide

/-- A probe time with the queue full of control entries. -/
theorem witness_ProbeTimeBuildsProbe_full :
    let s := atTime 1000 crowded
    s.resetHeld = false ∧ (s.link 0).probeAt = some 1000 ∧ (s.link 0).health ≠ .off ∧ (s.link 0).outstanding = none
    ∧ (s.port (.shore (s.link 0).cfg.port)).carrier = true
    ∧ 512 ≤ (s.port (.shore (s.link 0).cfg.port)).queue.length
    ∧ ∀ x ∈ (s.port (.shore (s.link 0).cfg.port)).queue, x.isUser = false :=
  ⟨rfl, by decide, by decide, by decide, rfl, crowded_length.ge, crowded_full⟩

/-- A Write Link in range, and each of its arguments just outside. -/
theorem witness_WriteLinkRestartsLink :
    Passes ship rq .writeLink ∧ link.index.toNat = (1 : LinkIx).val ∧ readYesNo link.enabled = some true
    ∧ link.shorePort.toNat = (2 : Fin 4).val + 4 ∧ readLinkKind link.kind = some .satellite
    ∧ link.recoverLoss.toNat < max 1 (min 16 link.impairLoss.toNat)
    ∧ link.rttRecover.toNat ≤ max 1 (min 9999999 link.rttLimit.toNat)
    ∧ max 1 (min 16 (4 : Byte).toNat) ≤ (4 : Byte).toNat
    ∧ ∀ a ∈ [{ link with index := 8 }, { link with enabled := 2 }, { link with shorePort := 3 },
        { link with shorePort := 8 }, { link with kind := 3 }],
      7 < a.index.toNat ∨ 1 < a.enabled.toNat ∨ a.shorePort.toNat < 4 ∨ 7 < a.shorePort.toNat
        ∨ 2 < a.kind.toNat := ⟨ship_passes _, by decide⟩

theorem witness_CarrierChangesActOnTheirPort :
    linked.resetHeld = false ∧ (linked.port (.shore 0)).carrier = true
    ∧ holdsColdResponse (linked.port (.cell 0)).queue = false
    ∧ (linked.port (.cell 0)).carrier = true
    ∧ holdsColdResponse ((after (.resetCold rq) linked).port (.cell 0)).queue = true := by decide

/-- Two links on the port that had health, and one on another port; none; a response to a Reset COLD on the
port; a carrier that is DOWN already. -/
theorem witness_CarrierChangesActOnTheirPort_shore :
    let two := (linked.setLink 3 { upLink with health := .trial }).setLink 5
      { upLink with cfg := { upLink.cfg with port := 1 } }
    let faulted := fun (s : State) (k : LinkIx) => (s.link k).cfg.port = 0
      ∧ ((s.link k).health = .trial ∨ (s.link k).health = .up ∨ (s.link k).health = .impaired)
    faulted two 0 ∧ faulted two 3 ∧ (∀ j, 3 < j → ¬ faulted two j) ∧ (∀ k, ¬ faulted State.reset k)
    ∧ holdsColdResponse ((linked.setQueue (.shore 0)
        [⟨.control ⟨8, .response 1 46 .ok [] true⟩, 0⟩]).port (.shore 0)).queue = true
    ∧ ((linked.setCarrier (.shore 0) false).port (.shore 0)).carrier = false
    ∧ ({ linked with resetHeld := true } : State).resetHeld = true := by
  refine ⟨by decide, by decide, by decide, fun k h => ?_, by decide, by decide, rfl⟩
  have h' : (State.reset.link k).health = .trial ∨ (State.reset.link k).health = .up
      ∨ (State.reset.link k).health = .impaired := h.2
  rw [reset_link] at h'
  exact absurd h' (by decide)

/-- A drain set that holds the new link and another, a labelled entry to move with and without an active
link, and a hold queue with an equal and a later intake time. -/
theorem witness_SwitchTakesItsSteps :
    let s := { linked with su := { linked.su with
      slotB := some 1, stage := some ⟨.now, .waiting⟩, drain := [⟨1, 4, true⟩, ⟨2, 3, false⟩] } }
    let late := { entry with intake := 1 }
    s.active = some 0 ∧ (commitSlots s.su).active = some 1 ∧ SwitchCause.staged ≠ .failover
    ∧ ((commitSlots s.su).drain.filter fun m => m.link ≠ 1) = [⟨2, 3, false⟩]
    ∧ (writeSlots none s.su).active ≠ some 0 ∧ ship.active = none
    ∧ (∃ x ∈ ((loaded 0 entry).port (.shore 0)).queue, x.hasLabel 0 = true)
    ∧ (loaded 0 entry).active = some 0 ∧ { loaded 0 entry with su := Su.cold }.active = none
    ∧ (∀ y ∈ [entry], y.intake.toNat ≤ entry.intake.toNat) ∧ entry.intake.toNat < late.intake.toNat
    ∧ [entry, late] = [entry] ++ late :: [] := by
  decide

theorem witness_StageRequestsSteer :
    (∀ cmd, Passes linked rq cmd) ∧ (0 : Byte).toNat = (0 : LinkIx).val ∧ (7 : Byte).toNat = (7 : LinkIx).val
    ∧ (2 : Byte).toNat = Trigger.waypoint.code ∧ linked.active = some 0 ∧ linked.usable 7 = false
    ∧ (linked.setLink 7 upLink).usable 7 = true ∧ 7 < (8 : Byte).toNat ∧ 2 < (3 : Byte).toNat
    ∧ linked.su.stage = none
    ∧ [(7 : Byte), 0] = ([7, 0] : List LinkIx).map (fun k => BitVec.ofNat 8 k.val) ∧ ([7, 0] : List LinkIx).Nodup
    ∧ ¬ [(1 : Byte), 1].Nodup :=
  ⟨linked_passes, by decide⟩

/-- In blackout: a staged link that is usable, a staged link that is not beside an order that gives one, and
neither. -/
theorem witness_StageRequestsSteer_blackout :
    let staged := fun (k : LinkIx) (cond : StageCondition) (order : List LinkIx) => ({ ship.got rq.port with
      su := { ship.su.setSlot ship.su.inForce.other (some k) with stage := some ⟨.now, cond⟩, order := order } } : State)
    (∀ cmd, Passes ship rq cmd) ∧ ship.active = none ∧ ship.su.order = []
    ∧ (∃ u, Recovers (staged 0 .untriggered []) (some 0) u) ∧ (∃ u, Recovers (staged 1 .waiting [1, 0]) (some 0) u)
    ∧ (∃ u, Recovers (staged 1 .waiting []) none u)
    ∧ (∃ u, Recovers { ship.got rq.port with su := { ship.su with order := [7, 0] } } (some 0) u) := by
  have unstaged : ∀ order j, ¬ StagedUsable ({ ship.got rq.port with
      su := { ship.su.setSlot ship.su.inForce.other (some 1) with
        stage := some ⟨.now, .waiting⟩, order := order } } : State) j := by
    rintro order j ⟨-, h, h'⟩
    cases h
    exact Bool.false_ne_true ((show ship.usable 1 = false by decide).symm.trans h')
  exact ⟨ship_passes, rfl, rfl, ⟨_, .inl ⟨⟨by decide, rfl, by decide⟩, rfl⟩⟩,
    ⟨_, .inr ⟨unstaged _, .inl ⟨[1], [], rfl, by decide, by decide, by decide⟩, rfl⟩⟩,
    ⟨_, unstaged _, ⟨by simp [NoneInOrder], by simp [NoneInOrder]⟩, rfl⟩,
    ⟨_, .inr ⟨fun j h => h.1 rfl, .inl ⟨[7], [], rfl, by decide, by decide, by decide⟩, rfl⟩⟩⟩

/-- The ship with link 1 UP, the link with a number active, and link 1 staged WAITING. -/
def steering (active : LinkIx) : State :=
  { ship.setLink 1 upLink with su := { Su.cold with
    slotA := some active, slotB := some 1, stage := some ⟨.now, .waiting⟩, order := [0, 1] } }

/-- Each row of R144 is met, by a link and by the mask of a zone. -/
theorem witness_StageRequestsSteer_rows :
    let down := linked.setLink 0 { upLink with health := .down }
    let shut := fun s : State => { s with zu := { s.zu with zone := { s.zu.zone with linkMask := [1] } } }
    ((down.link 0).health = .down ∧ down.active = some 0 ∧ down.su.drain = [] ∧ Successor down none)
    ∧ Successor ((steering 2).setLink 0 { upLink with health := .impaired }) (some 1)
    ∧ Successor (linked.setLink 7 upLink) none
    ∧ (let s := { down with su := { Su.cold with drain := [⟨0, 6, false⟩] } }
      s.active ≠ some 0 ∧ ∃ m ∈ s.su.drain, m.link = 0)
    ∧ ((linked.link 0).health = .up ∧ linked.su.slot linked.su.inForce.other = none)
    ∧ ((steering 0).active = some 0 ∧ WaitingUsable (steering 0) 1 ∧ ¬ WaitingUsable (steering 0) 0)
    ∧ (∀ j, ¬ WaitingUsable linked j)
    ∧ (ship.active = none ∧ ship.usable 0 = true ∧ (shut ship).usable 0 = false ∧ (ship.link 0).health = .up)
    ∧ (0 ∉ (shut linked).zu.zone.linkMask ∧ 0 ∈ linked.zu.zone.linkMask ∧ Successor (shut linked) none) := by
  have unstaged : ∀ s : State, s.su.stage = none → ∀ j, ¬ StagedUsable s j := fun s h j h' => h'.1 h
  have empty : ∀ s : State, s.su.order = [] → FromOrder s none := fun s h => by simp [FromOrder, NoneInOrder, h]
  refine ⟨⟨by decide, rfl, rfl, empty _ rfl, unstaged _ rfl⟩,
    .inl (.inl ⟨[0], [], rfl, by decide, by decide, by decide⟩), ⟨empty _ rfl, unstaged _ rfl⟩, by decide,
    ⟨by decide, rfl⟩, ⟨rfl, ⟨⟨by decide, rfl, by decide⟩, _, rfl, rfl⟩, fun h => ?_⟩,
    fun j h => unstaged _ rfl j h.1, by decide, ⟨by decide, by decide, empty _ rfl, unstaged _ rfl⟩⟩
  exact absurd h.1.2.1 (by decide)

theorem witness_EndMarkerFollowsLastEntry :
    let s := { linked with su := { linked.su with drain := [⟨0, 6, false⟩] } }
    s.resetHeld = false ∧ (⟨0, 6, false⟩ : Member) ∈ s.su.drain
    ∧ (∀ n ∈ s.su.drain, n.link = 0 → n = ⟨0, 6, false⟩)
    ∧ (∀ x ∈ (s.port (.shore 0)).queue, ∀ e, x.body ≠ .up e 0)
    ∧ (∃ x ∈ ((loaded 0 entry).port (.shore 0)).queue, ∃ e, x.body = .up e 0) := by
  refine ⟨rfl, by decide, by decide, ?_, ⟨.up entry 0, 0⟩, by decide, entry, rfl⟩
  intro x hx
  have : x ∈ ([] : List Entry) := hx
  cases this

theorem witness_HoldQueueAgesAndDrains :
    let s := { linked with cs := { linked.cs with hold := [entry] } }
    s.resetHeld = false ∧ s.me.nextBoundary.toNat ≤ (atTime 100000 s).me.clock.toNat
    ∧ ¬ s.me.nextBoundary.toNat ≤ (atTime 99999 s).me.clock.toNat ∧ s.su.stage = none
    ∧ (s.su.setSlot .b (some 1)).slot s.su.inForce.other = some 1
    ∧ s.usable 1 = false ∧ (s.setLink 1 upLink).usable 1 = true
    ∧ s.active = some 0 ∧ s.cs.hold = [entry] ∧ (s.port (.shore 0)).queue.length < 512
    ∧ s.cs.holdAge * 1000000 < (atTime 10000001 s).me.clock.toNat - entry.intake.toNat
    ∧ ¬ s.cs.holdAge * 1000000 < (atTime 10000000 s).me.clock.toNat - entry.intake.toNat := by decide

theorem witness_CoverageDeadlinesAct :
    ship.resetHeld = false ∧ (ship.port (.cell 1)).queue.length ≤ 496
    ∧ ship.cs.nextHeartbeat.toNat ≤ (atTime 1000000 ship).me.clock.toNat
    ∧ ship.me.clock.toNat < ship.cs.nextHeartbeat.toNat
    ∧ { ship.cs with grace := some 40 }.grace = some 40 ∧ (40 : Time).toNat ≤ (atTime 40 ship).me.clock.toNat
    ∧ ship.cs.grace = none ∧ (ship.ru 0).state = .alive ∧ (ship.ru 0).deadline = some 50
    ∧ (50 : Time).toNat ≤ (atTime 50 ship).me.clock.toNat ∧ (ship.ru 1).state ≠ .alive := by decide

/-- The hand-over of a switch to none, with the grace time at its cold-reset value and at 0, and of one to a
link while the timer runs. -/
theorem test_hand_over_runs_the_grace_timer :
    (csHandover false (some none) (atTime 40 ship)).cs.grace = some 20000040
    ∧ (csHandover false (some none) { ship with cs := { ship.cs with graceTime := 0 } }).cs.grace = none
    ∧ (csHandover false (some (some 0)) { linked with cs := { linked.cs with grace := some 9 } }).cs.grace = none
    ∧ (csHandover true none { linked with cs := { linked.cs with grace := some 9 } }).cs.grace = some 9 := by
  decide +kernel

theorem witness_UnitAndFloorRequestsWrite :
    (∀ cmd, Passes ship rq cmd) ∧ (15 : Byte).toNat = (15 : RuIx).val ∧ (3 : Byte).toNat = (3 : Fin 4).val
    ∧ 15 < (16 : Byte).toNat ∧ 1 < (2 : Byte).toNat ∧ 3 < (4 : Byte).toNat
    ∧ (7 : Byte).toNat = (7 : Floor).val ∧ 7 < (8 : Byte).toNat := ⟨ship_passes, by decide⟩

/-- A frame of class 7 before one of class 6: the first is of smaller precedence number. -/
theorem witness_SelectionTakesSmallestPrecedence :
    let late : Entry := ⟨.up { entry with cls := 6 } 0, 0⟩
    let s := loaded 0 entry
    let low := s.setCtx 0 { card with exhausted := true }
    s.resetHeld = false ∧ (s.port (.shore 0)).carrier = true ∧ (s.port (.shore 0)).sending = none
    ∧ (∀ x ∈ [late], (⟨.up entry 0, 0⟩ : Entry).precedence < x.precedence)
    ∧ (meter entry .uplink 256 s).1 = none ∧ (meter entry .uplink 256 low).1 = some .exhausted
    ∧ (ship.port (.shore 0)).queue = [] := by decide

theorem witness_MeteringChecksThenOpensInterval :
    { entry with incarnation := 2 }.incarnation ≠ (ship.ctx 0).incarnation
    ∧ entry.incarnation = (ship.ctx 0).incarnation ∧ entry.frame.kind = .bearer ∧ (ship.ctx 0).state = .active
    ∧ passesRealm ship.zu.zone.realm (ship.ctx 0) = true ∧ passesRealm 15 (ship.ctx 0) = false
    ∧ (ship.ctx 0).exhausted = false ∧ (ship.ctx 0).openIv = none
    ∧ ¬ ({ interval with zoneGen := 7 }.period = ship.ur.period ∧ { interval with zoneGen := 7 }.zoneGen = ship.zu.gen
      ∧ { interval with zoneGen := 7 }.plan = (ship.ctx 0).plan)
    ∧ ship.ur.urq.length < 256 ∧ ship.ur.awaiting = [] ∧ [(1 : CtxIx)] ≠ [] ∧ (ship.ctx 0).awaiting = none := by
  decide

/-- Both sides of the quota, and balances above, at and below 0 and the threshold. -/
theorem witness_FrameIsCharged :
    let s := ship.setCtx 0 { card with openIv := some interval }
    entry.incarnation = (s.ctx 0).incarnation ∧ entry.frame.kind = .bearer ∧ (s.ctx 0).state = .active
    ∧ passesRealm s.zu.zone.realm (s.ctx 0) = true ∧ (s.ctx 0).openIv = some interval
    ∧ interval.period = s.ur.period ∧ interval.zoneGen = s.zu.gen ∧ interval.plan = (s.ctx 0).plan
    ∧ (s.ctx 0).account = .prepaid ∧ (s.ctx 0).exhausted = false ∧ (s.ctx 0).limitMode = .stopBefore
    ∧ (1 : Int) < (chargeOf 44 0 65535 256 255999999).cost
    ∧ (chargeOf 4 0 0 256 0).cost ≤ (s.ctx 0).balance
    ∧ (0 : Int) < (s.ctx 0).balance - (chargeOf 4 0 0 256 0).cost
    ∧ (s.ctx 0).low = false ∧ (10 : Int) - (chargeOf 44 0 65535 256 0).cost < 10
    ∧ (2 : Int) - (chargeOf 44 0 65535 256 0).cost ≤ 0 ∧ (s.ctx 0).lowThreshold ≤ (s.ctx 0).balance := by
  decide

theorem witness_ChargeIsExact : 9000 ≤ 9000 ∧ 65535 ≤ 65535 ∧ 1023 ≤ 1023 ∧ 255999999 < 256000000 := by decide

theorem witness_UsageFrameTakesHeadRecords :
    billing.resetHeld = false ∧ billing.ur.collector = some (.shore 3, 4) ∧ billing.ur.outstanding = none
    ∧ billing.ur.urq ≠ [] ∧ (billing.port (.shore 3)).carrier = true
    ∧ (billing.port (.shore 3)).queue.length < 512 ∧ State.reset.ur.collector = none := by decide

/-- A usage frame, a probe, an END marker, user frames and a response in transmission. -/
theorem witness_CompletionIsReported :
    let sent := after (.entrySelection (.shore 3)) (after .usageFrameBuild billing)
    let carried := fun (p : Port) (s : State) => ((after (.entrySelection p) s).port p).sending.map Wire.carried
    (sent.port (.shore 3)).sending.map Wire.carried = some (.control (.usage [record]))
    ∧ sent.resetHeld = false ∧ sent.ur.outstanding = some 1 ∧ sent.ur.sweep = .idle ∧ sent.ur.awaiting = []
    ∧ carried (.cell 0) (after (.resetCold rq) State.reset) = some (.control (.response 1 46 .ok [⟨1, [0]⟩] true))
    ∧ carried (.shore 0) (after (.endMarker 0) { ship with su := { Su.cold with drain := [⟨0, 6, false⟩] } })
      = some (.control (.endMarker 0 3 6 0xffffffff))
    ∧ carried (.shore 0) (after (.probeTime 0) (atTime 1000 ship)) = some (.control (.probe 3 0 1000))
    ∧ carried (.shore 0) (loaded 0 entry) = some (.link 3 0 entry)
    ∧ carried (.cell 1) (after (.linkFrameIntake 0 8 3 0 (frameOf 9 4)) ship) = some (.bare entry) := by
  decide

/-- Two records done while a CLOSING context waits, a PAUSED sweep that goes on and one that stays, and a
summary that is due. -/
theorem witness_CompletionIsReported_freed :
    let two := { billing with ur := { billing.ur with urq := [record, record], outstanding := some 2, awaiting := [0] } }
    let s := two.setCtx 0 { card with state := .closing, awaiting := some record.body }
    let freed := fun (k : Nat) (s : State) => { s with ur := { s.ur with urq := s.ur.urq.drop k, outstanding := none } }
    let enter := fun (u : State) (i : CtxIx) =>
      match (u.ctx i).awaiting with
      | none => u
      | some r => urqEnter r (u.setCtx i
          (if (u.ctx i).state = CtxState.closing then Context.freeAt (u.ctx i).incarnation
           else { u.ctx i with awaiting := none }))
    let give := fun (n : Nat) (u : State) =>
      (u.ur.awaiting.take n).foldl enter { u with ur := { u.ur with awaiting := u.ur.awaiting.drop n } }
    let more := { s with ur := { s.ur with awaiting := [0, 1, 2], sweep := .paused } }
    let due := { billing with ur := { closing with urq := [record], outstanding := some 1 } }
    (s.ur.outstanding = some 2 ∧ s.ur.sweep ≠ .paused ∧ ((give 2 (freed 2 s)).ctx 0).state = .free)
    ∧ ((give 2 (freed 2 { s with ur := { s.ur with sweep := .paused } })).ur.urq.length < 256
      ∧ (give 2 (freed 2 { s with ur := { s.ur with sweep := .paused } })).ur.awaiting = [])
    ∧ (give 2 (freed 2 more)).ur.awaiting ≠ []
    ∧ due.ur.sweep = .summaryWait ∧ due.ur.closing = some 1 ∧ 1 ≤ 1 ∧ due.ur.urq ≠ [] ∧ due.ur.urq.length ≤ 256
    ∧ ∀ i r, (due.ctx i).awaiting = some r → r.period ≠ 1 := by
  refine ⟨by decide, by decide, by decide, rfl, rfl, by decide, by decide, by decide, fun i r h => ?_⟩
  have : (State.reset.ctx i).awaiting = some r := h
  rw [reset_ctx] at this; cases this

/-- A Configure that gives a setting of each kind, and one refused for each reason. -/
theorem witness_ConfigureWritesSettings :
    Passes ship rq .configure ∧ (0x05ff : BitVec 16).toNat < 0x0600 ∧ 0x0600 ≤ (0x0600 : BitVec 16).toNat
    ∧ 7 < (8 : Byte).toNat ∧ (7 : Byte).toNat = (portIx (.shore 3)).val ∧ (3 : Byte).toNat < 4
    ∧ 15 < (16 : Byte).toNat ∧ (15 : Byte).toNat = EventKind.periodClosed.ix.val
    ∧ ship.zu.staleTimeout < ship.zu.lostTimeout ∧ min 3600 (30 : BitVec 32).toNat ≤ ship.zu.staleTimeout :=
  ⟨ship_passes _, by decide⟩

/-- Pairs of which two name one port and one kind: the last of each counts. -/
theorem witness_ConfigureWritesSettings_pairs :
    settings.access = [⟨1, 1⟩, ⟨2, 2⟩] ++ ⟨1, 3⟩ :: [] ∧ settings.access = [⟨1, 1⟩] ++ ⟨2, 2⟩ :: [⟨1, 3⟩]
    ∧ (2 : Byte).toNat = (portIx (.cell 2)).val ∧ (∀ y ∈ [(⟨1, 3⟩ : PairArg)], y.selector.toNat ≠ (portIx (.cell 2)).val)
    ∧ settings.eventLevels = [⟨15, 7⟩] ++ ⟨0, 9⟩ :: [⟨15, 2⟩]
    ∧ (∀ y ∈ [(⟨15, 2⟩ : PairArg)], y.selector.toNat ≠ (0 : Byte).toNat) ∧ min 7 (9 : Byte).toNat = 7 := by decide

/-- A ship whose notices go to C2, whose queues hold an entry, and that has counted a drop. -/
theorem witness_WarmResetKeepsAccounts :
    let s := loaded 0 entry
    Passes linked rq .reset ∧ (linked.link 0).health ≠ .off ∧ (linked.ru 0).state ≠ .unused
    ∧ (linked.ru 1).state = .unused
    ∧ Passes { s with me := { s.me with noticeDest := some (.cell 2, 4) } } rq .reset
    ∧ (s.port (.shore 0)).queue ≠ [] ∧ (drop .holdFull .uplink s).dropCount .holdFull .uplink ≠ 0 :=
  ⟨linked_passes _, by decide, by decide, by decide, ⟨⟨rfl, rfl⟩, by decide, rfl, rfl⟩, by decide, by decide⟩

/-- A usage frame in transmission, one in its queue, and a link that is OFF. -/
theorem witness_WarmResetKeepsAccounts_usage :
    let built := after .usageFrameBuild billing
    let sent := after (.entrySelection (.shore 3)) built
    Passes sent rq .reset ∧ Passes built rq .reset
    ∧ (sent.port (.shore 3)).sending.map Wire.carried = some (.control (.usage [record]))
    ∧ sent.ur.outstanding = some 1 ∧ built.ur.outstanding = some 1 ∧ (∀ p, (built.port p).sending = none)
    ∧ (sent.link 0).health = .off := by
  refine ⟨⟨⟨by decide, by decide⟩, by decide, by decide, rfl⟩, ⟨⟨by decide, by decide⟩, by decide, by decide, rfl⟩,
    by decide, by decide, by decide, fun p => ?_, by decide⟩
  cases p <;> rename_i i <;> fin_cases i <;> decide

theorem witness_ColdResetClearsEverything :
    Passes ship rq .reset ∧ { ship with resetHeld := true }.resetHeld = true ∧ ship.resetHeld = false
    ∧ 1 < (2 : Byte).toNat
    ∧ { ship.me with coldPending := .due }.coldPending = .due ∧ ship.me.coldPending ≠ .due :=
  ⟨ship_passes _, by decide⟩

end Sys2Proof.Tests
end

section
/-! The queues of the part: what the capacities (R15, R103, R154) and the order of intake (R154 to R156) speak
of, and that each operation keeps both. -/

namespace Sys2Proof.Machine

/-! ### The queues, and what keeps their capacities and their order -/

/-- What the capacities and the order of intake are about: the queues and the route clock. -/
structure Queues where
  queue : Port → List Entry
  hold : List UserEntry
  urq : List UrqRecord
  outstanding : Option Nat
  clock : Time

/-- The queues of a state. -/
def State.queues (s : State) : Queues :=
  ⟨fun p => (s.port p).queue, s.cs.hold, s.ur.urq, s.ur.outstanding, s.me.clock⟩

/-- From `s` to `t` the queues stay within their capacities, the hold queue in its order, and the route clock
stands. -/
structure QueuesKept (s t : State) : Prop where
  capacity : WithinCapacity s → WithinCapacity t
  order : HoldInOrder s → HoldInOrder t
  clock : t.me.clock = s.me.clock

theorem QueuesKept.refl (s : State) : QueuesKept s s := ⟨id, id, rfl⟩

theorem QueuesKept.trans {s t u : State} (h : QueuesKept s t) (g : QueuesKept t u) : QueuesKept s u :=
  ⟨g.capacity ∘ h.capacity, g.order ∘ h.order, g.clock.trans h.clock⟩

/-- A change of anything but the queues and the route clock keeps them. -/
theorem QueuesKept.of_eq {s t : State} (h : t.queues = s.queues) : QueuesKept s t := by
  have hq : ∀ p, (t.port p).queue = (s.port p).queue := congrFun (congrArg Queues.queue h)
  have hh : t.cs.hold = s.cs.hold := congrArg Queues.hold h
  have hu : t.ur.urq = s.ur.urq := congrArg Queues.urq h
  have ho : t.ur.outstanding = s.ur.outstanding := congrArg Queues.outstanding h
  have hc : t.me.clock = s.me.clock := congrArg Queues.clock h
  refine ⟨?_, ?_, hc⟩
  · simp only [WithinCapacity, hq, hh, hu, ho]; exact id
  · simp only [HoldInOrder, Waits, hq, hh, hc]; exact id

/-- A change after one that keeps the queues. -/
theorem QueuesKept.after {s t u : State} (g : QueuesKept t u) (h : QueuesKept s t) : QueuesKept s u := h.trans g

/-- A change that keeps the queues after one of other things. -/
theorem QueuesKept.from {s t u : State} (g : QueuesKept t u) (e : t.queues = s.queues) : QueuesKept s u :=
  g.after (.of_eq e)

/-- A port written with its queue as it was. -/
theorem queues_setPort (s : State) (p : Port) (x : PortState) (h : x.queue = (s.port p).queue) :
    (s.setPort p x).queues = s.queues := by
  have : ∀ q, ((s.setPort p x).port q).queue = (s.port q).queue := by
    intro q
    by_cases e : p = q
    · subst e; simp [h]
    · simp [e]
  simp only [State.queues, this]; rfl

/-- What is dropped from a full queue changes no queue (R15). -/
theorem queues_controlDropped (c : Control) (s : State) : (controlDropped c s).queues = s.queues := by
  unfold controlDropped; split <;> rfl

/-! ### Egress queues (R14, R15) -/

/-- Entries leave an egress queue. -/
theorem queuesKept_setQueue (s : State) (p : Port) (q : List Entry) (h : q.Sublist (s.port p).queue) :
    QueuesKept s (s.setQueue p q) := by
  have mem : ∀ r, ((s.setQueue p q).port r).queue.Sublist (s.port r).queue := by
    intro r
    by_cases e : p = r
    · subst e; simpa using h
    · simp [e]
  refine ⟨fun ⟨hp, hrest⟩ => ⟨fun r => (mem r).length_le.trans (hp r), hrest⟩, fun ⟨ho, hc⟩ => ⟨ho, ?_⟩, rfl⟩
  rintro e (he | ⟨r, x, hx, hu⟩)
  · exact hc e (.inl he)
  · exact hc e (.inr ⟨r, x, (mem r).subset hx, hu⟩)

/-- An entry joins an egress queue; a user entry was taken in no later than now. -/
theorem place_inOrder (s : State) (p : Port) (b : EntryBody) (h : HoldInOrder s)
    (old : ∀ e, b.user = some e → e.intake.toNat ≤ s.me.clock.toNat) : HoldInOrder (place p b s) := by
  refine ⟨h.1, ?_⟩
  rintro e (he | ⟨q, x, hx, hu⟩)
  · exact h.2 e (.inl he)
  by_cases pq : p = q
  · subst pq
    rw [place_port, if_pos rfl, List.mem_append, List.mem_singleton] at hx
    rcases hx with hx | rfl
    · exact h.2 e (.inr ⟨p, x, hx, hu⟩)
    · exact old e hu
  · rw [place_port, if_neg pq] at hx
    exact h.2 e (.inr ⟨q, x, hx, hu⟩)

/-- An entry joins an egress queue that has room (R15). -/
theorem place_withinCapacity (s : State) (p : Port) (b : EntryBody) (room : s.hasRoom p = true)
    (h : WithinCapacity s) : WithinCapacity (place p b s) := by
  refine ⟨fun q => ?_, h.2⟩
  have room := (State.hasRoom_iff s p).mp room
  by_cases e : p = q
  · subst e; simp; omega
  · simpa [e] using h.1 q

theorem queuesKept_place (s : State) (p : Port) (b : EntryBody) (room : s.hasRoom p = true)
    (old : ∀ e, b.user = some e → e.intake.toNat ≤ s.me.clock.toNat) : QueuesKept s (place p b s) :=
  ⟨place_withinCapacity s p b room, fun h => place_inOrder s p b h old, rfl⟩

/-- An offered control entry keeps the queues: one placed in a full queue takes the place of another (R15). -/
theorem queuesKept_offerControl (s : State) (p : Port) (c : Control) : QueuesKept s (offerControl p c s) := by
  refine ⟨fun h => ⟨fun q => offerControl_length s p q c h.1, by simpa using h.2⟩, fun h => ?_, by simp⟩
  have control : ∀ t : State, ∀ e, (EntryBody.control c).user = some e → e.intake.toNat ≤ t.me.clock.toNat := by
    simp [EntryBody.user]
  rcases offerControl_cases s p c with ⟨-, e⟩ | ⟨-, x, q, hd, e⟩ | ⟨-, -, e⟩ <;> rw [e]
  · exact place_inOrder s p _ h (control s)
  · obtain ⟨pre, post, hq, rfl, -⟩ := displacedEntry_split _ _ _ hd
    have left := queuesKept_setQueue s p (pre ++ post) (by rw [hq]; simp)
    exact place_inOrder _ p _ (left.order h) (control _)
  · exact (QueuesKept.of_eq (queues_controlDropped c (drop _ _ s))).order h

end Sys2Proof.Machine
end

namespace Sys2Proof.Machine

/-! ### Events, notices, responses, heartbeats -/

/-- What a fold keeps when each of its steps does. -/
theorem queuesKept_foldl {α : Type} (f : State → α → State) (kept : ∀ s a, QueuesKept s (f s a))
    (xs : List α) (s : State) : QueuesKept s (xs.foldl f s) := by
  induction xs generalizing s with
  | nil => exact .refl s
  | cons x xs ih => exact (kept s x).trans (ih _)

theorem queuesKept_raise (s : State) (k : EventKind) (d : Option Detail) : QueuesKept s (raise k d s) := by
  by_cases h : s.me.noticeFloor < (s.event k).level ∧ s.me.noticeDest.isSome = true
  · obtain ⟨⟨p, a⟩, hd⟩ := Option.isSome_iff_exists.mp h.2
    rw [raise_noticed s k d p a hd h.1]
    exact (queuesKept_offerControl _ p _).from rfl
  · rw [raise_unnoticed s k d h]
    exact .of_eq rfl

theorem queuesKept_sendBearerNotice (s : State) (i : CtxIx) (c : Context) (n : BearerNotice) :
    QueuesKept s (sendBearerNotice i c n s) := by
  rcases sendBearerNotice_cases s i c n with ⟨-, e⟩ | ⟨-, e⟩ <;> rw [e]
  · exact .refl s
  · exact queuesKept_offerControl s _ _

theorem queuesKept_sendHeartbeat (s : State) (r : RuIx) : QueuesKept s (sendHeartbeat r s) := by
  simp only [sendHeartbeat]
  split
  · exact .refl s
  · exact (queuesKept_offerControl _ _ _).from rfl

theorem queuesKept_round (s : State) : QueuesKept s (round s) :=
  queuesKept_foldl _ (fun s r => queuesKept_sendHeartbeat s r) _ s

theorem queuesKept_recomputeFloor (s : State) : QueuesKept s (recomputeFloor s) := .of_eq rfl

theorem queuesKept_recomputeLevel (s : State) : QueuesKept s (recomputeLevel s) := by
  rcases recomputeLevel_cases s with ⟨-, e⟩ | ⟨-, e⟩ <;> rw [e]
  · exact .refl s
  · exact (queuesKept_recomputeFloor _).after ((queuesKept_raise _ _ _).from rfl)

theorem queuesKept_graceAtSwitch (s : State) (new : Option LinkIx) : QueuesKept s (graceAtSwitch new s) := by
  cases new <;> exact .of_eq rfl

theorem queuesKept_csHandover (s : State) (g : Bool) (sw : Option (Option LinkIx)) :
    QueuesKept s (csHandover g sw s) := by
  have timer : QueuesKept s (match sw with
      | none => s
      | some new => graceAtSwitch new s) := by
    cases sw with
    | none => exact .refl s
    | some new => exact queuesKept_graceAtSwitch s new
  rcases csHandover_cases s g sw with e | e <;> rw [e]
  · exact (queuesKept_round _).after <| (queuesKept_recomputeLevel _).after timer
  · exact timer.trans (queuesKept_recomputeLevel _)

/-! ### The hold queue (R154 to R157) -/

theorem bytesOf_sublist {g h : List UserEntry} (sub : g.Sublist h) : bytesOf g ≤ bytesOf h :=
  (sub.map UserEntry.length).sum_le_sum fun _ _ => Nat.zero_le _

/-- A hold queue within its limits is written (R154). -/
theorem setHold_withinCapacity (s : State) (g : List UserEntry) (frames : g.length ≤ 1024)
    (bytes : bytesOf g ≤ 1572864) (h : WithinCapacity s) : WithinCapacity (s.setHold g) :=
  ⟨h.1, frames, bytes, h.2.2.2⟩

/-- A hold queue in order is written, whose entries waited or were taken in no later than now. -/
theorem setHold_inOrder (s : State) (g : List UserEntry)
    (ordered : g.Pairwise fun a b => a.intake.toNat ≤ b.intake.toNat)
    (old : ∀ e ∈ g, e ∈ s.cs.hold ∨ e.intake.toNat ≤ s.me.clock.toNat) (h : HoldInOrder s) :
    HoldInOrder (s.setHold g) := by
  refine ⟨ordered, ?_⟩
  rintro e (he | he)
  · rcases old e he with hold | late
    · exact h.2 e (.inl hold)
    · exact late
  · exact h.2 e (.inr he)

/-- Entries leave the hold queue. -/
theorem queuesKept_setHold (s : State) (g : List UserEntry) (sub : g.Sublist s.cs.hold) :
    QueuesKept s (s.setHold g) :=
  ⟨fun h => setHold_withinCapacity s g (sub.length_le.trans h.2.1) ((bytesOf_sublist sub).trans h.2.2.1) h,
    fun h => setHold_inOrder s g (h.1.sublist sub) (fun _ he => .inl (sub.subset he)) h, rfl⟩

/-- An entry taken in now joins the tail of the hold queue, or is dropped (R155). -/
theorem queuesKept_holdJoin (s : State) (e : UserEntry) (now : e.intake = s.me.clock) :
    QueuesKept s (holdJoin e s) := by
  rcases holdJoin_cases s e with ⟨room, eq⟩ | ⟨-, eq⟩ <;> rw [eq]
  · obtain ⟨frames, bytes⟩ := (holdRoom_iff _ _).mp room
    refine ⟨setHold_withinCapacity s _ (by simp; omega) (by simpa using bytes), fun h => ?_, rfl⟩
    refine setHold_inOrder s _ (List.pairwise_append.mpr ⟨h.1, List.pairwise_singleton _ _, ?_⟩) ?_ h
    · intro a ha b hb
      rw [List.mem_singleton.mp hb, now]
      exact h.2 a (.inl ha)
    · intro x hx
      rcases List.mem_append.mp hx with hx | hx
      · exact .inl hx
      · rw [List.mem_singleton.mp hx, now]; exact .inr le_rfl
  · exact (queuesKept_raise _ _ _).from rfl

/-- One returned entry that fits is placed by intake (R156). -/
theorem insertByIntake_withinCapacity (s : State) (e : UserEntry) (room : holdRoom s.cs.hold e = true)
    (h : WithinCapacity s) : WithinCapacity (s.setHold (insertByIntake e s.cs.hold)) := by
  obtain ⟨frames, bytes⟩ := (holdRoom_iff _ _).mp room
  refine setHold_withinCapacity s _ ?_ ?_ h
  · rw [insertByIntake_length]; omega
  · rw [bytesOf_insertByIntake]; exact bytes

theorem setHold_insertByIntake_inOrder (s : State) (e : UserEntry) (old : e.intake.toNat ≤ s.me.clock.toNat)
    (h : HoldInOrder s) : HoldInOrder (s.setHold (insertByIntake e s.cs.hold)) := by
  refine setHold_inOrder s _ (insertByIntake_inOrder e _ h.1) (fun x hx => ?_) h
  rcases List.mem_cons.mp ((insertByIntake_perm e _).subset hx) with rfl | hx
  · exact .inr old
  · exact .inl hx

/-- A batch placed by intake is put in whole (R156). -/
theorem foldl_insertByIntake_perm (es h : List UserEntry) :
    (es.foldl (fun h e => insertByIntake e h) h).Perm (es ++ h) := by
  induction es generalizing h with
  | nil => exact .refl h
  | cons e es ih =>
    exact (ih _).trans (((insertByIntake_perm e h).append_left es).trans List.perm_middle)

theorem foldl_insertByIntake_inOrder (es h : List UserEntry)
    (ho : h.Pairwise fun a b => a.intake.toNat ≤ b.intake.toNat) :
    (es.foldl (fun h e => insertByIntake e h) h).Pairwise fun a b => a.intake.toNat ≤ b.intake.toNat := by
  induction es generalizing h with
  | nil => exact ho
  | cons e es ih => exact ih _ (insertByIntake_inOrder e h ho)

/-- A batch returned is cut to fit (R151). -/
theorem returnBatch_withinCapacity (s : State) (es : List UserEntry) (h : WithinCapacity s) :
    WithinCapacity (returnBatch es s) := by
  obtain ⟨m, hm, fits, -, e⟩ := returnBatch_spec s es
  have perm := foldl_insertByIntake_perm (es.take m) s.cs.hold
  have bytes := (perm.map UserEntry.length).sum_eq
  simp only [List.map_append, List.sum_append] at bytes
  have len := perm.length_eq
  rw [List.length_append, List.length_take_of_le hm] at len
  rw [e]
  refine setHold_withinCapacity s _ ?_ ?_ h
  · rcases fits with rfl | fits
    · simpa using h.2.1
    · omega
  · rcases fits with rfl | fits
    · simpa using h.2.2.1
    · unfold bytesOf at fits ⊢; omega

theorem returnBatch_inOrder (s : State) (es : List UserEntry)
    (old : ∀ e ∈ es, e.intake.toNat ≤ s.me.clock.toNat) (h : HoldInOrder s) :
    HoldInOrder (returnBatch es s) := by
  obtain ⟨m, -, -, -, e⟩ := returnBatch_spec s es
  rw [e]
  refine setHold_inOrder s _ (foldl_insertByIntake_inOrder _ _ h.1) (fun x hx => ?_) h
  rcases List.mem_append.mp ((foldl_insertByIntake_perm _ _).subset hx) with hx | hx
  · exact .inr (old x (List.mem_of_mem_take hx))
  · exact .inl hx

/-! ### Moves (R151) -/

theorem moveTo_withinCapacity (new : LinkIx) (shut : Bool) (es : List UserEntry) (s : State)
    (h : WithinCapacity s) : WithinCapacity (moveTo new shut es s) := by
  induction es generalizing s shut with
  | nil => exact h
  | cons e es ih =>
    rw [moveTo]
    split
    · next room => exact ih _ _ (place_withinCapacity s _ _ room h)
    · split
      · next fits =>
        exact ih _ _ (insertByIntake_withinCapacity s e (Bool.and_eq_true_iff.mp fits).2 h)
      · exact ih _ _ h

theorem moveTo_inOrder (new : LinkIx) (shut : Bool) (es : List UserEntry) (s : State)
    (old : ∀ e ∈ es, e.intake.toNat ≤ s.me.clock.toNat) (h : HoldInOrder s) :
    HoldInOrder (moveTo new shut es s) := by
  induction es generalizing s shut with
  | nil => exact h
  | cons e es ih =>
    obtain ⟨first, rest⟩ := List.forall_mem_cons.mp old
    rw [moveTo]
    split
    · refine ih _ _ rest (place_inOrder s _ _ h ?_)
      rintro x hx; cases hx; exact first
    · split
      · exact ih _ _ rest (setHold_insertByIntake_inOrder s e first h)
      · exact ih _ _ rest h

theorem queuesKept_takeOut (s : State) (k : LinkIx) : QueuesKept s (takeOut k s) :=
  queuesKept_foldl _ (fun s _ => queuesKept_setQueue s _ _ List.filter_sublist) _ s

/-- The entries of a link wait in the shore queues (R151). -/
theorem waits_of_mem_entriesOf {s : State} {k : LinkIx} {e : UserEntry} (h : e ∈ entriesOf k s) : Waits s e := by
  simp only [entriesOf, labelled, List.mem_flatMap, List.mem_filterMap] at h
  obtain ⟨p, -, x, hx, hb⟩ := h
  refine .inr ⟨.shore p, x, hx, ?_⟩
  split at hb
  · next u l hu =>
    split at hb
    · rw [hu]; exact hb
    · cases hb
  · cases hb

theorem queuesKept_moveEntries (s : State) (k : LinkIx) : QueuesKept s (moveEntries k s) := by
  have out := queuesKept_takeOut s k
  have old : HoldInOrder s → ∀ e ∈ entriesOf k s, e.intake.toNat ≤ (takeOut k s).me.clock.toNat := by
    intro h e he
    rw [out.clock]
    exact h.2 e (waits_of_mem_entriesOf he)
  simp only [moveEntries]
  split
  · exact ⟨fun h => moveTo_withinCapacity _ _ _ _ (out.capacity h),
      fun h => moveTo_inOrder _ _ _ _ (old h) (out.order h), by simp⟩
  · exact ⟨fun h => returnBatch_withinCapacity _ _ (out.capacity h),
      fun h => returnBatch_inOrder _ _ (old h) (out.order h), by simp⟩

/-! ### Switches, link changes and zone changes (R144, R147) -/

theorem queuesKept_offerMarker (s : State) (old new : Option LinkIx) (c : SwitchCause) :
    QueuesKept s (offerMarker old new c s) := by
  cases new with
  | none => exact .refl s
  | some k => exact queuesKept_offerControl s _ _

theorem queuesKept_settleOld (s : State) (old : Option LinkIx) (c : SwitchCause) :
    QueuesKept s (settleOld old c s) := by
  cases old with
  | none => exact .refl s
  | some k => cases c <;> first | exact queuesKept_moveEntries s k | exact .of_eq rfl

theorem queuesKept_raiseSwitch (s : State) (old new : Option LinkIx) (c : SwitchCause) :
    QueuesKept s (raiseSwitch old new c s) := by
  cases new with
  | none => exact (queuesKept_raise s _ _).trans (queuesKept_raise _ _ _)
  | some k => exact queuesKept_raise s _ _

theorem queuesKept_makeSwitch (s : State) (c : SwitchCause) (new : Option LinkIx) (write : Su → Su) :
    QueuesKept s (makeSwitch c new write s) := by
  unfold makeSwitch
  exact (queuesKept_recomputeFloor _).after <| (queuesKept_raiseSwitch _ _ _ _).after <|
    (queuesKept_settleOld _ _ _).after <| (queuesKept_offerMarker _ _ _ _).from rfl

theorem queuesKept_recoveryTest (s : State) : QueuesKept s (recoveryTest s).state := by
  unfold recoveryTest
  split
  · exact .refl s
  · split
    · exact queuesKept_makeSwitch s _ _ _
    · split
      · exact queuesKept_makeSwitch s _ _ _
      · exact .refl s

theorem queuesKept_commitWaiting (s : State) : QueuesKept s (commitWaiting s).state := by
  unfold commitWaiting
  split
  · split
    · exact queuesKept_makeSwitch s _ _ _
    · exact .refl s
  · exact .refl s

theorem queuesKept_fireTrigger (s : State) : QueuesKept s (fireTrigger s).state := by
  unfold fireTrigger
  split
  · exact queuesKept_makeSwitch s _ _ _
  · exact .of_eq rfl

theorem queuesKept_tellCs (s : State) (r : Steered) (h : QueuesKept s r.state) : QueuesKept s (tellCs r) := by
  unfold tellCs
  split
  · exact h
  · exact h.trans (queuesKept_csHandover _ _ _)

/-- A row of R144 keeps the queues when SU's handling does. -/
theorem queuesKept_steerIf (s : State) (c : Bool) (f : State → Steered) (h : QueuesKept s (f s).state) :
    QueuesKept s (steerIf c f s) := by
  unfold steerIf
  split
  · exact queuesKept_tellCs s _ h
  · exact .refl s

theorem queuesKept_floorRow (s : State) (k : LinkIx) : QueuesKept s (floorRow k s) := by
  unfold floorRow; split <;> exact .of_eq rfl

theorem queuesKept_drainRow (s : State) (k : LinkIx) : QueuesKept s (drainRow k s) := by
  unfold drainRow
  split
  · exact (queuesKept_moveEntries _ k).from rfl
  · exact .refl s

theorem queuesKept_suLinkChanged (s : State) (k : LinkIx) : QueuesKept s (suLinkChanged k s) :=
  (queuesKept_steerIf _ _ _ (queuesKept_recoveryTest _)).after <|
    (queuesKept_steerIf _ _ _ (queuesKept_makeSwitch _ _ _ _)).after <| (queuesKept_drainRow _ k).after <|
    (queuesKept_floorRow _ k).after <| queuesKept_steerIf s _ _ (queuesKept_makeSwitch s _ _ _)

theorem queuesKept_suZoneChanged (s : State) : QueuesKept s (suZoneChanged s).state := by
  unfold suZoneChanged
  split
  · split
    · exact queuesKept_commitWaiting s
    · split
      · exact queuesKept_commitWaiting s
      · exact queuesKept_makeSwitch s _ _ _
  · split
    · exact queuesKept_commitWaiting s
    · exact queuesKept_recoveryTest s

theorem queuesKept_triggerMoment (s : State) (t : Trigger) : QueuesKept s (triggerMoment t s) := by
  unfold triggerMoment
  split
  · exact queuesKept_steerIf s _ _ (queuesKept_fireTrigger s)
  · exact .refl s

theorem queuesKept_enterZone (s : State) (d : ZoneIx) : QueuesKept s (enterZone d s) := by
  have raised := queuesKept_raise { s with zu := { s.zu with zoneIx := d, zone := s.zu.table[d], gen := s.zu.gen + 1 } }
    .zoneChange (some (.zone d (s.zu.gen + 1)))
  exact QueuesKept.from (raised.trans (.of_eq rfl)) rfl

theorem queuesKept_zoneChange (s : State) (d : ZoneIx) : QueuesKept s (zoneChange d s) :=
  (queuesKept_csHandover _ _ _).after <| (queuesKept_suZoneChanged _).after <| queuesKept_enterZone s d

theorem queuesKept_healthEvent (s : State) (k : LinkIx) (before after : Health) :
    QueuesKept s (healthEvent k before after s) := by
  unfold healthEvent
  split
  · exact .refl s
  · split
    · exact (queuesKept_raise _ _ _).from rfl
    · exact queuesKept_raise s _ _

theorem queuesKept_changeHealth (s : State) (k : LinkIx) (h : Health) : QueuesKept s (changeHealth k h s) := by
  simp only [changeHealth]
  split
  · exact .refl s
  · exact (queuesKept_suLinkChanged _ k).after <| (queuesKept_healthEvent _ _ _ _).from rfl

end Sys2Proof.Machine

namespace Sys2Proof.Machine

/-! ### Links (R122 to R132) -/

theorem queuesKept_evaluate (s : State) (k : LinkIx) (o : ProbeOutcome) : QueuesKept s (evaluate k o s) :=
  queuesKept_changeHealth s k _

theorem queuesKept_loseOutstanding (s : State) (k : LinkIx) : QueuesKept s (loseOutstanding k s) := by
  unfold loseOutstanding
  split
  · exact .refl s
  · exact (queuesKept_evaluate _ _ _).from rfl

theorem queuesKept_buildProbe (s : State) (k : LinkIx) : QueuesKept s (buildProbe k s) := by
  simp only [buildProbe]
  split
  · exact (queuesKept_offerControl _ _ _).from rfl
  · exact .of_eq rfl

theorem queuesKept_probeTime (s : State) (k : LinkIx) : QueuesKept s (probeTime k s) := by
  unfold probeTime
  split
  · exact .refl s
  · exact .refl s
  · split
    · exact ((queuesKept_buildProbe _ k).after (queuesKept_loseOutstanding s k)).trans (.of_eq rfl)
    · exact .refl s

theorem queuesKept_echoOf (s : State) (k : LinkIx) (n : Num16) : QueuesKept s (echoOf k n s) := by
  simp only [echoOf]
  split
  · exact .of_eq rfl
  · split
    · exact (queuesKept_evaluate _ _ _).from rfl
    · exact .of_eq rfl

theorem queuesKept_echoIn (s : State) (port : Fin 4) (a n : Num16) : QueuesKept s (echoIn port a n s) := by
  unfold echoIn
  split
  · exact .of_eq rfl
  · exact queuesKept_echoOf s _ n

theorem queuesKept_coldOnCarrierLoss (s : State) (p : Port) : QueuesKept s (coldOnCarrierLoss p s) := by
  unfold coldOnCarrierLoss; split <;> exact .of_eq rfl

theorem queuesKept_setCarrier (s : State) (p : Port) (up : Bool) : QueuesKept s (s.setCarrier p up) :=
  .of_eq (queues_setPort s p _ rfl)

theorem queuesKept_carrierLost (port : Fin 4) (s : State) (k : LinkIx) : QueuesKept s (carrierLost port s k) := by
  simp only [carrierLost]
  split
  · split
    · exact .of_eq rfl
    · exact (queuesKept_changeHealth _ _ _).from rfl
  · exact .refl s

theorem queuesKept_shoreCarrierDown (s : State) (port : Fin 4) : QueuesKept s (shoreCarrierDown port s) := by
  unfold shoreCarrierDown
  split
  · dsimp only
    split
    · exact queuesKept_setCarrier s _ _
    · exact (queuesKept_foldl _ (queuesKept_carrierLost port) _ _).after <|
        (queuesKept_coldOnCarrierLoss _ _).after <| queuesKept_setCarrier s _ _
  · exact .refl s

theorem queuesKept_cellCarrierChange (s : State) (port : Fin 4) (up : Bool) :
    QueuesKept s (cellCarrierChange port up s) := by
  simp only [cellCarrierChange]
  split
  · exact (queuesKept_coldOnCarrierLoss _ _).after <| queuesKept_setCarrier s _ _
  · exact queuesKept_setCarrier s _ _

end Sys2Proof.Machine

namespace Sys2Proof.Machine

/-! ### Freed entries go to the awaiting list (R102, R104) -/

/-- The awaiting list written. -/
def State.setAwaiting (s : State) (is : List CtxIx) : State := { s with ur := { s.ur with awaiting := is } }

/-- The awaiting interval of a context of the list enters the URQ, its slot becomes empty, and a CLOSING
context becomes FREE (R102). -/
def enterAwaiting (u : State) (i : CtxIx) : State :=
  match (u.ctx i).awaiting with
  | none => u
  | some r => urqEnter r (u.setCtx i
      (if (u.ctx i).state = CtxState.closing then Context.freeAt (u.ctx i).incarnation
       else { u.ctx i with awaiting := none }))

theorem enterAwaiting_none {u : State} {i : CtxIx} (h : (u.ctx i).awaiting = none) : enterAwaiting u i = u := by
  simp only [enterAwaiting, h]

theorem enterAwaiting_some {u : State} {i : CtxIx} {r : Record} (h : (u.ctx i).awaiting = some r) :
    enterAwaiting u i = urqEnter r (u.setCtx i
      (if (u.ctx i).state = CtxState.closing then Context.freeAt (u.ctx i).incarnation
       else { u.ctx i with awaiting := none })) := by
  simp only [enterAwaiting, h]

@[simp] theorem setAwaiting_ctx (s : State) (is : List CtxIx) (i : CtxIx) : (s.setAwaiting is).ctx i = s.ctx i :=
  rfl

/-- A record that enters the URQ does not read the list. -/
theorem urqEnter_setAwaiting (s : State) (r : Record) (is : List CtxIx) :
    urqEnter r (s.setAwaiting is) = (urqEnter r s).setAwaiting is := by
  have cur : inCurrent (s.setAwaiting is).ur r.period = inCurrent s.ur r.period := rfl
  have acc : accOf (s.setAwaiting is).ur r.period = accOf s.ur r.period := rfl
  simp only [urqEnter, cur, acc]
  split <;> rfl

theorem enterAwaiting_setAwaiting (u : State) (i : CtxIx) (is : List CtxIx) :
    enterAwaiting (u.setAwaiting is) i = (enterAwaiting u i).setAwaiting is := by
  cases h : (u.ctx i).awaiting with
  | none => rw [enterAwaiting_none h, enterAwaiting_none (by simpa using h)]
  | some r => rw [enterAwaiting_some h, enterAwaiting_some (r := r) (by simpa using h), ← urqEnter_setAwaiting]; rfl

/-- The head of the awaiting list enters the URQ and leaves the list (R102). -/
theorem drainAwaitingHead_eq (s : State) (i : CtxIx) (rest : List CtxIx) (h : s.ur.awaiting = i :: rest) :
    drainAwaitingHead s = enterAwaiting (s.setAwaiting rest) i := by
  cases ha : (s.ctx i).awaiting with
  | none =>
    rw [enterAwaiting_none (by simpa using ha)]
    simp only [drainAwaitingHead, h, ha]; rfl
  | some r =>
    rw [enterAwaiting_some (r := r) (by simpa using ha)]
    simp only [drainAwaitingHead, h, ha, freeContext, urqEnter_ctx, State.setCtx_ctx, if_true, setAwaiting_ctx,
      beq_iff_eq]
    by_cases closing : (s.ctx i).state = .closing
    · simp only [closing, if_true]
      exact State.setCtx_setCtx (urqEnter r (s.setAwaiting rest)) i _ _
    · simp only [closing, if_false]; rfl

/-- Freed entries go to the awaiting list in list order, one for each context (R104). -/
theorem drainAwaiting_eq (n : Nat) (s : State) :
    drainAwaiting n s
      = (s.ur.awaiting.take n).foldl enterAwaiting (s.setAwaiting (s.ur.awaiting.drop n)) := by
  induction n generalizing s with
  | zero => rfl
  | succ n ih =>
    cases h : s.ur.awaiting with
    | nil => simp [drainAwaiting, h]; rw [← h]; rfl
    | cons i rest =>
      have list : (enterAwaiting (s.setAwaiting rest) i).ur.awaiting = rest := by rw [enterAwaiting_setAwaiting]; rfl
      rw [drainAwaiting, h, if_neg (by simp), ih, drainAwaitingHead_eq s i rest h, list, List.take_succ_cons,
        List.foldl_cons, List.drop_succ_cons, ← enterAwaiting_setAwaiting]
      rfl

end Sys2Proof.Machine

namespace Sys2Proof.Machine

/-! ### The URQ (R103 to R111) -/

/-- UR written anew, with the URQ and the outstanding frame within their limits. -/
theorem queuesKept_setUr (s : State) (u : Ur) (fits : WithinCapacity s → u.urq.length ≤ 256
      ∧ ∀ n, u.outstanding = some n → n ≤ u.urq.length ∧ n ≤ 16) : QueuesKept s { s with ur := u } :=
  ⟨fun h => ⟨h.1, h.2.1, h.2.2.1, fits h⟩, id, rfl⟩

/-- A record more at the tail of the URQ leaves the outstanding frame at its head. -/
theorem WithinCapacity.urq_succ {s : State} {u : Ur} (h : WithinCapacity s) (room : s.ur.urq.length < 256)
    (len : u.urq.length = s.ur.urq.length + 1) (out : u.outstanding = s.ur.outstanding) :
    u.urq.length ≤ 256 ∧ ∀ n, u.outstanding = some n → n ≤ u.urq.length ∧ n ≤ 16 := by
  obtain ⟨-, -, -, -, head⟩ := h
  refine ⟨by omega, fun n hn => ?_⟩
  have := head n (out ▸ hn)
  omega

theorem queuesKept_urqEnter (s : State) (r : Record) (room : s.ur.urq.length < 256) :
    QueuesKept s (urqEnter r s) :=
  queuesKept_setUr s _ fun h => h.urq_succ room (urqEnter_urq_length s r) (urqEnter_ur_outstanding s r)

theorem enterAwaiting_inOrder (s : State) (i : CtxIx) (h : HoldInOrder s) : HoldInOrder (enterAwaiting s i) := by
  unfold enterAwaiting; split <;> exact h

theorem enterAwaiting_clock (s : State) (i : CtxIx) : (enterAwaiting s i).me.clock = s.me.clock := by
  unfold enterAwaiting; split <;> rfl

theorem enterAwaiting_urq_length (s : State) (i : CtxIx) :
    (enterAwaiting s i).ur.urq.length ≤ s.ur.urq.length + 1 := by
  unfold enterAwaiting
  split
  · omega
  · rw [urqEnter_urq_length]; rfl

theorem enterAwaiting_withinCapacity (s : State) (i : CtxIx) (room : s.ur.urq.length < 256)
    (h : WithinCapacity s) : WithinCapacity (enterAwaiting s i) := by
  cases ha : (s.ctx i).awaiting with
  | none => rw [enterAwaiting_none ha]; exact h
  | some r => rw [enterAwaiting_some ha]; exact (queuesKept_urqEnter _ r room).capacity h

/-- As many freed entries as the URQ has room for are given to the awaiting list (R104). -/
theorem drainAwaiting_withinCapacity (n : Nat) (s : State) (room : s.ur.urq.length + n ≤ 256)
    (h : WithinCapacity s) : WithinCapacity (drainAwaiting n s) := by
  have enter : ∀ (is : List CtxIx) (u : State), WithinCapacity u → u.ur.urq.length + is.length ≤ 256 →
      WithinCapacity (is.foldl enterAwaiting u) := by
    intro is
    induction is with
    | nil => exact fun _ hu _ => hu
    | cons i is ih =>
      intro u hu room
      rw [List.length_cons] at room
      have := enterAwaiting_urq_length u i
      exact ih _ (enterAwaiting_withinCapacity u i (by omega) hu) (by omega)
  rw [drainAwaiting_eq]
  refine enter _ _ h ?_
  have : (s.ur.awaiting.take n).length ≤ n := List.length_take_le n _
  exact (Nat.add_le_add_left this _).trans room

theorem drainAwaiting_inOrder (n : Nat) (s : State) (h : HoldInOrder s) : HoldInOrder (drainAwaiting n s) := by
  rw [drainAwaiting_eq]
  exact List.foldlRecOn _ enterAwaiting (motive := HoldInOrder) h fun u hu i _ => enterAwaiting_inOrder u i hu

theorem drainAwaiting_clock (n : Nat) (s : State) : (drainAwaiting n s).me.clock = s.me.clock := by
  rw [drainAwaiting_eq]
  exact foldl_keeps (fun s : State => s.me.clock) enterAwaiting enterAwaiting_clock _ _

/-- UR with the summary of a period at the tail of the URQ (R111). -/
def summarized (p : Num32) (ur : Ur) : Ur :=
  { ur with urq := ur.urq ++ [{ body := summaryRecord p ur.accOther, number := countUp ur.accOther.count }] }

/-- Placing a summary: the record, the event, and the sweep IDLE (R111). -/
theorem placeSummary_eq (p : Num32) (s : State) :
    let placed := raise .periodClosed (some (.period p)) { s with ur := summarized p s.ur }
    placeSummary p s = { placed with ur := { placed.ur with sweep := .idle, closing := none } } := rfl

theorem placeSummary_urq_length (p : Num32) (s : State) :
    (placeSummary p s).ur.urq.length = s.ur.urq.length + 1 := by
  simp [placeSummary]

theorem placeSummary_withinCapacity (p : Num32) (s : State) (room : s.ur.urq.length < 256)
    (h : WithinCapacity s) : WithinCapacity (placeSummary p s) := by
  have placed := (queuesKept_setUr s (summarized p s.ur) fun h => h.urq_succ room (by simp [summarized]) rfl).capacity h
  have raised := (queuesKept_raise _ .periodClosed (some (.period p))).capacity placed
  rw [placeSummary_eq]
  exact QueuesKept.capacity (.of_eq rfl) raised

theorem placeSummary_inOrder (p : Num32) (s : State) (h : HoldInOrder s) : HoldInOrder (placeSummary p s) := by
  rw [placeSummary_eq]
  exact (queuesKept_raise { s with ur := summarized p s.ur } _ _).order h

theorem placeSummary_clock (p : Num32) (s : State) : (placeSummary p s).me.clock = s.me.clock := by
  simp [placeSummary]

theorem queuesKept_periodSummary (s : State) : QueuesKept s (periodSummary s) := by
  unfold periodSummary
  split
  · split
    · next room =>
      have room := (State.urqRoom_iff s).mp room
      exact ⟨placeSummary_withinCapacity _ s room, placeSummary_inOrder _ s, placeSummary_clock _ s⟩
    · exact .refl s
  · exact .refl s

/-- `k` freed entries are given out where the URQ has room for them (R104). -/
theorem giveOut_withinCapacity (k : Nat) (s : State) (room : s.ur.urq.length + k ≤ 256)
    (h : WithinCapacity s) : WithinCapacity (giveOut k s) := by
  unfold giveOut
  split
  · next n p _ =>
    refine drainAwaiting_withinCapacity n _ ?_ (placeSummary_withinCapacity p s (by omega) h)
    rw [placeSummary_urq_length]; omega
  · exact drainAwaiting_withinCapacity _ s room h

theorem giveOut_inOrder (k : Nat) (s : State) (h : HoldInOrder s) : HoldInOrder (giveOut k s) := by
  unfold giveOut
  split
  · exact drainAwaiting_inOrder _ _ (placeSummary_inOrder _ s h)
  · exact drainAwaiting_inOrder _ s h

theorem giveOut_clock (k : Nat) (s : State) : (giveOut k s).me.clock = s.me.clock := by
  unfold giveOut
  split
  · rw [drainAwaiting_clock, placeSummary_clock]
  · exact drainAwaiting_clock _ s

theorem queuesKept_resumeSweep (s : State) : QueuesKept s (resumeSweep s) := by
  unfold resumeSweep; split <;> exact .of_eq rfl

/-- The records of a completed usage frame leave the URQ, and as many entries are given out (R104, R106). -/
theorem queuesKept_usageCompleted (s : State) : QueuesKept s (usageCompleted s) := by
  unfold usageCompleted
  split
  · exact .refl s
  · next k hk =>
    refine (queuesKept_resumeSweep _).after ⟨fun h => ?_, fun h => giveOut_inOrder k _ h, giveOut_clock k _⟩
    have full := h.2.2.2.1
    obtain ⟨hk, -⟩ := h.2.2.2.2 k hk
    refine giveOut_withinCapacity k _ ?_ ((queuesKept_setUr s _ fun _ => ⟨?_, by simp⟩).capacity h)
    · simp only [List.length_drop]; omega
    · simp only [List.length_drop]; omega

theorem queuesKept_usageFrameBuild (s : State) : QueuesKept s (usageFrameBuild s) := by
  unfold usageFrameBuild
  split
  · dsimp only
    split
    · refine (queuesKept_offerControl _ _ _).after (queuesKept_setUr s _ fun h => ⟨h.2.2.2.1, fun n hn => ?_⟩)
      have hn : min 16 s.ur.urq.length = n := by simpa using hn
      show n ≤ s.ur.urq.length ∧ n ≤ 16
      omega
    · exact .refl s
  · exact .refl s

theorem queuesKept_sweepVisit (s : State) : QueuesKept s (sweepVisit s) := by
  have visit (s : State) : QueuesKept s (visit s) := by
    unfold visit
    split
    · exact .of_eq rfl
    · split
      · exact .of_eq rfl
      · split
        · next room =>
          have room := (State.urqRoom_iff s).mp (Bool.and_eq_true_iff.mp room).1
          exact ((queuesKept_urqEnter _ _ room).from rfl).trans (.of_eq rfl)
        · exact .of_eq rfl
  simp only [sweepVisit]
  split
  · exact (visit _).after (queuesKept_resumeSweep s)
  · exact queuesKept_resumeSweep s

/-- The closing rule places a record in the URQ only where it has room (R101). -/
theorem queuesKept_closeInterval {s t : State} {i : CtxIx} {iv : Interval} (h : closeInterval i iv s = some t) :
    QueuesKept s t := by
  rcases closeInterval_cases s i iv with ⟨room, -, e⟩ | ⟨-, -, e⟩ | ⟨-, -, e⟩ <;> rw [e] at h <;> cases h
  · exact (queuesKept_urqEnter (dropOpen i s) _ room).from rfl
  · exact .of_eq rfl

theorem queuesKept_placeFinal (s : State) (i : CtxIx) : QueuesKept s (placeFinal i s) := by
  unfold placeFinal
  split
  · next h =>
    have room : s.ur.urq.length < 256 := by
      unfold placing at h
      split at h
      · next room => exact (State.urqRoom_iff s).mp (Bool.and_eq_true_iff.mp room).1
      · split at h <;> cases h
    exact (queuesKept_urqEnter s _ room).trans (.of_eq rfl)
  · exact .of_eq rfl

end Sys2Proof.Machine

namespace Sys2Proof.Machine

/-! ### Metering (R70, R80 to R92) -/

theorem queuesKept_barringFailure (s : State) (i : CtxIx) : QueuesKept s (barringFailure i s) := by
  rcases barringFailure_cases s i with ⟨-, e⟩ | ⟨-, e⟩ <;> rw [e]
  · exact .refl s
  · exact (queuesKept_sendBearerNotice _ _ _ _).from rfl

theorem queuesKept_exhaust (s : State) (i : CtxIx) : QueuesKept s (exhaust i s) := by
  unfold exhaust
  exact (queuesKept_sendBearerNotice _ _ _ _).after <| (queuesKept_raise _ _ _).from rfl

theorem queuesKept_lowTest (s : State) (i : CtxIx) : QueuesKept s (lowTest i s) := by
  simp only [lowTest]
  split
  · exact (queuesKept_sendBearerNotice _ _ _ _).after <| (queuesKept_raise _ _ _).from rfl
  · exact .refl s

theorem queuesKept_testsAfter (s : State) (i : CtxIx) : QueuesKept s (testsAfter i s) := by
  unfold testsAfter
  split
  · refine (queuesKept_lowTest _ i).after ?_
    unfold exhaustedTest
    split
    · exact queuesKept_exhaust s i
    · exact .refl s
  · exact .refl s

theorem queuesKept_applyCharge (s : State) (i : CtxIx) (d : Dir) (n : Nat) (ch : Charge) :
    QueuesKept s (applyCharge i d n ch s) :=
  QueuesKept.from ((queuesKept_testsAfter (s.setCtx i ((s.ctx i).apply ch)) i).trans (.of_eq rfl)) rfl

theorem queuesKept_keyStep {s t : State} {i : CtxIx} (h : keyStep i s = some t) : QueuesKept s t := by
  unfold keyStep at h
  split at h
  · cases h; exact .of_eq rfl
  · split at h
    · cases h; exact .refl s
    · split at h
      · cases h
      · next u closed => cases h; exact (queuesKept_closeInterval closed).trans (.of_eq rfl)

theorem queuesKept_meterBearer (s : State) (e : UserEntry) (d : Dir) (m : Multiplier) :
    QueuesKept s (meterBearer e d m s).2 := by
  unfold meterBearer
  split
  · exact queuesKept_raise s _ _
  · next t key =>
    refine QueuesKept.after ?_ (queuesKept_keyStep key)
    dsimp only
    split
    · exact queuesKept_exhaust t _
    · exact queuesKept_applyCharge t _ _ _ _

theorem queuesKept_meter (s : State) (e : UserEntry) (d : Dir) (m : Multiplier) :
    QueuesKept s (meter e d m s).2 := by
  unfold meter
  split
  · exact queuesKept_barringFailure s _
  · exact .refl s
  · split
    · exact .refl s
    · exact queuesKept_meterBearer s e d m

/-! ### The traffic path (R8 to R18) -/

theorem queuesKept_routeUplink (s : State) (e : UserEntry) (now : e.intake = s.me.clock) :
    QueuesKept s (routeUplink e s) := by
  unfold routeUplink
  split
  · split
    · next room =>
      refine queuesKept_place s _ _ (Bool.and_eq_true_iff.mp room).2 fun x hx => ?_
      cases hx; rw [now]
    · exact queuesKept_holdJoin s e now
  · exact queuesKept_holdJoin s e now

theorem queuesKept_routeDownlink (s : State) (e : UserEntry) (m : Multiplier) (now : e.intake = s.me.clock) :
    QueuesKept s (routeDownlink e m s) := by
  simp only [routeDownlink]
  split
  · split
    · next room =>
      refine queuesKept_place s _ _ room fun x hx => ?_
      cases hx; rw [now]
    · exact .of_eq rfl
  · exact .of_eq rfl

theorem queuesKept_carry (s : State) (src : Source) (i : CtxIx) (f : BearerFrame) :
    QueuesKept s (carry src i f s) := by
  cases src with
  | uplink r => exact (queuesKept_routeUplink _ _ rfl).from rfl
  | downlink m => exact queuesKept_routeDownlink s _ m rfl

theorem queuesKept_admitFrame (s : State) (src : Source) (f : BearerFrame) :
    QueuesKept s (admitFrame src f s) := by
  unfold admitFrame
  split
  · exact .of_eq rfl
  · next i _ =>
    split
    · exact (queuesKept_barringFailure _ _).from rfl
    · exact .of_eq rfl
    · refine (queuesKept_carry s src i f).trans ?_
      unfold signalFailure
      split
      · split
        · exact queuesKept_barringFailure _ _
        · exact .refl _
      · exact .refl _

theorem queuesKept_bearerIn (s : State) (port : Fin 4) (src : Addr) (f : BearerFrame) :
    QueuesKept s (bearerIn port src f s) := by
  unfold bearerIn
  split
  · exact .of_eq rfl
  · split
    · exact .of_eq rfl
    · exact queuesKept_admitFrame s _ f

theorem queuesKept_linkFrameIn (s : State) (port : Fin 4) (a : Num16) (f : BearerFrame) :
    QueuesKept s (linkFrameIn port a f s) := by
  unfold linkFrameIn
  split
  · exact .of_eq rfl
  · split
    · exact .of_eq rfl
    · exact queuesKept_admitFrame s _ f

theorem queuesKept_radioStatusIn (s : State) (port : Fin 4) (src : Addr) (n : BitVec 16) :
    QueuesKept s (radioStatusIn port src n s) := by
  unfold radioStatusIn
  split
  · exact .of_eq rfl
  · simp only [radioStatusOf]
    split
    · exact (queuesKept_sendHeartbeat _ _).from rfl
    · exact .of_eq rfl

theorem queuesKept_transmit (s : State) (p : Port) (dst : Addr) (c : Carried) :
    QueuesKept s (transmit p dst c s) := .of_eq (queues_setPort s p _ rfl)

theorem queuesKept_offerSelected (s : State) (p : Port) (e : EntryBody) :
    QueuesKept s (offerSelected p e s) := by
  unfold offerSelected
  split
  · exact queuesKept_transmit s p _ _
  · next u k =>
    have metered := queuesKept_meter s u .uplink (transmissionMultiplier s (.up u k))
    split
    · next h => rw [h] at metered; exact metered.trans (.of_eq rfl)
    · next h => rw [h] at metered; exact (queuesKept_transmit _ p _ _).after (metered.trans (.of_eq rfl))
  · next u m dst =>
    have metered := queuesKept_meter s u .downlink (transmissionMultiplier s (.down u m dst))
    split
    · next h => rw [h] at metered; exact metered.trans (.of_eq rfl)
    · next h => rw [h] at metered; exact (queuesKept_transmit _ p _ _).after metered

theorem queuesKept_entrySelection (s : State) (p : Port) : QueuesKept s (entrySelection p s) := by
  unfold entrySelection
  split
  · split
    · next e q h =>
      obtain ⟨pre, post, hq, rfl, -⟩ := takeFirst_split _ _ _ _ h
      exact (queuesKept_offerSelected _ p _).after (queuesKept_setQueue s p _ (by rw [hq]; simp))
    · exact .refl s
  · exact .refl s

theorem queuesKept_transmissionCompletion (s : State) (p : Port) :
    QueuesKept s (transmissionCompletion p s) := by
  unfold transmissionCompletion
  split
  · exact .refl s
  · next w _ =>
    have freed : QueuesKept s
        (s.setPort p { s.port p with sending := none, transmitted := (s.port p).transmitted + 1 }) :=
      .of_eq (queues_setPort s p _ rfl)
    refine freed.trans ?_
    unfold reportCompletion
    split
    · exact queuesKept_usageCompleted _
    · exact .of_eq rfl
    · exact .of_eq rfl
    · exact .refl _

theorem queuesKept_holdDrainMove (s : State) : QueuesKept s (holdDrainMove s) := by
  unfold holdDrainMove
  split
  · next k e es _ hold =>
    have left : QueuesKept s (s.setHold es) := queuesKept_setHold s es (by rw [hold]; simp)
    split
    · next room =>
      split
      · exact (queuesKept_setHold (drop .holdAged .uplink s) es (by rw [drop_cs, hold]; simp)).from rfl
      · refine ⟨fun h => place_withinCapacity _ _ _ room (left.capacity h), fun h => ?_, rfl⟩
        refine place_inOrder _ _ _ (left.order h) fun x hx => ?_
        cases hx
        exact h.2 e (.inl (by rw [hold]; simp))
    · exact .refl s
  · exact .refl s

/-! ### Clock and coverage steps (R24, R50, R51, R157 to R168) -/

theorem queuesKept_epochBoundary (s : State) : QueuesKept s (epochBoundary s) := by
  unfold epochBoundary
  split
  · exact (queuesKept_triggerMoment _ _).after <|
      (queuesKept_setHold (dropMany _ .holdAged .uplink (nextEpoch s)) _ (List.dropWhile_sublist _)).from rfl
  · exact .refl s

theorem queuesKept_staleDeadline (s : State) : QueuesKept s (staleDeadline s) := by
  unfold staleDeadline
  split
  · split
    · exact (queuesKept_raise _ _ _).from rfl
    · exact .refl s
  · exact .refl s

theorem queuesKept_setCandidate (s : State) (c : Option ZoneIx) (n : Nat) : QueuesKept s (setCandidate c n s) :=
  .of_eq rfl

theorem queuesKept_lostDeadline (s : State) : QueuesKept s (lostDeadline s) := by
  unfold lostDeadline
  split
  · split
    · exact (queuesKept_zoneChange _ _).after <| (queuesKept_setCandidate _ _ _).after <|
        (queuesKept_raise _ _ _).from rfl
    · exact .refl s
  · exact .refl s

theorem queuesKept_graceExpiry (s : State) : QueuesKept s (graceExpiry s) := by
  unfold graceExpiry
  split
  · exact .refl s
  · split
    · dsimp only
      split
      · exact (queuesKept_round _).after <| (queuesKept_recomputeLevel _).from rfl
      · exact .of_eq rfl
    · exact .refl s

/-- The heartbeat grid runs on (R165). -/
theorem queuesKept_setNextHeartbeat (s : State) (t : Time) :
    QueuesKept s { s with cs := { s.cs with nextHeartbeat := t } } := .of_eq rfl

theorem queuesKept_heartbeatTime (s : State) : QueuesKept s (heartbeatTime s) := by
  unfold heartbeatTime
  split
  · exact (queuesKept_setNextHeartbeat (round s) _).after (queuesKept_round s)
  · exact .refl s

theorem queuesKept_livenessDeadline (s : State) (r : RuIx) : QueuesKept s (livenessDeadline r s) := by
  simp only [livenessDeadline]
  split
  · split
    · exact (queuesKept_raise _ _ _).from rfl
    · exact .refl s
  · exact .refl s

theorem queuesKept_placeEndMarker (s : State) (k : LinkIx) : QueuesKept s (placeEndMarker k s) := by
  unfold placeEndMarker
  split
  · exact .refl s
  · exact (queuesKept_offerControl _ _ _).from rfl

/-- The assertion of the reset input discards every frame (R183). -/
theorem queuesKept_resetInputAsserted (s : State) : QueuesKept s (resetInputAsserted s) := by
  have empty : ∀ p, ((resetInputAsserted s).port p).queue = [] := by
    intro p; simp [State.port, resetInputAsserted, PortState.held]
  refine ⟨fun h => ⟨fun p => by simp [empty], Nat.zero_le _, Nat.zero_le _, h.2.2.2.1, by simp [resetInputAsserted]⟩,
    fun _ => ⟨List.Pairwise.nil, ?_⟩, rfl⟩
  rintro e (he | ⟨p, x, hx, -⟩)
  · cases he
  · rw [empty] at hx; cases hx

end Sys2Proof.Machine

namespace Sys2Proof.Machine

/-! ### What the requests do (R29 to R182) -/

/-- A request that names a context keeps the queues when its own rule does (R29). -/
theorem queuesKept_named (n : CtxName) (f : CtxIx → Context → State → Reply × State) (s : State)
    (h : ∀ i c, QueuesKept s (f i c s).2) : QueuesKept s (named n f s).2 := by
  rcases named_cases s n f with ⟨-, e⟩ | ⟨i, -, ⟨-, e⟩ | ⟨-, e⟩⟩ <;> rw [e]
  · exact .refl s
  · exact .refl s
  · exact h i _

theorem queuesKept_createContext (a : CreateArgs) (s : State) : QueuesKept s (createContext a s).2 := by
  simp only [createContext]
  repeat' split
  all_goals exact .of_eq rfl

theorem queuesKept_modifyContext (n : CtxName) (a : ModifyArgs) (s : State) :
    QueuesKept s (modifyContext n a s).2 := by
  refine queuesKept_named n _ s fun i c => ?_
  simp only [modifyNamed]
  split
  · exact .refl s
  split
  · exact .refl s
  split
  · exact .refl s
  split
  · exact .refl s
  split
  · exact queuesKept_raise s _ _
  · next v _ t closed =>
    have kept : QueuesKept s t := by
      unfold closeForPlan at closed
      split at closed
      · cases closed; exact .refl s
      · exact queuesKept_closeInterval closed
    exact kept.trans (.of_eq rfl)

theorem queuesKept_suspendContext (n : CtxName) (s : State) : QueuesKept s (suspendContext n s).2 := by
  refine queuesKept_named n _ s fun i c => ?_
  simp only [suspendNamed]
  split
  · exact .refl s
  · exact (queuesKept_sendBearerNotice _ _ _ _).from rfl

theorem queuesKept_resumeContext (n : CtxName) (s : State) : QueuesKept s (resumeContext n s).2 := by
  refine queuesKept_named n _ s fun i c => ?_
  simp only [resumeNamed]
  split
  · exact .refl s
  · exact (queuesKept_sendBearerNotice _ _ _ _).from rfl

theorem queuesKept_topUp (n : CtxName) (money : BitVec 64) (allowance : BitVec 32) (s : State) :
    QueuesKept s (topUp n money allowance s).2 := by
  refine queuesKept_named n _ s fun i c => ?_
  simp only [topUpNamed]
  repeat' split
  all_goals exact .of_eq rfl

theorem queuesKept_releaseContext (n : CtxName) (s : State) : QueuesKept s (releaseContext n s).2 := by
  refine queuesKept_named n _ s fun i c => ?_
  simp only [releaseNamed]
  split
  · exact .refl s
  split
  · exact queuesKept_raise s _ _
  · exact (queuesKept_sendBearerNotice _ _ _ _).after (queuesKept_placeFinal s i)

theorem queuesKept_findContext (b : Num32) (s : State) : QueuesKept s (findContext b s).2 := by
  unfold findContext
  repeat' split
  all_goals exact .refl s

theorem queuesKept_readContext (i : Num16) (s : State) : QueuesKept s (readContext i s).2 := by
  unfold readContext; split <;> exact .refl s

theorem queuesKept_readZone (i : Byte) (s : State) : QueuesKept s (readZone i s).2 := by
  unfold readZone
  repeat' split
  all_goals exact .refl s

theorem queuesKept_readLink (i : Byte) (s : State) : QueuesKept s (readLink i s).2 := by
  unfold readLink; split <;> exact .refl s

theorem queuesKept_readRadioUnit (i : Byte) (s : State) : QueuesKept s (readRadioUnit i s).2 := by
  unfold readRadioUnit; split <;> exact .refl s

theorem queuesKept_closePeriod (s : State) : QueuesKept s (closePeriod s).2 := by
  unfold closePeriod; split <;> exact .of_eq rfl

theorem queuesKept_zoneFault (a : Nat) (x : Int) (s : State) : QueuesKept s (zoneFault a x s) := by
  unfold zoneFault
  split
  · split
    · exact .refl s
    · exact queuesKept_raise s _ _
  · exact .refl s

theorem queuesKept_confirm (c : ZoneIx) (s : State) : QueuesKept s (confirm c s) := by
  unfold confirm
  split
  · exact queuesKept_setCandidate s _ _
  split
  · exact (queuesKept_setCandidate _ _ _).after (queuesKept_zoneChange s c)
  · exact queuesKept_setCandidate s _ _

theorem queuesKept_enterAtOnce (c : ZoneIx) (s : State) : QueuesKept s (enterAtOnce c s) := by
  unfold enterAtOnce
  split
  · exact queuesKept_setCandidate s _ _
  · exact (queuesKept_setCandidate _ _ _).after (queuesKept_zoneChange s c)

theorem queuesKept_setWaypoint (s : State) (i : WaypointId) (w : Waypoint) :
    QueuesKept s (s.setWaypoint i w) := by
  cases i <;> exact .of_eq rfl

theorem queuesKept_testWaypoint (i : WaypointId) (before after : Nat) (s : State) :
    QueuesKept s (testWaypoint i before after s) := by
  simp only [testWaypoint]
  split
  · have fired (w : Waypoint) : QueuesKept s ((raise .waypoint (some (.waypoint i)) s).setWaypoint i w) :=
      (queuesKept_setWaypoint _ i w).after (queuesKept_raise s _ _)
    split
    · exact (queuesKept_triggerMoment _ _).after (fired _)
    · exact fired _
  · exact .refl s

theorem queuesKept_acceptReport (a : Nat) (x : Int) (q : Quality) (fix : Time) (s : State) :
    QueuesKept s (acceptReport a x q fix s) := by
  have faulted : QueuesKept s (zoneFault a x (acceptPosition a x q fix s)) :=
    (queuesKept_zoneFault _ _ _).from rfl
  simp only [acceptReport]
  split
  · exact (queuesKept_enterAtOnce _ _).after faulted
  · exact (queuesKept_testWaypoint _ _ _ _).after <| (queuesKept_testWaypoint _ _ _ _).after <|
      (queuesKept_confirm _ _).after faulted

theorem queuesKept_positionReport (a : PositionArgs) (s : State) : QueuesKept s (positionReport a s).2 := by
  unfold positionReport
  split
  · split
    · exact .refl s
    · dsimp only [takeReport]
      split
      · exact .refl s
      · split
        · exact .of_eq rfl
        · exact queuesKept_acceptReport _ _ _ _ s
  · exact .refl s

theorem queuesKept_writeZone (a : ZoneArgs) (s : State) : QueuesKept s (writeZone a s).2 := by
  unfold writeZone
  split
  · split <;> exact .of_eq rfl
  · exact .refl s

theorem queuesKept_reloadZone (s : State) : QueuesKept s (reloadZone s).2 := by
  unfold reloadZone
  split
  · exact queuesKept_zoneChange s _
  · exact .refl s

theorem queuesKept_armWaypoint (a : WaypointArgs) (s : State) : QueuesKept s (armWaypoint a s).2 := by
  unfold armWaypoint
  split
  · split
    · exact .refl s
    · exact queuesKept_setWaypoint s _ _
  · exact .refl s

theorem queuesKept_disarmWaypoint (c : Byte) (s : State) : QueuesKept s (disarmWaypoint c s).2 := by
  unfold disarmWaypoint
  split
  · exact .refl s
  · exact queuesKept_setWaypoint s _ _

theorem queuesKept_writeLink (a : LinkArgs) (s : State) : QueuesKept s (writeLink a s).2 := by
  unfold writeLink
  split
  · exact (queuesKept_suLinkChanged _ _).after <| (queuesKept_healthEvent _ _ _ _).from rfl
  · exact .refl s

theorem queuesKept_stageLink (k t : Byte) (s : State) : QueuesKept s (stageLink k t s).2 := by
  unfold stageLink
  split
  · split
    · exact .refl s
    · exact (queuesKept_steerIf _ _ _ (queuesKept_recoveryTest _)).after <|
        (queuesKept_triggerMoment _ _).from rfl
  · exact .refl s

theorem queuesKept_cancelStage (s : State) : QueuesKept s (cancelStage s).2 := by
  unfold cancelStage; split <;> exact .of_eq rfl

theorem queuesKept_setFailoverOrder (order : List Byte) (s : State) :
    QueuesKept s (setFailoverOrder order s).2 := by
  unfold setFailoverOrder
  split
  · exact .refl s
  split
  · exact .refl s
  · exact (queuesKept_steerIf _ _ _ (queuesKept_recoveryTest _)).from rfl

theorem queuesKept_writeRadioUnit (a : RuArgs) (s : State) : QueuesKept s (writeRadioUnit a s).2 := by
  unfold writeRadioUnit; split <;> exact .of_eq rfl

theorem queuesKept_setFloor (f : Byte) (s : State) : QueuesKept s (setFloor f s).2 := by
  unfold setFloor; split <;> exact .of_eq rfl

theorem queuesKept_openAttach (s : State) : QueuesKept s (openAttach s).2 := by
  unfold openAttach
  split
  · exact .refl s
  · dsimp only
    exact (queuesKept_round _).from rfl

theorem queuesKept_configure (a : ConfigureArgs) (s : State) : QueuesKept s (configure a s).2 := by
  simp only [configure]
  split
  · exact .refl s
  · split <;> exact .of_eq rfl

theorem queuesKept_clearEvents (kinds : List Byte) (s : State) : QueuesKept s (clearEvents kinds s).2 := by
  unfold clearEvents
  split
  · exact .refl s
  · split <;> exact .of_eq rfl

/-- A warm reset empties the egress queues and the hold queue (R184). -/
theorem queuesKept_warmTraffic (s : State) : QueuesKept s (warmTraffic s) := by
  have empty : ∀ p, ((warmTraffic s).port p).queue = [] := by
    intro p; simp [State.port, warmTraffic, PortState.warm]
  refine ⟨fun h => ⟨fun p => by simp [empty], Nat.zero_le _, Nat.zero_le _, h.2.2.2.1, fun n hn => ?_⟩,
    fun _ => ⟨List.Pairwise.nil, ?_⟩, rfl⟩
  · have out : (warmTraffic s).ur.outstanding = if usageOnWire s then s.ur.outstanding else none := rfl
    rw [out] at hn
    split at hn
    · exact h.2.2.2.2 n hn
    · cases hn
  · rintro e (he | ⟨p, x, hx, -⟩)
    · cases he
    · rw [empty] at hx; cases hx

theorem queuesKept_warmReset (s : State) : QueuesKept s (warmReset s) := by
  unfold warmReset warmZone
  exact (queuesKept_round _).after <| (queuesKept_recomputeFloor _).after <| (queuesKept_recomputeLevel _).after <|
    (queuesKept_suZoneChanged _).after <| (queuesKept_enterZone _ _).after <|
    (queuesKept_warmTraffic _).from rfl

theorem queuesKept_resetWarm (s : State) : QueuesKept s (resetWarm s).2 := by
  unfold resetWarm
  dsimp only
  exact queuesKept_warmReset s

theorem queuesKept_reset (p : Port) (kind : Byte) (s : State) : QueuesKept s (reset p kind s).2 := by
  unfold reset
  split
  · exact .of_eq rfl
  · exact queuesKept_resetWarm s
  · exact .refl s

/-- Every command that a code can name keeps the queues. -/
theorem queuesKept_bodyOf (p : Port) (xs : List Item) (cmd : Command) (s : State) :
    QueuesKept s (bodyOf p xs cmd s).2 := by
  cases cmd with
  | readStatus | readCounters => exact .refl s
  | readEvents => exact .of_eq rfl
  | readContext => exact queuesKept_readContext _ s
  | findContext => exact queuesKept_findContext _ s
  | readZone => exact queuesKept_readZone _ s
  | readLink => exact queuesKept_readLink _ s
  | readRadioUnit => exact queuesKept_readRadioUnit _ s
  | createContext => exact queuesKept_createContext _ s
  | modifyContext => exact queuesKept_modifyContext _ _ s
  | suspendContext => exact queuesKept_suspendContext _ s
  | resumeContext => exact queuesKept_resumeContext _ s
  | topUp => exact queuesKept_topUp _ _ _ s
  | releaseContext => exact queuesKept_releaseContext _ s
  | closePeriod => exact queuesKept_closePeriod s
  | positionReport => exact queuesKept_positionReport _ s
  | writeZone => exact queuesKept_writeZone _ s
  | reloadZone => exact queuesKept_reloadZone s
  | armWaypoint => exact queuesKept_armWaypoint _ s
  | disarmWaypoint => exact queuesKept_disarmWaypoint _ s
  | writeLink => exact queuesKept_writeLink _ s
  | stageLink => exact queuesKept_stageLink _ _ s
  | cancelStage => exact queuesKept_cancelStage s
  | setFailoverOrder => exact queuesKept_setFailoverOrder _ s
  | writeRadioUnit => exact queuesKept_writeRadioUnit _ s
  | setFloor => exact queuesKept_setFloor _ s
  | openAttach => exact queuesKept_openAttach s
  | configure => exact queuesKept_configure _ s
  | clearEvents => exact queuesKept_clearEvents _ s
  | reset => exact queuesKept_reset _ _ s

/-! ### A request or frame that arrives (R1, R5, R22, R173) -/

theorem queuesKept_got (s : State) (p : Port) : QueuesKept s (s.got p) := .of_eq (queues_setPort s p _ rfl)

theorem queuesKept_respond (rq : Request) (code : Byte) (r : Reply) (s : State) :
    QueuesKept s (respond rq code r s) := queuesKept_offerControl s _ _

theorem queuesKept_ask {rq : Request} {cmd : Command} {body : State → Reply × State} (s : State)
    (h : ∀ t, QueuesKept t (body t).2) : QueuesKept s (ask rq cmd body s) := by
  rcases ask_cases s rq cmd body with ⟨-, e⟩ | ⟨-, -, e⟩ | ⟨st, -, -, e⟩ | ⟨-, e⟩ <;> rw [e]
  · exact .refl s
  · exact QueuesKept.from (.of_eq rfl) (queues_setPort s rq.port _ rfl)
  · exact (queuesKept_respond _ _ _ _).after (queuesKept_got s _)
  · exact (queuesKept_respond _ _ _ _).after <| (h _).after (queuesKept_got s _)

theorem queuesKept_arrive {p : Port} {f : State → State} (s : State) (h : ∀ t, QueuesKept t (f t)) :
    QueuesKept s (arrive p f s) := by
  by_cases hr : Receives s p
  · rw [arrive_of_receives s f hr]; exact (h _).after (queuesKept_got s p)
  · rw [arrive_of_not_receives s f hr]; exact .refl s

theorem queuesKept_handle (rq : Request) (cmd : Command) (body : State → Reply × State) (s : State)
    (h : QueuesKept s (body s).2) : QueuesKept s (handle rq cmd body s) := by
  simp only [handle]
  split
  · exact queuesKept_respond _ _ _ s
  split
  · exact queuesKept_respond _ _ _ s
  split
  · exact queuesKept_respond _ _ _ s
  · exact (queuesKept_respond _ _ _ _).after h

theorem queuesKept_admitted (rq code xs) (s : State) : QueuesKept s (admitRequest rq (meRequest rq code xs) s) := by
  unfold admitRequest
  split
  · exact .of_eq rfl
  · unfold meRequest
    split
    · exact queuesKept_respond _ _ _ s
    · exact queuesKept_handle _ _ _ s (queuesKept_bodyOf _ _ _ s)

theorem queuesKept_takeIn (p : Port) (bs : List Byte) (s : State) : QueuesKept s (takeIn p bs s) := by
  unfold takeIn
  split
  · exact .of_eq rfl
  · unfold passOn
    split
    · exact queuesKept_bearerIn s _ _ _
    · exact queuesKept_radioStatusIn s _ _ _
    · exact queuesKept_linkFrameIn s _ _ _
    · exact queuesKept_echoIn s _ _ _
    · exact queuesKept_admitted _ _ _ s
    · exact .of_eq rfl

theorem queuesKept_unlessHeld {f : State → State} (s : State) (h : QueuesKept s (f s)) :
    QueuesKept s (unlessHeld f s) := by
  unfold unlessHeld
  split
  · exact .refl s
  · exact h

/-! ### Every command -/

/-- Every command but a cold reset keeps the queues and the route clock. -/
theorem queuesKept_exec {i : Instr} {s t : State} (hc : ∀ c, i ≠ .coldReset c) (h : exec i s = .next t) :
    QueuesKept s t := by
  cases i with
  | coldReset c => exact absurd rfl (hc c)
  | badFrame => cases h; exact queuesKept_arrive s (queuesKept_takeIn _ _)
  | bearerUplinkIntake => cases h; exact queuesKept_arrive s fun t => queuesKept_bearerIn t _ _ _
  | linkFrameIntake => cases h; exact queuesKept_arrive s fun t => queuesKept_linkFrameIn t _ _ _
  | echo => cases h; exact queuesKept_arrive s fun t => queuesKept_echoIn t _ _ _
  | radioStatus => cases h; exact queuesKept_arrive s fun t => queuesKept_radioStatusIn t _ _ _
  | badCommand => cases h; exact queuesKept_arrive s fun t => queuesKept_admitted _ _ _ t
  | readStatus => cases h; exact queuesKept_ask s .refl
  | readContext => cases h; exact queuesKept_ask s (queuesKept_readContext _)
  | findContext => cases h; exact queuesKept_ask s (queuesKept_findContext _)
  | readZone => cases h; exact queuesKept_ask s (queuesKept_readZone _)
  | readLink => cases h; exact queuesKept_ask s (queuesKept_readLink _)
  | readRadioUnit => cases h; exact queuesKept_ask s (queuesKept_readRadioUnit _)
  | readEvents => cases h; exact queuesKept_ask s fun _ => .of_eq rfl
  | readCounters => cases h; exact queuesKept_ask s .refl
  | createContext => cases h; exact queuesKept_ask s (queuesKept_createContext _)
  | modifyContext => cases h; exact queuesKept_ask s (queuesKept_modifyContext _ _)
  | suspendContext => cases h; exact queuesKept_ask s (queuesKept_suspendContext _)
  | resumeContext => cases h; exact queuesKept_ask s (queuesKept_resumeContext _)
  | topUp => cases h; exact queuesKept_ask s (queuesKept_topUp _ _ _)
  | releaseContext => cases h; exact queuesKept_ask s (queuesKept_releaseContext _)
  | closePeriod => cases h; exact queuesKept_ask s queuesKept_closePeriod
  | positionReport => cases h; exact queuesKept_ask s (queuesKept_positionReport _)
  | writeZone => cases h; exact queuesKept_ask s (queuesKept_writeZone _)
  | reloadZone => cases h; exact queuesKept_ask s queuesKept_reloadZone
  | armWaypoint => cases h; exact queuesKept_ask s (queuesKept_armWaypoint _)
  | disarmWaypoint => cases h; exact queuesKept_ask s (queuesKept_disarmWaypoint _)
  | writeLink => cases h; exact queuesKept_ask s (queuesKept_writeLink _)
  | stageLink => cases h; exact queuesKept_ask s (queuesKept_stageLink _ _)
  | cancelStage => cases h; exact queuesKept_ask s queuesKept_cancelStage
  | setFailoverOrder => cases h; exact queuesKept_ask s (queuesKept_setFailoverOrder _)
  | writeRadioUnit => cases h; exact queuesKept_ask s (queuesKept_writeRadioUnit _)
  | setFloor => cases h; exact queuesKept_ask s (queuesKept_setFloor _)
  | openAttach => cases h; exact queuesKept_ask s queuesKept_openAttach
  | configure => cases h; exact queuesKept_ask s (queuesKept_configure _)
  | clearEvents => cases h; exact queuesKept_ask s (queuesKept_clearEvents _)
  | resetWarm => cases h; exact queuesKept_ask (body := resetWarm) s queuesKept_resetWarm
  | resetCold => cases h; exact queuesKept_ask s fun _ => .of_eq rfl
  | epochBoundary => cases h; exact queuesKept_unlessHeld s (queuesKept_epochBoundary s)
  | staleDeadline => cases h; exact queuesKept_unlessHeld s (queuesKept_staleDeadline s)
  | lostDeadline => cases h; exact queuesKept_unlessHeld s (queuesKept_lostDeadline s)
  | probeTime => cases h; exact queuesKept_unlessHeld s (queuesKept_probeTime s _)
  | graceExpiry => cases h; exact queuesKept_unlessHeld s (queuesKept_graceExpiry s)
  | heartbeatTime => cases h; exact queuesKept_unlessHeld s (queuesKept_heartbeatTime s)
  | livenessDeadline => cases h; exact queuesKept_unlessHeld s (queuesKept_livenessDeadline s _)
  | shoreCarrierDown => cases h; exact queuesKept_shoreCarrierDown s _
  | shoreCarrierUp => cases h; exact queuesKept_setCarrier s _ _
  | cellCarrierChange => cases h; exact queuesKept_cellCarrierChange s _ _
  | entrySelection => cases h; exact queuesKept_unlessHeld s (queuesKept_entrySelection s _)
  | transmissionCompletion => cases h; exact queuesKept_unlessHeld s (queuesKept_transmissionCompletion s _)
  | usageFrameBuild => cases h; exact queuesKept_unlessHeld s (queuesKept_usageFrameBuild s)
  | holdDrainMove => cases h; exact queuesKept_unlessHeld s (queuesKept_holdDrainMove s)
  | sweepVisit => cases h; exact queuesKept_unlessHeld s (queuesKept_sweepVisit s)
  | periodSummary => cases h; exact queuesKept_unlessHeld s (queuesKept_periodSummary s)
  | endMarker => cases h; exact queuesKept_unlessHeld s (queuesKept_placeEndMarker s _)
  | resetInputAsserted => cases h; exact queuesKept_resetInputAsserted s

/-- A part whose queues are empty is within its capacities and in order. -/
theorem empty_sound {s : State} (hq : ∀ p, (s.port p).queue = []) (hh : s.cs.hold = []) (hu : s.ur.urq = [])
    (ho : s.ur.outstanding = none) : WithinCapacity s ∧ HoldInOrder s := by
  refine ⟨⟨fun p => by simp [hq], by simp [hh], by simp [hh], by simp [hu], by simp [ho]⟩, by simp [hh], ?_⟩
  rintro e (he | ⟨p, x, hx, -⟩)
  · rw [hh] at he; cases he
  · rw [hq] at hx; cases hx

/-- A cold reset leaves every queue empty, or does nothing (R183). -/
theorem coldReset_sound (c : ColdCause) (s : State) :
    coldReset c s = s ∨ WithinCapacity (coldReset c s) ∧ HoldInOrder (coldReset c s) := by
  have cold (b : Bool) : WithinCapacity (coldState b s) ∧ HoldInOrder (coldState b s) := by
    refine empty_sound (fun p => ?_) rfl rfl rfl
    simp [State.port, coldState, PortState.afterCold, PortState.cold]
  unfold coldReset
  split
  · exact .inr (cold _)
  · split
    · exact .inr (cold _)
    · exact .inl rfl
  · split
    · exact .inr (cold _)
    · exact .inl rfl

/-- An idle step keeps the capacities, and the order while the next microsecond is within its 64 bits. -/
theorem idle_sound (s : State) : (WithinCapacity s → WithinCapacity (idle s))
    ∧ (HoldInOrder s → s.me.clock.toNat + 1 < 2 ^ 64 → HoldInOrder (idle s)) := by
  unfold idle
  split
  · exact ⟨id, fun h _ => h⟩
  · split
    · refine ⟨id, fun h bound => ⟨h.1, fun e he => ?_⟩⟩
      have now : (tick s).me.clock.toNat = s.me.clock.toNat + 1 := by
        simp only [tick, timeAfter, bound, if_true, BitVec.toNat_ofNat]
        exact Nat.mod_eq_of_lt bound
      have := h.2 e he
      omega
    · exact ⟨id, fun h _ => h⟩

/-- Settles O3: every command but a cold reset keeps the queues (`queuesKept_exec`), a cold reset empties them,
and an idle step only lets the clock run on. -/
theorem stepKeepsWithinCapacity : Obligations.StepKeepsWithinCapacity := by
  have taken (s t : State) (h : step s = .next t) : t = idle s
      ∨ (∃ c is, t = coldReset c (s.withPending is)) ∨ QueuesKept s t := by
    unfold step at h
    split at h
    · cases h; exact .inl rfl
    · next i is _ =>
      by_cases cold : ∃ c, i = .coldReset c
      · obtain ⟨c, rfl⟩ := cold
        cases h; exact .inr (.inl ⟨c, is, rfl⟩)
      · exact .inr (.inr ((queuesKept_exec (fun c hc => cold ⟨c, hc⟩) h).from rfl))
  constructor
  · intro s t hs h
    rcases taken s t h with rfl | ⟨c, is, rfl⟩ | kept
    · exact (idle_sound s).1 hs
    · rcases coldReset_sound c (s.withPending is) with e | e
      · rw [e]; exact hs
      · exact e.1
    · exact kept.capacity hs
  · intro s t hs bound h
    rcases taken s t h with rfl | ⟨c, is, rfl⟩ | kept
    · exact (idle_sound s).2 hs bound
    · rcases coldReset_sound c (s.withPending is) with e | e
      · rw [e]; exact hs
      · exact e.2
    · exact kept.order hs

end Sys2Proof.Machine

section
/-! Searches, intake and routing (R6 to R13, R168), and the place of a control entry (R15). -/

namespace Sys2Proof.Machine

/-! ### Searches (R6, R7, R8, R31) -/

/-- Settles O13: each search is `firstFin`, which finds the lowest index that meets its test. -/
theorem searchesTakeLowestMatch : Obligations.SearchesTakeLowestMatch := by
  intro s
  refine ⟨fun port src r => ?_, fun port a k => ?_, fun b i => ?_, fun i => ?_⟩
  · rw [matchRu, firstFin_eq_some]
    simp [State.ru, and_assoc]
  · rw [matchLink, firstFin_eq_some]
    simp [State.link, and_assoc]
  · rw [lookupBearer, firstFin_eq_some]
    simp [State.ctx, and_assoc]
  · rw [lowestFree, firstFin_eq_some]
    simp [State.ctx]

/-! ### The displaced entry (R15) -/

/-- The largest precedence number of the user entries is at least that of each of them. -/
theorem le_maxUserPrecedence_fold (q : List Entry) (m : Nat) :
    m ≤ q.foldl (fun m e => if e.isUser then max m e.precedence else m) m
    ∧ ∀ x ∈ q, x.isUser = true →
      x.precedence ≤ q.foldl (fun m e => if e.isUser then max m e.precedence else m) m := by
  induction q generalizing m with
  | nil => simp
  | cons y q ih =>
    obtain ⟨from_, all⟩ := ih (if y.isUser then max m y.precedence else m)
    rw [List.foldl_cons]
    refine ⟨le_trans (by split <;> omega) from_, ?_⟩
    intro x hx hu
    rcases List.mem_cons.mp hx with rfl | hx
    · exact le_trans (by simp [hu]) from_
    · exact all x hx hu

/-- It is no more than a bound that all of them keep. -/
theorem maxUserPrecedence_fold_le (q : List Entry) (m n : Nat) (hm : m ≤ n)
    (h : ∀ x ∈ q, x.isUser = true → x.precedence ≤ n) :
    q.foldl (fun m e => if e.isUser then max m e.precedence else m) m ≤ n := by
  induction q generalizing m with
  | nil => exact hm
  | cons y q ih =>
    rw [List.foldl_cons]
    refine ih _ ?_ fun x hx => h x (List.mem_cons_of_mem y hx)
    split
    · next hu => exact max_le hm (h y (by simp) hu)
    · exact hm

/-- A user entry that no other exceeds has the largest precedence number. -/
theorem maxUserPrecedence_eq {q : List Entry} {e : Entry} (mem : e ∈ q) (user : e.isUser = true)
    (h : ∀ x ∈ q, x.isUser = true → x.precedence ≤ e.precedence) : maxUserPrecedence q = e.precedence :=
  le_antisymm (maxUserPrecedence_fold_le q 0 _ (Nat.zero_le _) h) ((le_maxUserPrecedence_fold q 0).2 e mem user)

/-- The user entry of largest precedence number, placed latest, is the one displaced (R15). -/
theorem displacedEntry_eq (pre post : List Entry) (e : Entry) (user : e.isUser = true)
    (before : ∀ x ∈ pre, x.isUser = true → x.precedence ≤ e.precedence)
    (later : ∀ x ∈ post, x.isUser = true → x.precedence < e.precedence) :
    displacedEntry (pre ++ e :: post) = some (e, pre ++ post) := by
  have largest : maxUserPrecedence (pre ++ e :: post) = e.precedence := by
    refine maxUserPrecedence_eq (by simp) user fun x hx hu => ?_
    rcases List.mem_append.mp hx with hx | hx
    · exact before x hx hu
    · rcases List.mem_cons.mp hx with rfl | hx
      · exact le_rfl
      · exact (later x hx hu).le
  have first := takeFirst_eq (fun x => x.isUser && x.precedence == e.precedence) post.reverse pre.reverse e
    (by simp [user]) fun x hx => by
      have := later x (List.mem_reverse.mp hx)
      cases hu : x.isUser <;> simp [hu] at this ⊢
      omega
  have order : (pre ++ e :: post).reverse = post.reverse ++ e :: pre.reverse := by simp
  simp [displacedEntry, largest, order, first]

/-- Where only control entries wait, none is displaced (R15). -/
theorem displacedEntry_eq_none {q : List Entry} (h : ∀ x ∈ q, x.isUser = false) : displacedEntry q = none := by
  have none : takeFirst (fun x => x.isUser && x.precedence == maxUserPrecedence q) q.reverse = none :=
    (takeFirst_none _ _).mpr fun x hx => by simp [h x (List.mem_reverse.mp hx)]
  simp [displacedEntry, none]

theorem hasRoom_eq_false (s : State) (p : Port) (h : 512 ≤ (s.port p).queue.length) : s.hasRoom p = false :=
  decide_eq_false (Nat.not_lt.mpr h)

/-- A full queue of control entries drops the entry offered (R15). -/
theorem offerControl_dropped (s : State) (p : Port) (c : Control) (full : 512 ≤ (s.port p).queue.length)
    (control : ∀ x ∈ (s.port p).queue, x.isUser = false) :
    offerControl p c s = controlDropped c (drop .egressFull (Entry.dir p ⟨.control c, s.now⟩) s) := by
  simp only [offerControl, hasRoom_eq_false s p full, displacedEntry_eq_none control, Bool.false_eq_true, if_false]

/-- A full queue gives up its user entry of largest precedence number, placed latest (R15). -/
theorem offerControl_displaces (s : State) (p : Port) (c : Control) (full : 512 ≤ (s.port p).queue.length)
    {e : Entry} {q : List Entry} (h : displacedEntry (s.port p).queue = some (e, q)) :
    offerControl p c s = place p (.control c) (drop .egressFull (e.dir p) (s.setQueue p q)) := by
  simp only [offerControl, hasRoom_eq_false s p full, h, Bool.false_eq_true, if_false]

/-- What a dropped entry of any other kind means: nothing (R15). -/
theorem controlDropped_other (c : Control) (s : State) (marker : ∀ k a n last, c.body ≠ .endMarker k a n last)
    (response : ∀ tag code st rs, c.body ≠ .response tag code st rs true) : controlDropped c s = s := by
  unfold controlDropped
  split
  · next h => exact absurd h (marker _ _ _ _)
  · next h => exact absurd h (response _ _ _ _)
  · rfl

/-- Settles O21: room, a displaced user entry, or a queue of control entries. -/
theorem controlEntryTakesItsPlace : Obligations.ControlEntryTakesItsPlace := by
  intro s p c
  refine ⟨offerControl_room s p c, fun full pre post e hq user before later => ?_, fun full control => ?_⟩
  · refine offerControl_displaces s p c full ?_
    rw [hq]; exact displacedEntry_eq pre post e user before later
  · intro dropped
    have drops : offerControl p c s = controlDropped c dropped := by
      rw [offerControl_dropped s p c full control]; cases p <;> rfl
    refine ⟨fun k a n last hb => ?_, fun tag code st rs hb => ?_, fun marker response => ?_⟩
    · rw [drops, controlDropped, hb]; rfl
    · rw [drops, controlDropped, hb]; rfl
    · rw [drops, controlDropped_other c _ marker response]

/-! ### Admission (R8, R9) -/

/-- A frame that fails a test of R8 or R9 but the realm test fails admission under that test. -/
theorem admissionTest_of_refused {s : State} {c : Context} {kind : BearerKind} {why : DropReason}
    (h : RefusedAtIntake s c kind why) : why ≠ .roamBarred ∧ admissionTest s c kind = some why := by
  cases why with
  | notActive => rcases h with ⟨rfl, h⟩ | ⟨rfl, h, g⟩ <;> simp_all [admissionTest]
  | exhausted => obtain ⟨rfl, h1, h2, h3⟩ := h; simp [admissionTest, bearerTests, h1, h2, h3]
  | silent => obtain ⟨rfl, h1, h2, h3, h4⟩ := h; simp [admissionTest, bearerTests, h1, h2, h3, h4]
  | floor => obtain ⟨rfl, h1, h2, h3, h4, h5⟩ := h; simp [admissionTest, bearerTests, h1, h2, h3, h4, h5]
  | _ => cases h

/-- An admissible frame passes them all. -/
theorem admissionTest_of_admissible {s : State} {c : Context} {kind : BearerKind} (h : Admissible s c kind) :
    admissionTest s c kind = none := by
  obtain ⟨h0, ⟨rfl, h1, h2, h3, h4⟩ | ⟨rfl, h⟩⟩ := h
  · simp [admissionTest, bearerTests, h0, h1, h2, h3, h4]
  · simp [admissionTest, h]

section
variable {s : State} {src : Source} {f : BearerFrame} {i : CtxIx}

theorem admitFrame_noContext (h : lookupBearer s.contexts f.bearerId = none) :
    admitFrame src f s = drop .noContext src.dir s := by
  simp only [admitFrame, h]

theorem admitFrame_refused {why : DropReason} (h : lookupBearer s.contexts f.bearerId = some i)
    (fails : RefusedAtIntake s (s.ctx i) f.kind why) : admitFrame src f s = drop why src.dir s := by
  obtain ⟨other, test⟩ := admissionTest_of_refused fails
  simp only [admitFrame, h, test]

theorem admitFrame_barred (h : lookupBearer s.contexts f.bearerId = some i) (kind : f.kind = .bearer)
    (active : (s.ctx i).state = .active) (realm : passesRealm s.zu.zone.realm (s.ctx i) = false) :
    admitFrame src f s = barringFailure i (drop .roamBarred src.dir s) := by
  have test : admissionTest s (s.ctx i) f.kind = some .roamBarred := by
    simp [kind, admissionTest, active, bearerTests, realm]
  simp only [admitFrame, h, test]

theorem admitFrame_admitted (h : lookupBearer s.contexts f.bearerId = some i)
    (ok : Admissible s (s.ctx i) f.kind) : admitFrame src f s = carry src i f s := by
  have carried : signalFailure i f (!passesRealm s.zu.zone.realm (s.ctx i)) (carry src i f s) = carry src i f s := by
    unfold signalFailure; split <;> simp [ok.1]
  simp only [admitFrame, h, admissionTest_of_admissible ok, carried]

/-- A SIGNAL frame that fails the realm test is carried first (R68). -/
theorem admitFrame_signal (h : lookupBearer s.contexts f.bearerId = some i) (kind : f.kind = .signal)
    (state : (s.ctx i).state = .active ∨ (s.ctx i).state = .suspended)
    (realm : passesRealm s.zu.zone.realm (s.ctx i) = false) :
    admitFrame src f s = barringFailure i (carry src i f s) := by
  have test : admissionTest s (s.ctx i) f.kind = none := by simp [kind, admissionTest, state]
  have failure : signalFailure i f (!passesRealm s.zu.zone.realm (s.ctx i)) (carry src i f s)
      = barringFailure i (carry src i f s) := by simp [signalFailure, kind, realm]
  simp only [admitFrame, h, test, failure]

end

/-! ### Arrival (R4 check 6, R6, R7) -/

section
variable {s : State} {port : Fin 4} {src : Addr} {f : BearerFrame}

/-- A bearer frame of a matched radio unit goes to admission. -/
theorem exec_bearerUplinkIntake {r : RuIx} (wf : f.wf = true) (arrives : Receives s (.cell port))
    (ru : matchRu s.cs.rus port src = some r) :
    exec (.bearerUplinkIntake port src f) s = .next (admitFrame (.uplink r) f (s.got (.cell port))) := by
  have ok : bearerOk f = true := wf
  simp [exec, execBearerUplinkIntake, arrive_of_receives s _ arrives, bearerIn, ok, ru]

/-- A LINK frame of a matched link goes to admission with that link's multiplier. -/
theorem exec_linkFrameIntake {a : Num16} {n : Num32} {k : LinkIx} (wf : f.wf = true)
    (arrives : Receives s (.shore port)) (link : matchLink s.links port a = some k) :
    exec (.linkFrameIntake port src a n f) s
      = .next (admitFrame (.downlink (s.link k).cfg.multiplier) f (s.got (.shore port))) := by
  have ok : bearerOk f = true := wf
  simp [exec, execLinkFrameIntake, arrive_of_receives s _ arrives, linkFrameIn, ok, link]

end

/-- Settles O14: the searches that find nothing, then the tests of admission in their order. -/
theorem intakeDropsByFirstTest : Obligations.IntakeDropsByFirstTest := by
  constructor
  · intro s port src f a n wf
    have ok : bearerOk f = true := wf
    refine ⟨fun hr ru => ?_, fun hr link => ?_, fun r hr ru none => ?_, fun k hr link none => ?_⟩
    · simp [exec, execBearerUplinkIntake, arrive_of_receives s _ hr, bearerIn, ok, ru]
    · simp [exec, execLinkFrameIntake, arrive_of_receives s _ hr, linkFrameIn, ok, link]
    · rw [exec_bearerUplinkIntake wf hr ru, admitFrame_noContext (s := s.got _) none]; rfl
    · rw [exec_linkFrameIntake wf hr link, admitFrame_noContext (s := s.got _) none]; rfl
  · intro s port src f a n r k i why wf found
    refine ⟨fun hr ru fails => ?_, fun hr link fails => ?_, fun hr ru kind active realm => ?_,
      fun hr link kind active realm => ?_⟩
    · rw [exec_bearerUplinkIntake wf hr ru, admitFrame_refused (s := s.got _) found fails]; rfl
    · rw [exec_linkFrameIntake wf hr link, admitFrame_refused (s := s.got _) found fails]; rfl
    · rw [exec_bearerUplinkIntake wf hr ru, admitFrame_barred (s := s.got _) found kind active realm]; rfl
    · rw [exec_linkFrameIntake wf hr link, admitFrame_barred (s := s.got _) found kind active realm]; rfl

/-! ### Routing (R10, R12, R13, R155) -/

theorem holdJoin_room {s : State} {e : UserEntry}
    (h : s.cs.hold.length < 1024 ∧ bytesOf s.cs.hold + e.length ≤ 1572864) :
    holdJoin e s = s.setHold (s.cs.hold ++ [e]) := if_pos ((holdRoom_iff _ _).mpr h)

theorem holdJoin_full {s : State} {e : UserEntry}
    (h : 1024 ≤ s.cs.hold.length ∨ 1572864 < bytesOf s.cs.hold + e.length) :
    holdJoin e s = raise .holdOverflow none (drop .holdFull .uplink s) :=
  if_neg fun room => by have := (holdRoom_iff _ _).mp room; omega

theorem routeUplink_place {s : State} {e : UserEntry} {k : LinkIx} (active : s.active = some k)
    (empty : s.cs.hold = []) (room : (s.port (.shore (s.link k).cfg.port)).queue.length < 512) :
    routeUplink e s = place (.shore (s.link k).cfg.port) (.up e k) s := by
  simp [routeUplink, active, empty, (State.hasRoom_iff s _).mpr room]

theorem routeUplink_hold {s : State} {e : UserEntry}
    (h : s.active = none ∨ s.cs.hold ≠ []
      ∨ ∃ k, s.active = some k ∧ 512 ≤ (s.port (.shore (s.link k).cfg.port)).queue.length) :
    routeUplink e s = holdJoin e s := by
  unfold routeUplink
  split
  · next k active =>
    refine if_neg fun c => ?_
    obtain ⟨empty, room⟩ := Bool.and_eq_true_iff.mp c
    have room := (State.hasRoom_iff s _).mp room
    rcases h with h | h | ⟨j, hj, full⟩
    · rw [active] at h; cases h
    · exact h (List.isEmpty_iff.mp empty)
    · rw [active] at hj; cases hj; omega
  · rfl

section
variable {s : State} {e : UserEntry} {m : Multiplier}

theorem routeDownlink_place (alive : (s.ru (s.ctx e.ctx).servingRu).state = .alive)
    (room : (s.port (.cell (s.ru (s.ctx e.ctx).servingRu).port)).queue.length < 512) :
    routeDownlink e m s = place (.cell (s.ru (s.ctx e.ctx).servingRu).port)
      (.down e m (s.ru (s.ctx e.ctx).servingRu).addr) s := by
  simp [routeDownlink, alive, (State.hasRoom_iff s _).mpr room]

theorem routeDownlink_full (alive : (s.ru (s.ctx e.ctx).servingRu).state = .alive)
    (full : 512 ≤ (s.port (.cell (s.ru (s.ctx e.ctx).servingRu).port)).queue.length) :
    routeDownlink e m s = drop .egressFull .downlink s := by
  simp [routeDownlink, alive, hasRoom_eq_false s _ full]

theorem routeDownlink_lost (lost : (s.ru (s.ctx e.ctx).servingRu).state ≠ .alive) :
    routeDownlink e m s = drop .ruLost .downlink s := by
  simp [routeDownlink, lost]

end

/-- Settles O16: admission carries the frame, and routing takes one of its three ways. -/
theorem admittedUplinkFrameIsRouted : Obligations.AdmittedUplinkFrameIsRouted := by
  intro s port src f r i wf hr ru found e s' routed
  have route (carried : State → State)
      (h : exec (.bearerUplinkIntake port src f) s = .next (carried (routeUplink e s'))) : routed carried := by
    have bytes : e.length = f.payload.length + 24 := rfl
    have queue (p : Port) : (s'.port p).queue = (s.port p).queue := State.got_queue s _ p
    refine ⟨fun k active empty room => ?_, fun no => ⟨fun room => ?_, fun full => ?_⟩⟩
    · rw [h, routeUplink_place (s := s') active empty (by rw [queue]; exact room)]; rfl
    · rw [h, routeUplink_hold (s := s') (by simp only [queue]; exact no), holdJoin_room (bytes ▸ room)]; rfl
    · rw [h, routeUplink_hold (s := s') (by simp only [queue]; exact no), holdJoin_full (bytes ▸ full)]
  refine ⟨fun ok => route id ?_, fun kind state realm => route _ ?_⟩
  · rw [exec_bearerUplinkIntake wf hr ru, admitFrame_admitted (s := s.got _) found ok]; rfl
  · rw [exec_bearerUplinkIntake wf hr ru, admitFrame_signal (s := s.got _) found kind state realm]; rfl

/-- Settles O17: admission carries the frame, and routing takes one of its three ways. -/
theorem admittedDownlinkFrameIsRouted : Obligations.AdmittedDownlinkFrameIsRouted := by
  intro s port src a n f k i wf hr link found e u routed
  have route (carried : State → State) (h : exec (.linkFrameIntake port src a n f) s
      = .next (carried (routeDownlink e (s.link k).cfg.multiplier (s.got (.shore port))))) : routed carried := by
    have queue (p : Port) : ((s.got (.shore port)).port p).queue = (s.port p).queue := State.got_queue s _ p
    refine ⟨fun alive room => ?_, fun alive full => ?_, fun lost => ?_⟩
    · rw [h, routeDownlink_place alive (by rw [queue]; exact room)]; rfl
    · rw [h, routeDownlink_full alive (by rw [queue]; exact full)]
    · rw [h, routeDownlink_lost lost]
  refine ⟨fun ok => route id ?_, fun kind state realm => route _ ?_⟩
  · rw [exec_linkFrameIntake wf hr link, admitFrame_admitted (s := s.got _) found ok]; rfl
  · rw [exec_linkFrameIntake wf hr link, admitFrame_signal (s := s.got _) found kind state realm]; rfl

/-! ### Radio Status (R6, R168) -/

/-- Settles O19: the frame's unit is searched, and a unit that was LOST is sent its one heartbeat. -/
theorem radioStatusMakesUnitAlive : Obligations.RadioStatusMakesUnitAlive := by
  intro s port src attached hr
  refine ⟨fun none => ?_, fun r ru => ?_⟩
  · simp [exec, execRadioStatus, arrive_of_receives s _ hr, radioStatusIn, none]
  · have taken : exec (.radioStatus port src attached) s
        = .next (radioStatusOf r attached (s.got (.cell port))) := by
      simp [exec, execRadioStatus, arrive_of_receives s _ hr, radioStatusIn, ru]
    refine ⟨fun alive => ?_, fun lost => ?_⟩
    · simp only [taken, radioStatusOf, State.got_ru, alive]; rfl
    · simp only [taken, radioStatusOf, State.got_ru, lost]; rfl

end Sys2Proof.Machine
end

section
/-! What an idle step takes up (log entry 1): the model's lists of ready work and due deadlines hold exactly the
commands that are `Due`, each once. -/

namespace Sys2Proof.Machine

/-! ### The conditions, as `Due` words them -/

theorem mem_allPorts (p : Port) : p ∈ allPorts := by
  rcases p with i | i <;> fin_cases i <;> decide

theorem mem_allLinks (k : LinkIx) : k ∈ allLinks := by fin_cases k <;> decide

theorem mem_allRus (r : RuIx) : r ∈ allRus := by fin_cases r <;> decide

section
variable (s : State)

theorem canSelect_iff (p : Port) : canSelect s p = true ↔ Due s (.entrySelection p) := by
  simp [canSelect, Due, and_assoc]

/-- No entry of a queue bears the label of a link. -/
theorem any_hasLabel_eq_false (q : List Entry) (k : LinkIx) :
    q.any (Entry.hasLabel k) = false ↔ ∀ x ∈ q, ∀ e, x.body ≠ .up e k := by
  rw [List.any_eq_false]
  refine forall_congr' fun x => imp_congr_right fun _ => ?_
  unfold Entry.hasLabel
  split
  · next e l h => simp [h]
  · next h => exact ⟨fun _ e => h e k, fun _ => by simp⟩

theorem endDue_isSome_iff (k : LinkIx) : (endDue k s).isSome = true ↔ Due s (.endMarker k) := by
  simp only [endDue, List.find?_isSome, Bool.and_eq_true, Bool.not_eq_true', any_hasLabel_eq_false, beq_iff_eq, Due]
  constructor
  · rintro ⟨m, hm, ⟨link, unplaced⟩, labels⟩
    exact ⟨⟨m, hm, link, unplaced⟩, labels⟩
  · rintro ⟨⟨m, hm, link, unplaced⟩, labels⟩
    exact ⟨m, hm, ⟨link, unplaced⟩, labels⟩

theorem drainDue_iff : drainDue s = true ↔ Due s .holdDrainMove := by
  unfold drainDue
  cases h : s.active with
  | none => simp [Due, h]
  | some k => simp [Due, h, State.hasRoom_iff]

theorem usageFrameDue_iff : usageFrameDue s = true ↔ Due s .usageFrameBuild := by
  unfold usageFrameDue
  cases hc : s.ur.collector with
  | none => simp [Due, hc]
  | some d =>
    obtain ⟨p, a⟩ := d
    cases ho : s.ur.outstanding with
    | none => simp [Due, hc, ho, State.hasRoom_iff, and_assoc]
    | some n => simp [Due, ho]

theorem resumeSweep_sweep : (resumeSweep s).ur.sweep
    = if s.ur.sweep = .paused ∧ s.ur.urq.length < 256 ∧ s.ur.awaiting = [] then .visiting else s.ur.sweep := by
  have resumes : (s.ur.sweep == .paused && s.urqRoom && s.ur.awaiting.isEmpty) = true
      ↔ s.ur.sweep = .paused ∧ s.ur.urq.length < 256 ∧ s.ur.awaiting = [] := by
    simp [State.urqRoom_iff, and_assoc]
  unfold resumeSweep
  by_cases h : s.ur.sweep = .paused ∧ s.ur.urq.length < 256 ∧ s.ur.awaiting = []
  · rw [if_pos (resumes.mpr h), if_pos h]
  · rw [if_neg (mt resumes.mp h), if_neg h]

theorem sweepDue_iff : sweepDue s = true ↔ Due s .sweepVisit := by
  simp only [sweepDue, resumeSweep_sweep, Due, beq_iff_eq]
  split
  · next h => simp [h]
  · next h => simp [h]

/-- The summary of `p` is due in SUMMARY_WAIT, once no awaiting interval is of its period (R111). -/
theorem summaryDue_eq_some (p : Num32) : summaryDue s = some p
    ↔ s.ur.sweep = .summaryWait ∧ s.ur.closing = some p ∧ ∀ i r, (s.ctx i).awaiting = some r → r.period ≠ p := by
  have awaiting : anyAwaiting s.contexts p = false ↔ ∀ i r, (s.ctx i).awaiting = some r → r.period ≠ p := by
    rw [anyAwaiting, Option.isSome_eq_false_iff, Option.isNone_iff_eq_none, firstFin_eq_none]
    refine forall_congr' fun i => ?_
    show (match (s.ctx i).awaiting with
      | some r => r.period == p
      | none => false) = false ↔ _
    cases (s.ctx i).awaiting <;> simp
  unfold summaryDue
  split
  · next q hs hc =>
    rw [hs, hc]
    cases ha : anyAwaiting s.contexts q with
    | true =>
      refine ⟨fun h => (nomatch h), fun due => ?_⟩
      obtain ⟨-, e, none⟩ := due
      cases e
      rw [awaiting.mpr none] at ha; cases ha
    | false =>
      simp only [Bool.false_eq_true, if_false, Option.some.injEq, true_and]
      refine ⟨fun e => ⟨e, ?_⟩, fun h => h.1⟩
      subst e; exact awaiting.mp ha
  · next h =>
    exact ⟨(fun e => nomatch e), fun due => (h p due.1 due.2.1).elim⟩

theorem summaryReady_iff : (summaryDue s).isSome = true ∧ s.urqRoom = true ↔ Due s .periodSummary := by
  rw [Option.isSome_iff_exists, State.urqRoom_iff]
  simp only [summaryDue_eq_some, Due]
  constructor
  · rintro ⟨⟨p, hs, hc, none⟩, room⟩; exact ⟨hs, room, p, hc, none⟩
  · rintro ⟨hs, room, p, hc, none⟩; exact ⟨⟨p, hs, hc, none⟩, room⟩

theorem due_iff (d : Option Time) : s.due d = true ↔ ∃ t, d = some t ∧ t.toNat ≤ s.me.clock.toNat := by
  cases d <;> simp [State.due, State.reached_iff]

/-! ### The list of an idle step -/

/-- An idle step's list holds exactly the commands that are due. -/
theorem mem_idleList (i : Instr) : i ∈ readyWork s ++ dueDeadlines s ↔ Due s i := by
  have cold : (s.me.coldPending == .due) = true ↔ s.me.coldPending = .due := beq_iff_eq
  simp only [readyWork, dueDeadlines, List.mem_append, List.mem_map, List.mem_filter, mem_when, mem_allPorts,
    mem_allLinks, mem_allRus, true_and, canSelect_iff, endDue_isSome_iff, drainDue_iff, usageFrameDue_iff,
    sweepDue_iff, summaryReady_iff, due_iff, State.reached_iff, Bool.and_eq_true, bne_iff_ne, beq_iff_eq]
  cases i <;> simp only [reduceCtorEq, Instr.coldReset.injEq, Instr.entrySelection.injEq, Instr.endMarker.injEq,
    Instr.probeTime.injEq, Instr.livenessDeadline.injEq, exists_eq_right, and_true, and_false, exists_false, or_false,
    false_or] <;> simp only [Due, and_comm]

/-- The place of a command in the list of an idle step. -/
def idleRank : Instr → Nat
  | .coldReset _ => 0
  | .entrySelection _ => 1
  | .endMarker _ => 2
  | .holdDrainMove => 3
  | .usageFrameBuild => 4
  | .sweepVisit => 5
  | .periodSummary => 6
  | .epochBoundary => 7
  | .staleDeadline => 8
  | .lostDeadline => 9
  | .probeTime _ => 10
  | .graceExpiry => 11
  | .heartbeatTime => 12
  | _ => 13

/-- A list of commands below a rank, each once. -/
def Ranked (n : Nat) (is : List Instr) : Prop := is.Nodup ∧ ∀ i ∈ is, idleRank i < n

/-- Commands of the next rank join it. -/
theorem Ranked.append {n : Nat} {is js : List Instr} (h : Ranked n is) (nodup : js.Nodup)
    (rank : ∀ j ∈ js, idleRank j = n) : Ranked (n + 1) (is ++ js) := by
  obtain ⟨once, below⟩ := h
  refine ⟨List.nodup_append.mpr ⟨once, nodup, fun i hi j hj e => ?_⟩, fun i hi => ?_⟩
  · have := below i hi
    rw [e, rank j hj] at this
    omega
  · rcases List.mem_append.mp hi with hi | hi
    · have := below i hi; omega
    · have := rank i hi; omega

theorem Ranked.when {is : List Instr} (c : Bool) (i : Instr) (h : Ranked (idleRank i) is) :
    Ranked (idleRank i + 1) (is ++ when c i) := by
  refine h.append (by unfold Machine.when; cases c <;> simp) fun j hj => ?_
  rw [((mem_when c i j).mp hj).2]

/-- One command for each index of a table that meets a test. -/
theorem Ranked.each {α : Type} {n : Nat} {is : List Instr} {xs : List α} {f : α → Instr} (t : α → Bool)
    (h : Ranked n is) (once : xs.Nodup) (inj : Function.Injective f) (rank : ∀ x, idleRank (f x) = n) :
    Ranked (n + 1) (is ++ (xs.filter t).map f) := by
  refine h.append ((once.filter t).map inj) fun j hj => ?_
  obtain ⟨x, -, rfl⟩ := List.mem_map.mp hj
  exact rank x

/-- It holds each of them once. -/
theorem nodup_idleList : (readyWork s ++ dueDeadlines s).Nodup := by
  have empty : Ranked 0 [] := ⟨List.nodup_nil, fun _ h => nomatch h⟩
  have ready : Ranked 7 ([] ++ readyWork s) := by
    simp only [readyWork, ← List.append_assoc]
    exact ((((((empty.when _ (.coldReset _)).each (canSelect s) (by decide) (fun _ _ h => Instr.entrySelection.inj h)
      fun _ => rfl).each _ (by decide) (fun _ _ h => Instr.endMarker.inj h) fun _ => rfl).when _ .holdDrainMove).when _
      .usageFrameBuild).when _ .sweepVisit).when _ .periodSummary
  have all : Ranked 14 ([] ++ readyWork s ++ dueDeadlines s) := by
    simp only [dueDeadlines, ← List.append_assoc]
    exact ((((((ready.when _ .epochBoundary).when _ .staleDeadline).when _ .lostDeadline).each _ (by decide)
      (fun _ _ h => Instr.probeTime.inj h) fun _ => rfl).when _ .graceExpiry).when _ .heartbeatTime).each _ (by decide)
      (fun _ _ h => Instr.livenessDeadline.inj h) fun _ => rfl
  exact all.1

end

/-- Settles O9: no command but a cold reset sets the clock (`queuesKept_exec`), and an idle step takes up the
commands that are due, or lets the clock run on. -/
theorem onlyColdResetSetsClock : Obligations.OnlyColdResetSetsClock := by
  refine ⟨fun i s t cold h => (queuesKept_exec cold h).clock, fun s none => ?_⟩
  have idles : step s = .next (idle s) := by simp only [step, none]
  refine ⟨fun held => ?_, fun free undue => ?_, fun free ⟨i, due⟩ => ?_⟩
  · rw [idles]; simp [idle, held]
  · have list : readyWork s ++ dueDeadlines s = [] :=
      List.eq_nil_iff_forall_not_mem.mpr fun i hi => undue i ((mem_idleList s i).mp hi)
    rw [idles, idle, if_neg (by simp [free]), list]
    rfl
  · refine ⟨readyWork s ++ dueDeadlines s, ?_, nodup_idleList s, mem_idleList s⟩
    have mem := (mem_idleList s i).mpr due
    rw [idles, idle, if_neg (by simp [free])]
    split
    · next list => rw [list] at mem; cases mem
    · rfl

end Sys2Proof.Machine
end

section
/-! The steps of the links, the hold queue, selection and completion (R16 to R18, R24, R122, R157, R158). -/

namespace Sys2Proof.Machine

/-! ### Probe times (R122) -/

theorem controlDropped_setLink (s : State) (c : Control) (k : LinkIx) (l : Link) :
    controlDropped c (s.setLink k l) = (controlDropped c s).setLink k l := by
  unfold controlDropped; split <;> rfl

/-- Offering reads no link record. -/
theorem offerControl_setLink (s : State) (p : Port) (c : Control) (k : LinkIx) (l : Link) :
    offerControl p c (s.setLink k l) = (offerControl p c s).setLink k l := by
  have hr : (s.setLink k l).hasRoom p = s.hasRoom p := rfl
  have hq : (s.setLink k l).port p = s.port p := rfl
  rcases offerControl_cases s p c with ⟨h, e⟩ | ⟨h, y, q, hd, e⟩ | ⟨h, hd, e⟩ <;> rw [e, offerControl, hr, h]
  · rfl
  · rw [hq, hd]; rfl
  · rw [hq, hd]; exact controlDropped_setLink (drop .egressFull (Entry.dir p ⟨.control c, s.now⟩) s) c k l

/-- With carrier UP the next probe is offered, and becomes the outstanding one (R122, R123). -/
theorem buildProbe_up {s : State} {k : LinkIx}
    (up : (s.port (.shore (s.link k).cfg.port)).carrier = true) :
    buildProbe k s = offerControl (.shore (s.link k).cfg.port)
      { dst := (s.link k).cfg.anchorAddr
        body := .probe (s.link k).cfg.anchorId (s.link k).nextProbe s.me.clock }
      (s.setLink k { s.link k with
        outstanding := some ((s.link k).nextProbe, s.me.clock), nextProbe := (s.link k).nextProbe + 1 }) :=
  if_pos up

theorem buildProbe_down {s : State} {k : LinkIx}
    (down : (s.port (.shore (s.link k).cfg.port)).carrier = false) :
    buildProbe k s = s.setLink k { s.link k with outstanding := none } := if_neg (by simp [down])

/-- A probe time that is reached: the loss, the probe, and the next time (R122). -/
theorem probeTime_due {s : State} {k : LinkIx} {t : Time} (on : (s.link k).health ≠ .off)
    (set : (s.link k).probeAt = some t) (due : t.toNat ≤ s.me.clock.toNat) :
    let s' := buildProbe k (loseOutstanding k s)
    probeTime k s = s'.setLink k { s'.link k with
      probeAt := some (timeAfter t ((s'.link k).cfg.probeInterval * 1000)) } := by
  intro s'
  unfold probeTime
  split
  · next off => exact absurd off on
  · next none _ => rw [set] at none; cases none
  · next u some _ =>
    rw [set] at some; cases some
    exact if_pos ((State.reached_iff s t).mpr due)

theorem probeTime_undue {s : State} {k : LinkIx} {t : Time} (set : (s.link k).probeAt = some t)
    (h : s.me.clock.toNat < t.toNat ∨ (s.link k).health = .off) : probeTime k s = s := by
  unfold probeTime
  split
  · rfl
  · rfl
  · next u some on =>
    rw [set] at some; cases some
    refine if_neg fun due => ?_
    have due := (State.reached_iff s t).mp due
    rcases h with h | h
    · omega
    · exact on h

/-- Settles O43: what a link does at its probe time, and that it does nothing before it. -/
theorem probeTimeBuildsProbe : Obligations.ProbeTimeBuildsProbe := by
  intro s k at_ free set
  have taken : exec (.probeTime k) s = .next (probeTime k s) :=
    congrArg Host.Outcome.next (unlessHeld_of_free s (probeTime k) free)
  refine ⟨fun on due => ?_, fun h => by rw [taken, probeTime_undue set h]⟩
  intro s₁ l next built probe
  have lost : loseOutstanding k s = s₁ := by
    cases h : (s.link k).outstanding with
    | none => simp only [loseOutstanding, s₁, h]
    | some n =>
      simp only [loseOutstanding, s₁, h, evaluate, State.setLink_link, if_true]
      rfl
  have now : s₁.me.clock = s.me.clock := lost ▸ (queuesKept_loseOutstanding s k).clock
  rw [taken, probeTime_due on set due, lost]
  constructor
  · intro up
    have offered : ((buildProbe k s₁).setLink k { (buildProbe k s₁).link k with
          probeAt := some (timeAfter at_ (((buildProbe k s₁).link k).cfg.probeInterval * 1000)) })
        = offerControl (.shore l.cfg.port) probe built := by
      rw [buildProbe_up up, ← offerControl_setLink]
      simp only [offerControl_link, State.setLink_link, State.setLink_setLink, if_true, now]
      rfl
    rw [offered]
    refine ⟨rfl, fun room => ?_, fun full control => ?_⟩
    · rw [offerControl_room built _ probe room]
    · rw [offerControl_dropped built _ probe full control, controlDropped_other _ _ (by simp [probe]) (by simp [probe])]
      rfl
  · intro down
    rw [buildProbe_down down]
    simp only [State.setLink_link, State.setLink_setLink, if_true]
    rfl

/-! ### Epoch boundaries and the hold drain (R24, R140, R157, R158) -/

/-- The staged link of a stage that is pending. -/
theorem usableStaged_eq {s : State} {st : Stage} {k : LinkIx} (stage : s.su.stage = some st)
    (slot : s.su.slot s.su.inForce.other = some k) :
    s.usableStaged = if s.usable k then some k else none := by
  simp [State.usableStaged, Su.staged, stage, slot, Option.filter]

/-- A trigger moment reaches only an UNTRIGGERED stage of its trigger (R140). -/
theorem triggerMoment_unreached {s : State} {t : Trigger}
    (h : ∀ st, s.su.stage = some st → st.trigger ≠ t ∨ st.condition ≠ .untriggered) : triggerMoment t s = s := by
  unfold triggerMoment
  split
  · next st stage =>
    refine if_neg fun c => ?_
    simp only [Bool.and_eq_true, beq_iff_eq] at c
    rcases h st stage with h | h
    · exact h c.1
    · exact h c.2
  · rfl

theorem triggerMoment_reached {s : State} {st : Stage} (stage : s.su.stage = some st)
    (cond : st.condition = .untriggered) : triggerMoment st.trigger s = tellCs (fireTrigger s) := by
  simp [triggerMoment, stage, cond, steerIf]

/-- The cause of a stage's commit, as R141 words it. -/
theorem commitCause_eq (s : State) : commitCause s = if s.active = none then .recovery else .staged := by
  unfold commitCause; cases s.active <;> rfl

/-- Settles O49: the boundary and the drain move, each when it is due and when it is not. -/
theorem holdQueueAgesAndDrains : Obligations.HoldQueueAgesAndDrains := by
  intro s free old aged due
  have boundary : exec .epochBoundary s = .next (epochBoundary s) :=
    congrArg Host.Outcome.next (unlessHeld_of_free s epochBoundary free)
  have reached : due → epochBoundary s = triggerMoment .epoch aged := fun h =>
    if_pos ((State.reached_iff s _).mpr h)
  have drains : exec .holdDrainMove s = .next (holdDrainMove s) :=
    congrArg Host.Outcome.next (unlessHeld_of_free s holdDrainMove free)
  refine ⟨fun early => ?_, fun h none => ?_, fun st k h stage trigger cond slot => ?_,
    fun k e es active hold room => ?_, fun no => ?_⟩
  · rw [boundary, epochBoundary, if_neg (mt (State.reached_iff s _).mp early)]
  · rw [boundary, reached h, triggerMoment_unreached (s := aged) none]
  · have fires : exec .epochBoundary s = .next (tellCs (fireTrigger aged)) := by
      rw [boundary, reached h, ← trigger, triggerMoment_reached (s := aged) stage cond]
    have staged := usableStaged_eq (s := aged) stage slot
    have same : aged.usable k = s.usable k := rfl
    refine ⟨fun unusable => ?_, fun usable => ?_⟩
    · rw [same, unusable, if_neg (by simp)] at staged
      have stageAged : aged.su.stage = some st := stage
      simp only [fires, fireTrigger, staged, unswitched, tellCs, stageAged]
      rfl
    · rw [same, usable, if_pos rfl] at staged
      have active : aged.active = s.active := rfl
      simp only [fires, fireTrigger, staged, commitStage, tellCs, commitCause_eq, active]
  · have room := (State.hasRoom_iff s _).mpr room
    have tooOld : s.tooOld e = old e := rfl
    intro s'
    refine ⟨fun aged => ?_, fun young => ?_⟩
    · simp only [drains, holdDrainMove, active, hold, room, tooOld, aged, if_true]; rfl
    · simp only [drains, holdDrainMove, active, hold, room, tooOld, young, if_true, Bool.false_eq_true, if_false]; rfl
  · rw [drains]
    refine congrArg _ ?_
    unfold holdDrainMove
    split
    · next k e es active hold =>
      refine if_neg fun room => ?_
      have room := (State.hasRoom_iff s _).mp room
      rcases no with no | no | ⟨j, hj, full⟩
      · rw [active] at no; cases no
      · rw [hold] at no; cases no
      · rw [active] at hj; cases hj; omega
    · rfl

end Sys2Proof.Machine
end

section
/-! Selection (R16, R17) and completion (R18). -/

namespace Sys2Proof.Machine

/-! ### The entry selected (R16) -/

theorem precedence_le_ten (e : Entry) : e.precedence ≤ 10 := by
  have user (u : UserEntry) : u.precedence ≤ 10 := by
    unfold UserEntry.precedence; split <;> omega
  unfold Entry.precedence EntryBody.precedence
  split
  · exact user _
  · exact user _
  · decide

/-- The minimum over a queue, from a bound of it. -/
theorem minPrecedence_fold_le (q : List Entry) (m : Nat) :
    q.foldl (fun m e => min m e.precedence) m ≤ m
    ∧ ∀ x ∈ q, q.foldl (fun m e => min m e.precedence) m ≤ x.precedence := by
  induction q generalizing m with
  | nil => simp
  | cons y q ih =>
    obtain ⟨start, all⟩ := ih (min m y.precedence)
    rw [List.foldl_cons]
    refine ⟨start.trans (min_le_left _ _), fun x hx => ?_⟩
    rcases List.mem_cons.mp hx with rfl | hx
    · exact start.trans (min_le_right _ _)
    · exact all x hx

theorem le_minPrecedence_fold (q : List Entry) (m n : Nat) (hm : n ≤ m) (h : ∀ x ∈ q, n ≤ x.precedence) :
    n ≤ q.foldl (fun m e => min m e.precedence) m := by
  induction q generalizing m with
  | nil => exact hm
  | cons y q ih => exact ih _ (le_min hm (h y (by simp))) fun x hx => h x (List.mem_cons_of_mem y hx)

/-- An entry that exceeds no other has the smallest precedence number. -/
theorem minPrecedence_eq {q : List Entry} {e : Entry} (mem : e ∈ q) (h : ∀ x ∈ q, e.precedence ≤ x.precedence) :
    minPrecedence q = e.precedence :=
  le_antisymm ((minPrecedence_fold_le q 10).2 e mem) (le_minPrecedence_fold q 10 _ (precedence_le_ten e) h)

/-- The entry of smallest precedence number, placed earliest, is the one selected (R16). -/
theorem selectEntry_eq (pre post : List Entry) (e : Entry) (before : ∀ x ∈ pre, e.precedence < x.precedence)
    (behind : ∀ x ∈ post, e.precedence ≤ x.precedence) :
    selectEntry (pre ++ e :: post) = some (e, pre ++ post) := by
  have least : minPrecedence (pre ++ e :: post) = e.precedence := by
    refine minPrecedence_eq (by simp) fun x hx => ?_
    rcases List.mem_append.mp hx with hx | hx
    · exact (before x hx).le
    · rcases List.mem_cons.mp hx with rfl | hx
      · exact le_rfl
      · exact behind x hx
  refine takeFirst_eq _ pre post e (by rw [least]; exact beq_self_eq_true _) fun x hx => ?_
  rw [least]
  exact beq_false_of_ne (before x hx).ne'

/-- The selected entry is offered, out of its queue (R16, R17). -/
theorem entrySelection_offers {s : State} {p : Port} {e : Entry} {q : List Entry} (carrier : (s.port p).carrier = true)
    (idle : (s.port p).sending = none) (h : selectEntry (s.port p).queue = some (e, q)) :
    entrySelection p s = offerSelected p e.body (s.setQueue p q) := by
  have nonempty : (s.port p).queue ≠ [] := by rintro e; rw [e] at h; cases h
  have can : canSelect s p = true := (canSelect_iff s p).mpr ⟨carrier, idle, nonempty⟩
  simp only [entrySelection, can, h, if_true]

/-- Settles O52: the entry that is selected is the least in its order, and each kind of entry has its own way out. -/
theorem selectionTakesSmallestPrecedence : Obligations.SelectionTakesSmallestPrecedence := by
  intro s p free ready sent
  have taken : exec (.entrySelection p) s = .next (entrySelection p s) :=
    congrArg Host.Outcome.next (unlessHeld_of_free s (entrySelection p) free)
  refine ⟨fun pre post e able queue before behind => ?_, fun h => ?_⟩
  · intro s'
    have selects : exec (.entrySelection p) s = .next (offerSelected p e.body s') := by
      rw [taken, entrySelection_offers able.1 able.2 (queue ▸ selectEntry_eq pre post e before behind)]
      rfl
    rw [selects]
    refine ⟨fun c body => ?_, fun u k t body meters => ?_, fun u m dst t body meters => ?_,
      fun u k r t body meters => ?_, fun u m dst r t body meters => ?_⟩ <;> rw [body]
    · rfl
    · have multiplier : transmissionMultiplier s' (.up u k) = (s.link k).cfg.multiplier := rfl
      simp only [offerSelected, multiplier, meters]
      rfl
    · have multiplier : transmissionMultiplier s' (.down u m dst) = m := rfl
      simp only [offerSelected, multiplier, meters]
      rfl
    · have multiplier : transmissionMultiplier s' (.up u k) = (s.link k).cfg.multiplier := rfl
      simp only [offerSelected, multiplier, meters]
    · have multiplier : transmissionMultiplier s' (.down u m dst) = m := rfl
      simp only [offerSelected, multiplier, meters]
  · have not : canSelect s p = false := by
      refine Bool.eq_false_iff.mpr fun can => ?_
      obtain ⟨carrier, idle, nonempty⟩ := (canSelect_iff s p).mp can
      exact h.elim (fun n => n ⟨carrier, idle⟩) nonempty
    rw [taken, entrySelection, not]
    rfl

end Sys2Proof.Machine
end

section
/-! Completion (R18, R104, R106, R150, R182). -/

namespace Sys2Proof.Machine

/-- A completed transmission frees its port, is counted and reported (R18). -/
theorem transmissionCompletion_eq {s : State} {p : Port} {w : Wire} (sending : (s.port p).sending = some w) :
    transmissionCompletion p s = reportCompletion w.carried
      (s.setPort p { s.port p with sending := none, transmitted := (s.port p).transmitted + 1 }) := by
  simp only [transmissionCompletion, sending]

/-- A control frame of any kind but three is not reported to a block (R18). -/
theorem reportCompletion_other {b : ControlBody} (s : State) (usage : ∀ rs, b ≠ .usage rs)
    (marker : ∀ k a n l, b ≠ .endMarker k a n l) (cold : ∀ tag code st rs, b ≠ .response tag code st rs true) :
    reportCompletion (.control b) s = s := by
  unfold reportCompletion
  split
  · next h => cases h; exact (usage _ rfl).elim
  · next h => cases h; exact (marker _ _ _ _ rfl).elim
  · next h => cases h; exact (cold _ _ _ _ rfl).elim
  · rfl

/-- The awaiting list's sweep is as it was (R104). -/
theorem drainAwaiting_sweep (n : Nat) (s : State) : (drainAwaiting n s).ur.sweep = s.ur.sweep := by
  rw [drainAwaiting_eq]
  refine foldl_keeps (fun s : State => s.ur.sweep) enterAwaiting (fun u i => ?_) _ _
  unfold enterAwaiting
  split
  · rfl
  · simp

theorem giveOut_none {s : State} (k : Nat) (h : summaryDue s = none) : giveOut k s = drainAwaiting k s := by
  unfold giveOut; split
  · next h' => rw [h] at h'; cases h'
  · rfl

theorem giveOut_summary {s : State} {p : Num32} (k : Nat) (h : summaryDue s = some p) :
    giveOut (k + 1) s = drainAwaiting k (placeSummary p s) := by
  simp only [giveOut, h]

theorem resumeSweep_of_not_paused {s : State} (h : s.ur.sweep ≠ .paused) : resumeSweep s = s := by
  simp [resumeSweep, h]

theorem resumeSweep_paused {s : State} (paused : s.ur.sweep = .paused) (room : s.ur.urq.length < 256)
    (empty : s.ur.awaiting = []) : resumeSweep s = { s with ur := { s.ur with sweep := .visiting } } := by
  simp [resumeSweep, paused, (State.urqRoom_iff s).mpr room, empty]

theorem resumeSweep_stays {s : State} (h : 256 ≤ s.ur.urq.length ∨ s.ur.awaiting ≠ []) : resumeSweep s = s := by
  have room : s.urqRoom = true → s.ur.urq.length < 256 := (State.urqRoom_iff s).mp
  refine if_neg fun c => ?_
  simp only [Bool.and_eq_true, List.isEmpty_iff] at c
  obtain ⟨⟨-, urq⟩, empty⟩ := c
  rcases h with h | h
  · exact absurd (room urq) (by omega)
  · exact h empty

/-- Settles O57: by the kind of the frame in transmission. -/
theorem completionIsReported : Obligations.CompletionIsReported := by
  intro s p w free sending s' done
  have reports {t : State} (h : reportCompletion w.carried s' = t) : done t := by
    show exec (.transmissionCompletion p) s = .next t
    rw [← h, ← transmissionCompletion_eq sending]
    exact congrArg Host.Outcome.next (unlessHeld_of_free s (transmissionCompletion p) free)
  refine ⟨⟨fun e h => reports (by rw [h]; rfl), fun a n e h => reports (by rw [h]; rfl)⟩,
    fun b h usage marker cold => reports (by rw [h]; exact reportCompletion_other s' usage marker cold),
    fun k a n l h => reports (by rw [h]; rfl), fun tag code st rs h => reports (by rw [h]; rfl),
    fun rs k carried out => ?_⟩
  intro freed enter give due
  have gives (n : Nat) (u : State) : give n u = drainAwaiting n u := by
    rw [drainAwaiting_eq]
    have same : enter = enterAwaiting := by
      funext u i
      cases a : (u.ctx i).awaiting with
      | none => rw [enterAwaiting_none a]; simp only [enter, a]
      | some r => rw [enterAwaiting_some a]; simp only [enter, a]
    show (u.ur.awaiting.take n).foldl enter _ = _
    rw [same]; rfl
  have completes {t : State} (h : resumeSweep (giveOut k freed) = t) : done t := by
    refine reports ?_
    have out : s'.ur.outstanding = some k := out
    rw [← h, carried]
    simp only [reportCompletion, usageCompleted, out]
    rfl
  have isDue (pd : Num32) : summaryDue freed = some pd ↔ due pd := summaryDue_eq_some freed pd
  refine ⟨fun running undue => ?_, fun paused => ?_, fun pd isdue pos nonempty len => ?_⟩
  · have noDue : summaryDue freed = none := Option.eq_none_iff_forall_ne_some.mpr fun pd h => undue pd ((isDue pd).mp h)
    refine completes ?_
    rw [giveOut_none k noDue, gives, resumeSweep_of_not_paused (by rw [drainAwaiting_sweep]; exact running)]
  · have noDue : summaryDue freed = none := Option.eq_none_iff_forall_ne_some.mpr fun pd h => by
      have := ((isDue pd).mp h).1
      rw [paused] at this; cases this
    intro t
    have t_eq : t = drainAwaiting k freed := gives k freed
    have t_paused : t.ur.sweep = .paused := by rw [t_eq, drainAwaiting_sweep]; exact paused
    refine ⟨fun ⟨room, empty⟩ => completes ?_, fun stays => completes ?_⟩
    · rw [giveOut_none k noDue, ← t_eq, resumeSweep_paused t_paused room empty]
    · rw [giveOut_none k noDue, ← t_eq, resumeSweep_stays stays]
  · have isDueNow := (isDue pd).mpr isdue
    have room : freed.urqRoom = true := (State.urqRoom_iff freed).mpr (by
      have := List.length_pos_iff.mpr nonempty
      show (s.ur.urq.drop k).length < 256
      rw [List.length_drop]; omega)
    obtain ⟨n, rfl⟩ : ∃ n, k = n + 1 := ⟨k - 1, by omega⟩
    refine ⟨placeSummary pd freed, ?_, completes ?_⟩
    · have places : periodSummary freed = placeSummary pd freed := by simp only [periodSummary, isDueNow, room, if_true]
      rw [← places]
      exact congrArg Host.Outcome.next (unlessHeld_of_free freed periodSummary free)
    · have idle : (placeSummary pd freed).ur.sweep = .idle := rfl
      rw [giveOut_summary n isDueNow, gives, Nat.add_sub_cancel,
        resumeSweep_of_not_paused (by rw [drainAwaiting_sweep, idle]; decide)]

end Sys2Proof.Machine
end

section
/-! Carrier changes (R1, R131, R132, R182): the links bound to the port go DOWN one after another, and what SU and
CS do at each leaves the entry of LINK_DOWN, the notice settings, a pending cold reset and the carriers alone. -/

namespace Sys2Proof.Machine

/-! ### What stands while links go DOWN -/

/-- What the events of a link's going DOWN are read against: the entry of LINK_DOWN, the notice settings, a
pending cold reset, and the carriers. -/
structure Standing where
  linkDown : EventEntry
  floor : Floor
  dest : Option (Port × Addr)
  coldPending : ColdPending
  carrier : Port → Bool

def State.standing (s : State) : Standing where
  linkDown := s.event .linkDown
  floor := s.me.noticeFloor
  dest := s.me.noticeDest
  coldPending := s.me.coldPending
  carrier := fun p => (s.port p).carrier

/-- The entry of LINK_DOWN when it is raised for link `k` (R178). -/
def Standing.raised (x : Standing) (k : LinkIx) : EventEntry where
  pending := true
  seen := decide (x.floor < x.linkDown.level) && x.dest.isSome
  level := x.linkDown.level
  detail := some (.link k)

theorem standing_setQueue (s : State) (p : Port) (q : List Entry) : (s.setQueue p q).standing = s.standing := by
  have carriers : (fun r => ((s.setQueue p q).port r).carrier) = fun r => (s.port r).carrier := by
    funext r
    rw [State.setQueue_port]
    split
    · next h => subst h; rfl
    · rfl
  show ({ s.standing with carrier := _ } : Standing) = s.standing
  rw [carriers]; rfl

/-- A control frame that is no response to a Reset COLD: dropped, it makes no cold reset due (R182). -/
def Control.isWarm (c : Control) : Prop := ∀ tag code st rs, c.body ≠ .response tag code st rs true

theorem standing_controlDropped (s : State) {c : Control} (warm : c.isWarm) :
    (controlDropped c s).standing = s.standing := by
  unfold controlDropped
  split
  · rfl
  · next h => exact (warm _ _ _ _ h).elim
  · rfl

theorem standing_offerControl (s : State) (p : Port) {c : Control} (warm : c.isWarm) :
    (offerControl p c s).standing = s.standing :=
  offerControl_keeps s State.standing p c (fun _ _ => standing_setQueue _ _ _) (fun _ _ => rfl)
    fun s => standing_controlDropped s warm

/-- A raising changes no entry but its own, and nothing else of what stands. -/
theorem standing_raise (s : State) (k : EventKind) (d : Option Detail) :
    (raise k d s).standing = { s.standing with linkDown := (raise k d s).event .linkDown } := by
  by_cases h : s.me.noticeFloor < (s.event k).level ∧ s.me.noticeDest.isSome = true
  · obtain ⟨⟨p, a⟩, hd⟩ := Option.isSome_iff_exists.mp h.2
    rw [raise_noticed s k d p a hd h.1, standing_offerControl _ _ fun _ _ _ _ => by simp, offerControl_event]
    rfl
  · rw [raise_unnoticed s k d h]; rfl

theorem standing_raise_other (s : State) {k : EventKind} (d : Option Detail) (other : k ≠ .linkDown) :
    (raise k d s).standing = s.standing := by
  rw [standing_raise, raise_event, if_neg other]; rfl

theorem standing_raise_linkDown (s : State) (k : LinkIx) :
    (raise .linkDown (some (.link k)) s).standing = { s.standing with linkDown := s.standing.raised k } := by
  rw [standing_raise, raise_event, if_pos rfl]; rfl

theorem standing_round (s : State) : (round s).standing = s.standing := by
  refine foldl_keeps State.standing _ (fun s r => ?_) _ _
  unfold sendHeartbeat
  dsimp only
  split
  · rfl
  · rw [standing_offerControl _ _ fun _ _ _ _ => by simp [heartbeatNow]]; rfl

theorem standing_recomputeLevel (s : State) : (recomputeLevel s).standing = s.standing := by
  rcases recomputeLevel_cases s with ⟨-, e⟩ | ⟨-, e⟩ <;> rw [e]
  exact standing_raise_other { s with cs := { s.cs with level := levelOf s } } _ (by decide)

theorem standing_csHandover (s : State) (g : Bool) (sw : Option (Option LinkIx)) :
    (csHandover g sw s).standing = s.standing := by
  have timer : (match sw with
      | none => s
      | some new => graceAtSwitch new s).standing = s.standing := by
    cases sw with
    | none => rfl
    | some new => cases new <;> rfl
  rcases csHandover_cases s g sw with e | e <;> rw [e]
  · exact (standing_round _).trans <| (standing_recomputeLevel _).trans timer
  · exact (standing_recomputeLevel _).trans timer

theorem standing_moveEntries (s : State) (k : LinkIx) : (moveEntries k s).standing = s.standing := by
  have out : (takeOut k s).standing = s.standing := foldl_keeps State.standing _ (fun s _ => standing_setQueue s _ _) _ s
  unfold moveEntries
  dsimp only
  split
  · exact (moveTo_keeps _ State.standing (fun _ _ _ => standing_setQueue _ _ _) (fun _ _ => rfl) (fun _ => rfl) _ _ _).trans
      out
  · exact out

theorem standing_makeSwitch (s : State) (c : SwitchCause) (new : Option LinkIx) (write : Su → Su) :
    (makeSwitch c new write s).standing = s.standing := by
  have marker (t : State) (old : Option LinkIx) : (offerMarker old new c t).standing = t.standing := by
    cases new with
    | none => rfl
    | some k => exact standing_offerControl t _ fun _ _ _ _ => by simp [switchMarker]
  have settle (t : State) (old : Option LinkIx) : (settleOld old c t).standing = t.standing := by
    cases old with
    | none => rfl
    | some k => cases c with
      | failover => exact standing_moveEntries t k
      | _ => rfl
  have raises (t : State) (old : Option LinkIx) : (raiseSwitch old new c t).standing = t.standing := by
    cases new with
    | none => exact (standing_raise_other _ _ (by decide)).trans (standing_raise_other t _ (by decide))
    | some k => exact standing_raise_other t _ (by decide)
  exact (raises _ _).trans <| (settle _ _).trans <| marker _ _

theorem standing_steerIf (s : State) (c : Bool) (f : State → Steered) (h : (f s).state.standing = s.standing) :
    (steerIf c f s).standing = s.standing :=
  steerIf_keeps s State.standing c f (fun g w s => standing_csHandover s g w) h

theorem standing_recoveryTest (s : State) : (recoveryTest s).state.standing = s.standing := by
  unfold recoveryTest
  split
  · rfl
  · split
    · exact standing_makeSwitch s _ _ _
    · split
      · exact standing_makeSwitch s _ _ _
      · rfl

/-- SU's handling of a link change, with all it hands to CS (R144). -/
theorem standing_suLinkChanged (s : State) (k : LinkIx) : (suLinkChanged k s).standing = s.standing := by
  have floor (s : State) : (floorRow k s).standing = s.standing := by unfold floorRow; split <;> rfl
  have drains (s : State) : (drainRow k s).standing = s.standing := by
    unfold drainRow
    split
    · exact standing_moveEntries _ k
    · rfl
  exact (standing_steerIf _ _ _ (standing_recoveryTest _)).trans <|
    (standing_steerIf _ _ _ (standing_makeSwitch _ _ _ _)).trans <| (drains _).trans <| (floor _).trans <|
    standing_steerIf s _ _ (standing_makeSwitch s _ _ _)

/-! ### The links of a port that loses its carrier (R132) -/

/-- The link is bound to the port and its going DOWN is a fault (R131). -/
def Faulted (port : Fin 4) (l : Link) : Prop :=
  l.cfg.port = port ∧ (l.health = .trial ∨ l.health = .up ∨ l.health = .impaired)

/-- A link after its port lost the carrier (R130 to R132). -/
def Link.carrierLost (port : Fin 4) (l : Link) : Link :=
  if l.cfg.port ≠ port ∨ l.health = .off then l
  else if l.health = .down then { l with outstanding := none }
  else { l with
    health := .down, successes := 0, losses := 0, outcomes := [], s8 := none
    outstanding := none, faults := l.faults + 1 }

/-- A fault's change of health raises LINK_DOWN, and SU handles it (R131). -/
theorem changeHealth_fault {s : State} {k : LinkIx} (fault : isFault (s.link k).health .down = true) :
    changeHealth k .down s = suLinkChanged k (raise .linkDown (some (.link k))
      (s.setLink k { (s.link k).enter .down with faults := (s.link k).faults + 1 })) := by
  have changes : (s.link k).health ≠ .down := by
    intro h; rw [h] at fault; exact absurd fault (by decide)
  simp only [changeHealth, healthEvent, beq_eq_false_iff_ne.mpr changes, fault, Bool.false_eq_true, if_false, if_true,
    State.setLink_link, State.setLink_setLink]
  rfl

/-- One link of the port: its record, and what stands. -/
theorem carrierLost_spec (port : Fin 4) (s : State) (k : LinkIx) :
    (carrierLost port s k).contexts = s.contexts
    ∧ (∀ j, (carrierLost port s k).link j = if k = j then (s.link k).carrierLost port else s.link j)
    ∧ (Faulted port (s.link k) →
        (carrierLost port s k).standing = { s.standing with linkDown := s.standing.raised k })
    ∧ (¬ Faulted port (s.link k) → (carrierLost port s k).standing = s.standing) := by
  by_cases other : (s.link k).cfg.port ≠ port ∨ (s.link k).health = .off
  · have skips : carrierLost port s k = s := by
      refine if_neg fun c => ?_
      simp only [Bool.and_eq_true, beq_iff_eq, bne_iff_ne] at c
      exact other.elim (· c.1) c.2
    have unbound : ¬ Faulted port (s.link k) := by
      rintro ⟨bound, h⟩
      rcases other with o | o
      · exact o bound
      · rw [o] at h; exact absurd h (by decide)
    rw [skips]
    refine ⟨rfl, fun j => ?_, fun f => (unbound f).elim, fun _ => rfl⟩
    split
    · next h => subst h; rw [Link.carrierLost, if_pos other]
    · rfl
  · obtain ⟨bound, on⟩ := not_or.mp other
    have bound := not_not.mp bound
    have takes : carrierLost port s k
        = let s' := s.setLink k { s.link k with outstanding := none }
          if (s.link k).health == .down then s' else changeHealth k .down s' := if_pos (by simp [bound, on])
    by_cases down : (s.link k).health = .down
    · have spared : ¬ Faulted port (s.link k) := fun h => by rw [Faulted, down] at h; exact absurd h.2 (by decide)
      rw [takes, if_pos (beq_iff_eq.mpr down)]
      refine ⟨rfl, fun j => ?_, fun f => (spared f).elim, fun _ => rfl⟩
      rw [State.setLink_link, Link.carrierLost, if_neg other, if_pos down]
    · have fault : isFault (s.link k).health .down = true := by
        cases h : (s.link k).health <;> simp_all [isFault]
      have faulted : Faulted port (s.link k) := by
        refine ⟨bound, ?_⟩
        cases h : (s.link k).health <;> simp_all
      have known : ((s.setLink k { s.link k with outstanding := none }).link k)
          = { s.link k with outstanding := none } := by rw [State.setLink_link, if_pos rfl]
      rw [takes, if_neg (by simpa using down), changeHealth_fault (by rw [known]; exact fault), known, State.setLink_setLink]
      refine ⟨by simp, fun j => ?_, fun _ => ?_, fun f => (f faulted).elim⟩
      · have links (t : State) : (suLinkChanged k t).link j = t.link j := by rw [State.link, State.link, suLinkChanged_links]
        rw [links, raise_link, State.setLink_link, Link.carrierLost, if_neg other, if_neg down]
        rfl
      · rw [standing_suLinkChanged, standing_raise_linkDown]; rfl

/-- The links of a list in ascending index, one after another: LINK_DOWN stands as raised for the last of those
that fault (R131, R132). -/
theorem foldl_carrierLost (port : Fin 4) (ks : List LinkIx) (sorted : ks.Pairwise (· < ·)) (s : State) :
    let t := ks.foldl (carrierLost port) s
    t.contexts = s.contexts
    ∧ (∀ j, t.link j = if j ∈ ks then (s.link j).carrierLost port else s.link j)
    ∧ t.standing = { s.standing with linkDown := t.standing.linkDown }
    ∧ (∀ k ∈ ks, Faulted port (s.link k) → (∀ j ∈ ks, k < j → ¬ Faulted port (s.link j)) →
        t.standing.linkDown = s.standing.raised k)
    ∧ ((∀ k ∈ ks, ¬ Faulted port (s.link k)) → t.standing.linkDown = s.standing.linkDown) := by
  induction ks generalizing s with
  | nil => simp
  | cons k ks ih =>
    obtain ⟨first, sorted⟩ := List.pairwise_cons.mp sorted
    obtain ⟨ctx₁, link₁, fault₁, spared₁⟩ := carrierLost_spec port s k
    obtain ⟨ctx, link, rest, fault, spared⟩ := ih sorted (carrierLost port s k)
    have later : ∀ j ∈ ks, (carrierLost port s k).link j = s.link j := fun j hj => by
      rw [link₁, if_neg (first j hj).ne]
    have rest₁ : (carrierLost port s k).standing
        = { s.standing with linkDown := (carrierLost port s k).standing.linkDown } := by
      by_cases f : Faulted port (s.link k)
      · rw [fault₁ f]
      · rw [spared₁ f]
    have level : (carrierLost port s k).standing.linkDown.level = s.standing.linkDown.level := by
      by_cases f : Faulted port (s.link k)
      · rw [fault₁ f]; rfl
      · rw [spared₁ f]
    have raised (j : LinkIx) : (carrierLost port s k).standing.raised j = s.standing.raised j := by
      rw [Standing.raised, level, rest₁]; rfl
    rw [List.foldl_cons]
    refine ⟨ctx.trans ctx₁, fun j => ?_, rest.trans ?_, fun j hj f last => ?_, fun none => ?_⟩
    · rw [link, link₁]
      by_cases e : k = j
      · subst e
        have notLater : k ∉ ks := fun h => (first k h).false
        simp [notLater]
      · simp only [e, if_false, List.mem_cons, Ne.symm e, false_or]
    · rw [rest₁]
    · rcases List.mem_cons.mp hj with rfl | hj
      · rw [spared fun i hi => by rw [later i hi]; exact last i (List.mem_cons_of_mem _ hi) (first i hi), fault₁ f]
      · rw [fault j hj (by rw [later j hj]; exact f) fun i hi lt => by
          rw [later i hi]; exact last i (List.mem_cons_of_mem _ hi) lt, raised]
    · rw [spared fun i hi => by rw [later i hi]; exact none i (List.mem_cons_of_mem _ hi),
        spared₁ (none k List.mem_cons_self)]

/-- The carrier goes DOWN: a waiting response to a Reset COLD makes the cold reset due (R182). -/
theorem coldOnCarrierLoss_spec (s : State) (p : Port) :
    let t := coldOnCarrierLoss p (s.setCarrier p false)
    t.contexts = s.contexts ∧ t.links = s.links
    ∧ t.standing.linkDown = s.event .linkDown ∧ t.standing.floor = s.me.noticeFloor
    ∧ t.standing.dest = s.me.noticeDest ∧ t.standing.carrier p = false
    ∧ t.standing.coldPending = if holdsColdResponse (s.port p).queue then .due else s.me.coldPending := by
  have port : (s.setCarrier p false).port p = { s.port p with carrier := false } := by
    rw [State.setCarrier_port, if_pos rfl]
  have dark : ((s.setCarrier p false).port p).carrier = false := by rw [port]
  unfold coldOnCarrierLoss
  rw [port]
  dsimp only
  split <;> exact ⟨rfl, rfl, rfl, rfl, rfl, dark, rfl⟩

/-- Settles O45: the fold over the port's links takes each of them down and keeps what else stands. -/
theorem carrierChangesActOnTheirPort : Obligations.CarrierChangesActOnTheirPort := by
  refine ⟨fun s port free up => ?_, fun s port => ⟨fun down => ?_, fun held up => ?_⟩,
    fun s port up => ⟨rfl, fun quiet => ?_, fun free carrier waits => ?_⟩⟩
  · have down : shoreCarrierDown port s = allLinks.foldl (carrierLost port)
        (coldOnCarrierLoss (.shore port) (s.setCarrier (.shore port) false)) := by
      simp [shoreCarrierDown, up, free]
    have before := coldOnCarrierLoss_spec s (.shore port)
    have after := foldl_carrierLost port allLinks (by decide)
      (coldOnCarrierLoss (.shore port) (s.setCarrier (.shore port) false))
    generalize coldOnCarrierLoss (.shore port) (s.setCarrier (.shore port) false) = c at down before after
    generalize allLinks.foldl (carrierLost port) c = t at down after
    obtain ⟨ctx₀, links, entry, floor, dest, carrier, cold⟩ := before
    obtain ⟨ctx, link, rest, fault, spared⟩ := after
    have link₀ (j : LinkIx) : c.link j = s.link j := by rw [State.link, State.link, links]
    simp only [link₀] at link fault spared
    refine ⟨t, congrArg Host.Outcome.next down, ?_, ctx.trans ctx₀, fun k => ⟨?_, ⟨fun j f last => ?_, fun none => ?_⟩, ?_⟩⟩
    · exact (congrArg (Standing.carrier · (.shore port)) rest).trans carrier
    · rw [link, if_pos (mem_allLinks k)]; rfl
    · refine (fault j (mem_allLinks j) f fun i _ lt => last i lt).trans ?_
      rw [Standing.raised, entry, floor, dest]
    · exact (spared fun i _ => none i).trans entry
    · exact (congrArg Standing.coldPending rest).trans cold
  · have dark : shoreCarrierDown port s = s := by simp [shoreCarrierDown, down]
    exact congrArg Host.Outcome.next dark
  · have records : shoreCarrierDown port s = s.setCarrier (.shore port) false := by
      simp [shoreCarrierDown, held, up, State.setCarrier]
    exact congrArg Host.Outcome.next records
  · have changes : cellCarrierChange port up s = s.setCarrier (.cell port) up := by
      have port_ : (s.setCarrier (.cell port) up).port (.cell port) = { s.port (.cell port) with carrier := up } := by
        rw [State.setCarrier_port, if_pos rfl]
      rcases quiet with rfl | quiet
      · simp [cellCarrierChange]
      · simp [cellCarrierChange, coldOnCarrierLoss, port_, quiet]
    exact congrArg Host.Outcome.next changes
  · have port_ : (s.setCarrier (.cell port) false).port (.cell port)
        = { s.port (.cell port) with carrier := false } := by rw [State.setCarrier_port, if_pos rfl]
    have loses : cellCarrierChange port false s
        = { s.setCarrier (.cell port) false with me := { s.me with coldPending := .due } } := by
      simp [cellCarrierChange, coldOnCarrierLoss, port_, carrier, free, waits]
    exact congrArg Host.Outcome.next loses

end Sys2Proof.Machine
end

section
/-! The warm reset (R184): it empties the queues, so that the few frames of its zone change and its round find room,
and SU, every enabled link being DOWN, makes no switch. -/

namespace Sys2Proof.Machine

/-! ### Frames placed after the queues are emptied -/

/-- State `t` of a warm reset of `b`: its queues hold at most `n` entries, control entries placed at that moment
that meet `Q`; nothing else of the ports has changed, no drop is counted, and ME differs in its event table. -/
structure Emptied (b : State) (Q : Port → Control → Prop) (n : Nat) (t : State) : Prop where
  short : ∀ p, (t.port p).queue.length ≤ n
  placed : ∀ p, ∀ x ∈ (t.port p).queue, x.placed = b.me.clock ∧ ∃ c, x.body = .control c ∧ Q p c
  port : ∀ p, t.port p = { b.port p with queue := (t.port p).queue }
  drops : t.tc.drops = Vector.replicate 32 0
  me : t.me = { b.me with events := t.me.events }

section
variable {b : State} {Q : Port → Control → Prop} {n : Nat} {t : State}

/-- The other blocks may change. -/
theorem Emptied.of_eq {u : State} (h : Emptied b Q n t) (ports : u.ports = t.ports) (drops : u.tc.drops = t.tc.drops)
    (me : u.me = { t.me with events := u.me.events }) : Emptied b Q n u := by
  have port (p : Port) : u.port p = t.port p := by rw [State.port, State.port, ports]
  refine ⟨fun p => port p ▸ h.short p, fun p => port p ▸ h.placed p, fun p => port p ▸ h.port p,
    drops.trans h.drops, me.trans ?_⟩
  rw [h.me]

/-- A control frame offered finds room. -/
theorem Emptied.offerControl (h : Emptied b Q n t) (room : n < 512) {p : Port} {c : Control} (sent : Q p c) :
    Emptied b Q (n + 1) (offerControl p c t) := by
  have now : t.me.clock = b.me.clock := by rw [h.me]
  rw [offerControl_room t p c ((h.short p).trans_lt room)]
  refine ⟨fun q => ?_, fun q x hx => ?_, fun q => ?_, h.drops, h.me⟩
  · rw [place_port]
    split
    · have := h.short p
      simp only [List.length_append, List.length_singleton]; omega
    · exact (h.short q).trans (Nat.le_succ n)
  · rw [place_port] at hx
    split at hx
    · next pq =>
      subst pq
      rcases List.mem_append.mp hx with hx | hx
      · exact h.placed p x hx
      · rw [List.mem_singleton.mp hx]
        exact ⟨now, c, rfl, sent⟩
    · exact h.placed q x hx
  · rw [place_port]
    split
    · next pq => subst pq; dsimp only; rw [h.port p]
    · exact h.port q

/-- An event raised: its notice finds room (R179). -/
theorem Emptied.raise (h : Emptied b Q n t) (room : n < 512) (k : EventKind) (d : Option Detail)
    (notices : ∀ p a lv, b.me.noticeDest = some (p, a) → Q p { dst := a, body := .notice k lv b.me.clock d }) :
    Emptied b Q (n + 1) (raise k d t) := by
  have dest : t.me.noticeDest = b.me.noticeDest := by rw [h.me]
  have now : t.me.clock = b.me.clock := by rw [h.me]
  by_cases heard : t.me.noticeFloor < (t.event k).level ∧ t.me.noticeDest.isSome = true
  · obtain ⟨⟨p, a⟩, hd⟩ := Option.isSome_iff_exists.mp heard.2
    rw [raise_noticed t k d p a hd heard.1, now]
    refine Emptied.offerControl ?_ room (notices p a _ (dest ▸ hd))
    exact h.of_eq rfl rfl rfl
  · rw [raise_unnoticed t k d heard]
    have more := h.of_eq (u := t.setEvent k { t.event k with pending := true, seen := false, detail := d }) rfl rfl rfl
    exact { more with short := fun p => (more.short p).trans (Nat.le_succ n) }

theorem Emptied.sendHeartbeat (h : Emptied b Q n t) (room : n < 512) (r : RuIx)
    (beat : (t.ru r).state ≠ .unused → Q (.cell (t.ru r).port) { dst := (t.ru r).addr, body := heartbeatNow t }) :
    Emptied b Q (n + 1) (sendHeartbeat r t) := by
  unfold Machine.sendHeartbeat
  dsimp only
  split
  · exact { h with short := fun p => (h.short p).trans (Nat.le_succ n) }
  · next used =>
    refine Emptied.offerControl ?_ room (beat (by simpa using used))
    exact h.of_eq rfl rfl rfl

end

/-! ### The round of heartbeats (R165) -/

/-- An entry of the radio unit table with one heartbeat more, where it is configured (R165). -/
def RadioUnit.beaten (u : RadioUnit) : RadioUnit :=
  if u.state = .unused then u else { u with heartbeats := u.heartbeats + 1 }

theorem sendHeartbeat_ru_beaten (t : State) (r q : RuIx) :
    (sendHeartbeat r t).ru q = if r = q then (t.ru q).beaten else t.ru q := by
  rw [sendHeartbeat_ru, RadioUnit.beaten]
  by_cases e : r = q
  · subst e
    by_cases h : (t.ru r).state = .unused <;> simp [h]
  · simp [e]

theorem sendHeartbeat_cs (t : State) (r : RuIx) :
    ∃ rus, (sendHeartbeat r t).cs = { t.cs with rus := rus } := by
  unfold sendHeartbeat
  dsimp only
  split
  · exact ⟨_, rfl⟩
  · exact ⟨_, offerControl_cs _ _ _⟩

/-- The frame of a round is the same for every entry: a heartbeat changes nothing that it reports. -/
theorem heartbeatNow_sendHeartbeat (t : State) (r : RuIx) : heartbeatNow (sendHeartbeat r t) = heartbeatNow t := by
  have active : (sendHeartbeat r t).active = t.active := active_of_selector (by simp)
  simp [heartbeatNow, active, State.link, State.now]

/-- The heartbeats of a list of entries, each named once. -/
theorem foldl_sendHeartbeat (b : State) (Q : Port → Control → Prop) (rs : List RuIx) (nodup : rs.Nodup) (n : Nat)
    (t : State) (room : n + rs.length ≤ 512) (empty : Emptied b Q n t)
    (beat : ∀ r ∈ rs, (t.ru r).state ≠ .unused →
      Q (.cell (t.ru r).port) { dst := (t.ru r).addr, body := heartbeatNow t }) :
    let u := rs.foldl (fun s r => sendHeartbeat r s) t
    Emptied b Q (n + rs.length) u ∧ u.cs = { t.cs with rus := u.cs.rus }
    ∧ ∀ q, u.ru q = if q ∈ rs then (t.ru q).beaten else t.ru q := by
  induction rs generalizing n t with
  | nil => exact ⟨empty, rfl, fun q => by simp⟩
  | cons r rs ih =>
    obtain ⟨notIn, nodup⟩ := List.nodup_cons.mp nodup
    rw [List.length_cons] at room
    have later : ∀ q ∈ rs, (sendHeartbeat r t).ru q = t.ru q := fun q hq => by
      rw [sendHeartbeat_ru_beaten, if_neg (by rintro rfl; exact notIn hq)]
    obtain ⟨placed, cs, rus⟩ := ih nodup (n + 1) (sendHeartbeat r t) (by omega)
      (empty.sendHeartbeat (by omega) r (beat r List.mem_cons_self))
      fun q hq => by rw [later q hq, heartbeatNow_sendHeartbeat]; exact beat q (List.mem_cons_of_mem r hq)
    refine ⟨by rw [List.length_cons, Nat.add_comm rs.length, ← Nat.add_assoc]; exact placed, ?_, fun q => ?_⟩
    · obtain ⟨_, first⟩ := sendHeartbeat_cs t r
      rw [first] at cs
      exact cs
    · rw [List.foldl_cons, rus]
      by_cases e : r = q
      · subst e; rw [if_neg notIn, if_pos List.mem_cons_self, sendHeartbeat_ru_beaten, if_pos rfl]
      · simp [sendHeartbeat_ru_beaten, e, Ne.symm e]

theorem round_spec (b : State) (Q : Port → Control → Prop) (n : Nat) (t : State) (room : n + 16 ≤ 512)
    (empty : Emptied b Q n t)
    (beat : ∀ r, (t.ru r).state ≠ .unused →
      Q (.cell (t.ru r).port) { dst := (t.ru r).addr, body := heartbeatNow t }) :
    Emptied b Q (n + 16) (round t) ∧ (round t).cs = { t.cs with rus := (round t).cs.rus }
    ∧ ∀ q, (round t).ru q = (t.ru q).beaten := by
  have all := foldl_sendHeartbeat b Q allRus (by decide) n t room empty fun r _ => beat r
  generalize whole : allRus.foldl (fun s r => sendHeartbeat r s) t = u at all
  obtain ⟨placed, cs, rus⟩ := all
  rw [show round t = u from whole]
  exact ⟨placed, cs, fun q => (rus q).trans (if_pos (mem_allRus q))⟩

/-! ### SU makes no switch -/

theorem usableStaged_of_empty {t : State} (slot : t.su.staged = none) : t.usableStaged = none := by
  rw [State.usableStaged, slot]; rfl

/-- With no stage, no link in force and none staged, and no link UP or IMPAIRED, a zone change makes no switch
(R144, R146). -/
theorem suZoneChanged_dark {t : State} (stage : t.su.stage = none) (active : t.active = none)
    (staged : t.su.staged = none) (dark : ∀ k, (t.link k).health ≠ .up ∧ (t.link k).health ≠ .impaired) :
    suZoneChanged t = unswitched t := by
  have noOrder : fromOrder t = none := (fromOrder_iff t none).mp
    ⟨fun j _ h => (dark j).1 h.1, fun j _ h => (dark j).2 h.1⟩
  have waiting : t.waitingUsable = false := by rw [State.waitingUsable, stage]
  simp only [suZoneChanged, active, waiting, recoveryTest, usableStaged_of_empty staged, noOrder, Bool.false_eq_true,
    if_false]

/-! ### The state a warm reset begins with (R184, step 2) -/

theorem warmTraffic_port (s : State) (p : Port) : (warmTraffic s).port p = { s.port p with queue := [] } := by
  simp [State.port, warmTraffic, PortState.warm]

theorem warmTraffic_link (s : State) (k : LinkIx) : (warmTraffic s).link k = (s.link k).warm s.me.clock := by
  simp [State.link, warmTraffic, State.now]

theorem warmTraffic_ru (s : State) (r : RuIx) : (warmTraffic s).ru r = (s.ru r).warm := by
  simp [State.ru, warmTraffic, Cs.warm]

theorem warmEvents_event (s : State) (k : EventKind) : (warmEvents s).event k = (s.event k).blank := by
  simp [State.event, warmEvents]

theorem Link.warm_off {l : Link} (now : Time) (off : l.health = .off) :
    l.warm now = { l with outstanding := none, probeAt := none } := by
  simp only [Link.warm, off]

theorem Link.warm_on {l : Link} (now : Time) (on : l.health ≠ .off) :
    l.warm now = { l with
      health := .down, successes := 0, losses := 0, outcomes := [], s8 := none, outstanding := none
      probeAt := some (timeAfter now (l.cfg.probeInterval * 1000)) } := by
  unfold Link.warm
  split
  · next off => exact absurd off on
  · rfl

theorem RadioUnit.warm_unused {u : RadioUnit} (h : u.state = .unused) : u.warm = u := by
  simp only [RadioUnit.warm, h]

theorem RadioUnit.warm_used {u : RadioUnit} (h : u.state ≠ .unused) :
    u.warm = { u with state := .lost, deadline := none } := by
  unfold RadioUnit.warm
  split
  · next unused => exact absurd unused h
  · rfl

theorem usageOnWire_iff (s : State) :
    usageOnWire s = true ↔ ∃ p w rs, (s.port p).sending = some w ∧ w.carried = .control (.usage rs) := by
  unfold usageOnWire
  rw [List.any_eq_true]
  constructor
  · rintro ⟨p, -, h⟩
    split at h
    · next w sending =>
      split at h
      · next rs carried => exact ⟨p, w, rs, sending, carried⟩
      · cases h
    · cases h
  · rintro ⟨p, w, rs, sending, carried⟩
    exact ⟨p, mem_allPorts p, by simp [sending, carried]⟩

end Sys2Proof.Machine
end

section
/-! What a warm reset makes of each block (R20, R44, R66, R116, R136, R153, R172, R184). -/

namespace Sys2Proof.Machine

/-- The state a warm reset of `b` has reached when its round begins (R66, R172, R184). -/
def beforeRound (b : State) : State := recomputeFloor (recomputeLevel (enterZone 0 (warmTraffic (warmEvents b))))

theorem beforeRound_su (b : State) : (beforeRound b).su = b.su.warm := by
  simp [beforeRound, enterZone]; rfl

theorem beforeRound_link (b : State) (k : LinkIx) : (beforeRound b).link k = (b.link k).warm b.me.clock := by
  have links : (beforeRound b).links = (warmTraffic (warmEvents b)).links := by simp [beforeRound]
  rw [State.link, links]
  exact warmTraffic_link (warmEvents b) k

theorem beforeRound_ru (b : State) (r : RuIx) : (beforeRound b).ru r = (b.ru r).warm := by
  have rus : (beforeRound b).cs.rus = (warmTraffic (warmEvents b)).cs.rus := by simp [beforeRound]
  rw [State.ru, rus]
  exact warmTraffic_ru (warmEvents b) r

theorem beforeRound_zu (b : State) : (beforeRound b).zu = { b.zu with
    pos := { b.zu.pos with state := .lost, stale := none, lost := none }, candidate := none, count := 0
    zoneIx := 0, zone := b.zu.table[(0 : ZoneIx)], gen := b.zu.gen + 1
    gate := if b.zu.table[(0 : ZoneIx)].entryKind = .guarded then .closed else .open } := by
  have gate (k : EntryKind) : gateOf k = if k = .guarded then .closed else .open := by cases k <;> rfl
  rw [← gate]
  simp only [beforeRound, recomputeFloor_zu, recomputeLevel_zu, enterZone_zu]
  rfl

/-- SU makes no switch in a warm reset (R153). -/
theorem warmReset_eq (b : State) : warmReset b = round (beforeRound b) := by
  have su : (enterZone 0 (warmTraffic (warmEvents b))).su = b.su.warm := by simp [enterZone]; rfl
  have dark (k : LinkIx) : ((enterZone 0 (warmTraffic (warmEvents b))).link k).health ≠ .up
      ∧ ((enterZone 0 (warmTraffic (warmEvents b))).link k).health ≠ .impaired := by
    have link : (enterZone 0 (warmTraffic (warmEvents b))).link k = (b.link k).warm b.me.clock := by
      rw [State.link, enterZone_links]; exact warmTraffic_link (warmEvents b) k
    rw [link]
    by_cases off : (b.link k).health = .off
    · rw [Link.warm_off _ off]; simp [off]
    · rw [Link.warm_on _ off]; simp
  unfold warmReset warmZone
  rw [suZoneChanged_dark (by rw [su]; rfl) (by rw [State.active, su]; rfl) (by rw [su]; rfl) dark]
  rfl

/-- The notices of a warm reset's own find room (R184). -/
theorem emptied_beforeRound (b : State) (Q : Port → Control → Prop)
    (notices : ∀ k, k = .zoneChange ∨ k = .serviceLevel → ∀ p a lv d, b.me.noticeDest = some (p, a) →
      Q p { dst := a, body := .notice k lv b.me.clock d }) : Emptied b Q 2 (beforeRound b) := by
  have start : Emptied b Q 0 (warmTraffic (warmEvents b)) := by
    have port (p : Port) : (warmTraffic (warmEvents b)).port p = { b.port p with queue := [] } :=
      warmTraffic_port (warmEvents b) p
    exact ⟨fun p => by simp [port], fun p x hx => by simp [port] at hx, fun p => by simp [port], rfl, rfl⟩
  have zoned : Emptied b Q 1 (enterZone 0 (warmTraffic (warmEvents b))) := by
    unfold enterZone
    dsimp only
    refine Emptied.of_eq (Emptied.raise (Emptied.of_eq start ?_ ?_ ?_) (by decide) .zoneChange _ ?_) rfl rfl rfl
    · rfl
    · rfl
    · rfl
    · exact fun p a lv => notices _ (.inl rfl) p a lv _
  have levelled : Emptied b Q 2 (recomputeLevel (enterZone 0 (warmTraffic (warmEvents b)))) := by
    rcases recomputeLevel_cases (enterZone 0 (warmTraffic (warmEvents b))) with ⟨-, e⟩ | ⟨-, e⟩ <;> rw [e]
    · exact { zoned with short := fun p => (zoned.short p).trans (Nat.le_succ 1) }
    · refine Emptied.of_eq (Emptied.raise (Emptied.of_eq zoned ?_ ?_ ?_) (by decide) .serviceLevel _ ?_) rfl rfl rfl
      · rfl
      · rfl
      · rfl
      · exact fun p a lv => notices _ (.inr rfl) p a lv _
  exact levelled.of_eq rfl rfl rfl

theorem beforeRound_cs (b : State) : (beforeRound b).cs = { b.cs with
    hold := [], grace := none, level := levelOf (beforeRound b), rus := (beforeRound b).cs.rus } := by
  have cs (s : State) : (recomputeLevel s).cs = { s.cs with level := levelOf s } := by
    rcases recomputeLevel_cases s with ⟨h, e⟩ | ⟨-, e⟩ <;> rw [e]
    · rw [h]
    · rw [recomputeFloor_cs, raise_cs]
  have level : levelOf (beforeRound b) = levelOf (enterZone 0 (warmTraffic (warmEvents b))) :=
    levelOf_congr (by simp [beforeRound]) (by simp [beforeRound]) (by simp [beforeRound])
  rw [level, beforeRound, recomputeFloor_cs, cs, enterZone_cs]
  rfl

theorem beforeRound_event (b : State) {k : EventKind} (zone : k ≠ .zoneChange) (level : k ≠ .serviceLevel) :
    (beforeRound b).event k = (b.event k).blank := by
  have levelled (s : State) : (recomputeLevel s).event k = s.event k := by
    rcases recomputeLevel_cases s with ⟨-, e⟩ | ⟨-, e⟩ <;> rw [e]
    show (raise .serviceLevel _ _).event k = s.event k
    rw [raise_event, if_neg level.symm]; rfl
  have zoned : (enterZone 0 (warmTraffic (warmEvents b))).event k = (warmEvents b).event k := by
    show (raise .zoneChange _ _).event k = _
    rw [raise_event, if_neg zone.symm]; rfl
  show (recomputeLevel _).event k = _
  rw [levelled, zoned, warmEvents_event]

/-- A frame that a warm reset of `s` places itself: a notice of its zone change or its service level, or a
heartbeat of body `beat` to a configured entry (R184). -/
def WarmFrame (s : State) (beat : ControlBody) (p : Port) (c : Control) : Prop :=
  (∃ k lv d, c.body = .notice k lv s.me.clock d ∧ (k = .zoneChange ∨ k = .serviceLevel)
    ∧ s.me.noticeDest = some (p, c.dst))
  ∨ ∃ r, (s.ru r).state ≠ .unused ∧ p = .cell (s.ru r).port ∧ c.dst = (s.ru r).addr ∧ c.body = beat

/-- The entry of a unit keeps its port and address in a warm reset, and whether it is configured (R172). -/
theorem RadioUnit.warm_kept (u : RadioUnit) :
    (u.warm.state = .unused ↔ u.state = .unused) ∧ u.warm.port = u.port ∧ u.warm.addr = u.addr := by
  by_cases h : u.state = .unused
  · rw [RadioUnit.warm_unused h]; simp
  · rw [RadioUnit.warm_used h]; simp [h]

theorem warmReset_spec (b : State) :
    Emptied b (WarmFrame b (heartbeatNow (beforeRound b))) 18 (warmReset b)
    ∧ (warmReset b).cs = { (beforeRound b).cs with rus := (warmReset b).cs.rus }
    ∧ ∀ r, (warmReset b).ru r = (b.ru r).warm.beaten := by
  have start : Emptied b (WarmFrame b (heartbeatNow (beforeRound b))) 2 (beforeRound b) :=
    emptied_beforeRound b _ fun k kinds p a lv d dest => .inl ⟨k, lv, d, rfl, kinds, dest⟩
  have beats (r : RuIx) (used : ((beforeRound b).ru r).state ≠ .unused) :
      WarmFrame b (heartbeatNow (beforeRound b)) (.cell ((beforeRound b).ru r).port)
        { dst := ((beforeRound b).ru r).addr, body := heartbeatNow (beforeRound b) } := by
    obtain ⟨state, port, addr⟩ := RadioUnit.warm_kept (b.ru r)
    rw [beforeRound_ru] at used ⊢
    exact .inr ⟨r, mt state.mpr used, by rw [port], addr, rfl⟩
  have spec := round_spec b _ 2 (beforeRound b) (by decide) start beats
  rw [← warmReset_eq] at spec
  obtain ⟨placed, cs, rus⟩ := spec
  exact ⟨placed, cs, fun r => by rw [rus, beforeRound_ru]⟩

theorem warmReset_contexts (b : State) : (warmReset b).contexts = b.contexts := by
  rw [warmReset_eq, round_contexts]; simp [beforeRound]; rfl

theorem warmReset_ur (b : State) : (warmReset b).ur = warmUr b := by
  rw [warmReset_eq, round_ur]; simp [beforeRound]; rfl

theorem warmReset_su (b : State) : (warmReset b).su = b.su.warm := by rw [warmReset_eq, round_su, beforeRound_su]

theorem warmReset_active (b : State) : (warmReset b).active = none := by rw [State.active, warmReset_su]; rfl

theorem warmReset_link (b : State) (k : LinkIx) : (warmReset b).link k = (b.link k).warm b.me.clock := by
  rw [warmReset_eq, round_link, beforeRound_link]

theorem warmReset_event (b : State) {k : EventKind} (zone : k ≠ .zoneChange) (level : k ≠ .serviceLevel) :
    (warmReset b).event k = (b.event k).blank := by rw [warmReset_eq, round_event, beforeRound_event b zone level]

theorem warmReset_level (b : State) : (warmReset b).cs.level = levelOf (warmReset b) := by
  have same : levelOf (round (beforeRound b)) = levelOf (beforeRound b) := levelOf_congr (by simp) (by simp) (by simp)
  rw [warmReset_eq, round_cs_level, same, beforeRound_cs]

theorem warmReset_cs (b : State) : (warmReset b).cs = { b.cs with
    hold := [], grace := none, level := levelOf (warmReset b), rus := (warmReset b).cs.rus } := by
  obtain ⟨-, cs, -⟩ := warmReset_spec b
  have level : levelOf (warmReset b) = levelOf (beforeRound b) := by
    rw [← warmReset_level, cs, beforeRound_cs]
  rw [level]
  refine cs.trans ?_
  rw [beforeRound_cs]

theorem warmReset_floor (b : State) : (warmReset b).tc.floor = floorOf (warmReset b) := by
  obtain ⟨-, cs, -⟩ := warmReset_spec b
  have same : floorOf (warmReset b) = floorOf (beforeRound b) :=
    floorOf_congr (by rw [warmReset_eq]; simp) (by rw [warmReset_eq]; simp) (by rw [cs]) (by rw [cs]) (by rw [cs])
  rw [same, warmReset_eq, round_tc_floor]; rfl

theorem warmReset_zu (b : State) : (warmReset b).zu = (beforeRound b).zu := by rw [warmReset_eq, round_zu]

/-- The heartbeats of a warm reset report what stands after it. -/
theorem warmReset_beat (b : State) : heartbeatNow (beforeRound b) = .backhaulStatus (warmReset b).cs.level
    (warmReset b).zu.gate (warmReset b).zu.zone.realm (warmReset b).tc.floor none (warmReset b).zu.gen b.me.clock := by
  have active : (beforeRound b).active = none := by rw [State.active, beforeRound_su]; rfl
  have now : (beforeRound b).now = b.me.clock := by simp [State.now, beforeRound]; rfl
  rw [warmReset_eq, round_cs_level, round_zu, round_tc_floor, heartbeatNow, active, now]
  rfl

theorem State.got_wire (s : State) (p q : Port) : ((s.got p).port q).sending = (s.port q).sending
    ∧ ((s.got p).port q).transmitted = (s.port q).transmitted := by
  rw [State.got_port]
  split
  · next h => subst h; exact ⟨rfl, rfl⟩
  · exact ⟨rfl, rfl⟩

/-- Settles O59: the state before the round, block by block, and the round over it. -/
theorem warmResetKeepsAccounts : Obligations.WarmResetKeepsAccounts := by
  intro s rq passes
  have taken : exec (.resetWarm rq) s = .next (answerOk rq .reset [] (warmReset (s.got rq.port))) := by
    have asks : exec (.resetWarm rq) s = .next (ask rq .reset resetWarm s) := rfl
    rw [asks, ask_of_passes s resetWarm passes]
    simp only [resetWarm, answerOk]
  obtain ⟨placed, -, rus⟩ := warmReset_spec (s.got rq.port)
  have contexts := warmReset_contexts (s.got rq.port)
  have ur := warmReset_ur (s.got rq.port)
  have su := warmReset_su (s.got rq.port)
  have active := warmReset_active (s.got rq.port)
  have link := warmReset_link (s.got rq.port)
  have event := @warmReset_event (s.got rq.port)
  have cs := warmReset_cs (s.got rq.port)
  have floor := warmReset_floor (s.got rq.port)
  have zu := (warmReset_zu (s.got rq.port)).trans (beforeRound_zu _)
  rw [warmReset_beat] at placed
  generalize warmReset (s.got rq.port) = t at *
  have onWire : usageOnWire (s.got rq.port) = true
      ↔ ∃ p w rs, (s.port p).sending = some w ∧ w.carried = .control (.usage rs) := by
    rw [usageOnWire_iff]
    simp only [State.got_wire]
  have out : t.ur.outstanding = if usageOnWire (s.got rq.port) then s.ur.outstanding else none := by rw [ur]; rfl
  refine ⟨t, taken, contexts, ?_, ⟨fun wire => ?_, fun quiet => ?_⟩, fun p x hx => ?_, placed.drops, fun p => ?_, active, su,
    fun k on => ?_, fun k off => ?_, fun r used => ?_, fun r unused => ?_, zu, cs, floor, placed.me,
    fun k zone level => ?_⟩
  · rw [ur]; rfl
  · rw [out, if_pos (onWire.mpr wire)]
  · rw [out, if_neg (mt onWire.mp quiet)]
  · exact placed.placed p x hx
  · obtain ⟨sending, transmitted⟩ := State.got_wire s rq.port p
    rw [placed.port p]
    exact ⟨State.got_carrier s rq.port p, sending, transmitted, rfl⟩
  · rw [link]; exact Link.warm_on _ on
  · rw [link]; exact Link.warm_off _ off
  · rw [rus, RadioUnit.beaten, State.got_ru, RadioUnit.warm_used used, if_neg (by simp)]
  · rw [rus, RadioUnit.beaten, State.got_ru, RadioUnit.warm_unused unused, if_pos unused]
  · exact event zone level

end Sys2Proof.Machine
end

section
/-! The intake checks of R4 on the bytes of a frame. -/

namespace Sys2Proof.Machine

/-- A field of some bytes of a frame is a field of the frame. -/
theorem field_within (bs : List Byte) {a len i n : Nat} (h : i + n ≤ len) :
    field ((bs.drop a).take len) i n = field bs (a + i) n := by
  unfold field
  rw [List.drop_take, List.take_take, List.drop_drop, Nat.min_eq_left (by omega)]

theorem lengthAgrees_iff (received jz : Nat) :
    lengthAgrees received jz = true ↔ jz + 14 = received ∨ (received = 60 ∧ jz + 14 ≤ 60) := by
  simp only [lengthAgrees, Bool.or_eq_true, Bool.and_eq_true, beq_iff_eq, decide_eq_true_eq]
  refine or_congr_right (and_congr_right ?_)
  rintro rfl; rfl

/-- A bearer frame that is read has passed its checks (checks 3 and 6 of R4). -/
theorem readBearer_some {bs : List Byte} {f : BearerFrame} (h : readBearer bs = some f) :
    10 ≤ bs.length ∧ field bs 0 1 = 1 ∧ field bs 1 1 ∈ [1, 2] ∧ field bs 2 2 = bs.length
    ∧ field bs 8 2 = bs.length - 10 ∧ bs.length - 10 ≤ 9000 ∧ field bs 4 4 ≠ 0 := by
  unfold readBearer at h
  dsimp only at h
  split at h
  · cases h
  · next k kind =>
    have known : field bs 1 1 ∈ [1, 2] := by
      split at kind
      · next e => simp [e]
      · next e => simp [e]
      · cases kind
    split at h
    · cases h
    · next ok =>
      simp only [not_or, not_not, not_lt] at ok
      obtain ⟨long, version, jz, payload, most, id⟩ := ok
      exact ⟨long, version, known, jz, payload, most, id⟩

/-- What a frame accepted on the cell side is (R3, R185). -/
theorem readJz_cell {i : Fin 4} {src : Addr} {jz : List Byte} {a : Arrival} (h : readJz (.cell i) src jz = some a) :
    (field jz 1 1 = 11 ∧ 7 ≤ jz.length) ∨ (field jz 1 1 ∈ [1, 2] ∧ ∃ f, readBearer jz = some f)
    ∨ (field jz 1 1 = 8 ∧ jz.length = 6) := by
  unfold readJz at h
  split at h
  · next kind =>
    split at h
    · cases h
    · exact .inl ⟨kind, by omega⟩
  · next kind =>
    obtain ⟨f, hf, -⟩ := Option.map_eq_some_iff.mp h
    exact .inr (.inl ⟨by simp [kind], f, hf⟩)
  · next kind =>
    obtain ⟨f, hf, -⟩ := Option.map_eq_some_iff.mp h
    exact .inr (.inl ⟨by simp [kind], f, hf⟩)
  · next kind =>
    split at h
    · next len => exact .inr (.inr ⟨kind, len⟩)
    · cases h
  · next p _ => cases p
  · next p _ => cases p
  · cases h

/-- What a frame accepted on the shore side is (R3, R185). -/
theorem readJz_shore {i : Fin 4} {src : Addr} {jz : List Byte} {a : Arrival} (h : readJz (.shore i) src jz = some a) :
    (field jz 1 1 = 11 ∧ 7 ≤ jz.length) ∨ (field jz 1 1 = 3 ∧ ∃ f, readBearer (jz.drop 10) = some f)
    ∨ (field jz 1 1 = 5 ∧ jz.length = 20) := by
  unfold readJz at h
  split at h
  · next kind =>
    split at h
    · cases h
    · exact .inl ⟨kind, by omega⟩
  · next p _ => cases p
  · next p _ => cases p
  · next p _ => cases p
  · next kind =>
    obtain ⟨f, hf, -⟩ := Option.map_eq_some_iff.mp h
    exact .inr (.inl ⟨kind, f, hf⟩)
  · next kind =>
    split at h
    · next len => exact .inr (.inr ⟨kind, len⟩)
    · cases h
  · cases h

/-- A frame that is taken in has passed checks 1 to 4 of R4, and its JZ frame is accepted. -/
theorem intake_some {ft : BitVec 16} {p : Port} {bs : List Byte} {a : Arrival} (h : intake ft p bs = some a) :
    field bs 12 2 = ft.toNat ∧ bs.length ≤ 9216 ∧ field bs 14 1 = 1
    ∧ (field bs 16 2 + 14 = bs.length ∨ (bs.length = 60 ∧ field bs 16 2 + 14 ≤ 60))
    ∧ readJz p (BitVec.ofNat 48 (field bs 6 6)) ((bs.drop 14).take (field bs 16 2)) = some a := by
  unfold intake at h
  split at h
  · cases h
  · next ok =>
    simp only [not_or, not_not, not_lt, Bool.not_eq_false] at ok
    obtain ⟨-, type, most, version, len⟩ := ok
    exact ⟨type, most, version, (lengthAgrees_iff _ _).mp len, h⟩

/-- A bearer frame accepted on the cell side, by the fields of the whole frame (check 6 of R4). -/
theorem intake_cell {ft : BitVec 16} {i : Fin 4} {bs : List Byte} {a : Arrival} (h : intake ft (.cell i) bs = some a) :
    field bs 15 1 ∈ [1, 2, 8, 11]
    ∧ (field bs 15 1 ∈ [1, 2] → field bs 18 4 ≠ 0 ∧ field bs 22 2 ≤ 9000 ∧ field bs 22 2 + 10 = field bs 16 2)
    ∧ (field bs 15 1 = 8 → field bs 16 2 = 6) := by
  obtain ⟨-, -, -, len, jz⟩ := intake_some h
  have size : ((bs.drop 14).take (field bs 16 2)).length = field bs 16 2 := by
    rw [List.length_take, List.length_drop]; omega
  have at_ {j n : Nat} (fits : j + n ≤ field bs 16 2) :
      field ((bs.drop 14).take (field bs 16 2)) j n = field bs (14 + j) n := field_within bs fits
  rcases readJz_cell jz with ⟨kind, long⟩ | ⟨kind, f, hf⟩ | ⟨kind, six⟩
  · rw [at_ (by omega)] at kind
    rw [kind]; simp
  · obtain ⟨long, -, -, -, payload, most, id⟩ := readBearer_some hf
    rw [size] at long payload most
    rw [at_ (by omega)] at kind payload id
    simp only [Nat.reduceAdd] at kind payload id
    refine ⟨?_, fun _ => ⟨id, by omega, by omega⟩, fun e => ?_⟩
    · rcases List.mem_pair.mp kind with e | e <;> simp [e]
    · rw [e] at kind; exact absurd kind (by decide)
  · rw [at_ (by omega)] at kind
    rw [kind]; simp [size ▸ six]

/-- A frame accepted on the shore side, by the fields of the whole frame (check 6 of R4). -/
theorem intake_shore {ft : BitVec 16} {i : Fin 4} {bs : List Byte} {a : Arrival} (h : intake ft (.shore i) bs = some a) :
    field bs 15 1 ∈ [3, 5, 11]
    ∧ (field bs 15 1 = 3 → field bs 28 4 ≠ 0 ∧ field bs 32 2 ≤ 9000 ∧ field bs 32 2 + 20 = field bs 16 2
        ∧ field bs 24 1 = 1 ∧ field bs 25 1 ∈ [1, 2] ∧ field bs 26 2 + 10 = field bs 16 2)
    ∧ (field bs 15 1 = 5 → field bs 16 2 = 20) := by
  obtain ⟨-, -, -, len, jz⟩ := intake_some h
  have size : ((bs.drop 14).take (field bs 16 2)).length = field bs 16 2 := by
    rw [List.length_take, List.length_drop]; omega
  have at_ {j n : Nat} (fits : j + n ≤ field bs 16 2) :
      field ((bs.drop 14).take (field bs 16 2)) j n = field bs (14 + j) n := field_within bs fits
  rcases readJz_shore jz with ⟨kind, long⟩ | ⟨kind, f, hf⟩ | ⟨kind, twenty⟩
  · rw [at_ (by omega)] at kind
    rw [kind]; simp
  · rw [List.drop_take, List.drop_drop] at hf
    obtain ⟨long, version, inner, jz, payload, most, id⟩ := readBearer_some hf
    have innerSize : ((bs.drop (14 + 10)).take (field bs 16 2 - 10)).length = field bs 16 2 - 10 := by
      rw [List.length_take, List.length_drop]; omega
    rw [innerSize] at long jz payload most
    have in_ {j n : Nat} (fits : j + n ≤ field bs 16 2 - 10) :
        field ((bs.drop (14 + 10)).take (field bs 16 2 - 10)) j n = field bs (14 + 10 + j) n := field_within bs fits
    rw [at_ (by omega)] at kind
    rw [in_ (by omega)] at version inner jz payload id
    simp only [Nat.reduceAdd] at kind version inner jz payload id
    refine ⟨by rw [kind]; decide, fun _ => ⟨id, by omega, by omega, version, inner, by omega⟩, fun e => ?_⟩
    rw [e] at kind; cases kind
  · rw [at_ (by omega)] at kind
    rw [kind]; simp [size ▸ twenty]

/-- Settles O10: a frame that is taken in has passed every check. -/
theorem badFrameIsDropped : Obligations.BadFrameIsDropped := by
  intro s p bs receives bad
  have refused : intake s.me.frameType p bs = none := by
    by_contra taken
    obtain ⟨a, h⟩ := Option.ne_none_iff_exists'.mp taken
    obtain ⟨type, most, version, len, -⟩ := intake_some h
    rcases bad with bad | bad | bad | bad | ⟨i, rfl, bad⟩ | ⟨i, rfl, bad⟩ | ⟨i, rfl, kind, bad⟩ | ⟨i, rfl, kind, bad⟩
      | ⟨i, rfl, kind, bad⟩ | ⟨i, rfl, kind, bad⟩
    · exact bad type
    · omega
    · exact bad version
    · exact bad len
    · exact bad (intake_cell h).1
    · exact bad (intake_shore h).1
    · obtain ⟨id, payload, jz⟩ := (intake_cell h).2.1 kind
      omega
    · obtain ⟨id, payload, jz, inner, innerKind, innerJz⟩ := (intake_shore h).2.1 kind
      rcases bad with bad | bad | bad | bad | bad | bad
      · exact id bad
      · omega
      · exact bad jz
      · exact bad inner
      · exact bad innerKind
      · exact bad innerJz
    · exact bad ((intake_shore h).2.2 kind)
    · exact bad ((intake_cell h).2.2 kind)
  have drops : takeIn p bs (s.got p) = drop .badFrame (arrivalDir p) (s.got p) := by
    have refused : intake (s.got p).me.frameType p bs = none := refused
    rw [takeIn, refused]
  have arrives : exec (.badFrame p bs) s = .next (arrive p (takeIn p bs) s) := rfl
  rw [arrives, arrive_of_receives s (takeIn p bs) receives, drops]

end Sys2Proof.Machine
end

section
/-! The items of a request, by identifier (R186): check 4 on them, and what is read from them. Neither depends on
their order, but for the order of items that share an identifier. -/

namespace Sys2Proof.Machine

/-! ### The items of one identifier -/

theorem itemValue_eq_head (id : Nat) (xs : List Item) :
    itemValue id xs = (itemsOf id xs).head?.map Item.value := by
  rw [itemsOf, List.head?_filter, itemValue]
  cases xs.find? fun i => i.id.toNat == id <;> rfl

theorem itemsOf_eq_nil (id : Nat) (xs : List Item) : itemsOf id xs = [] ↔ ∀ x ∈ xs, x.id.toNat ≠ id := by
  simp [itemsOf, List.filter_eq_nil_iff]

/-- Items of different identifiers: at most one of each. -/
theorem itemsOf_length_le_one {xs : List Item} {keep : Item → Bool} (nodup : ((xs.filter keep).map Item.id).Nodup)
    {id : Nat} (kept : ∀ x : Item, x.id.toNat = id → keep x = true) : (itemsOf id xs).length ≤ 1 := by
  have same : itemsOf id xs = itemsOf id (xs.filter keep) := by
    rw [itemsOf, itemsOf, List.filter_filter]
    refine List.filter_congr fun x _ => ?_
    by_cases h : x.id.toNat = id
    · simp [h, kept x h]
    · simp [h]
  have nodup' : ((itemsOf id (xs.filter keep)).map Item.id).Nodup := nodup.sublist (List.filter_sublist.map _)
  rw [same]
  match h : itemsOf id (xs.filter keep) with
  | [] => simp
  | [x] => simp
  | x :: y :: rest =>
    have member (z : Item) (hz : z ∈ itemsOf id (xs.filter keep)) : z.id.toNat = id := by
      simpa using (List.mem_filter.mp hz).2
    have equal : x.id = y.id := BitVec.eq_of_toNat_eq
      ((member x (by simp [h])).trans (member y (by simp [h])).symm)
    rw [h] at nodup'
    simp [equal] at nodup'

/-- Two lists hold the same items under each identifier, in the same order. -/
def SameItems (ys xs : List Item) : Prop := ∀ id, itemsOf id ys = itemsOf id xs

theorem itemsOf_perm {xs ys : List Item} (perm : ys.Perm xs) {id : Nat} (one : (itemsOf id xs).length ≤ 1) :
    itemsOf id ys = itemsOf id xs := by
  have p : (itemsOf id ys).Perm (itemsOf id xs) := perm.filter _
  match h : itemsOf id xs with
  | [] => rw [h] at p; exact p.eq_nil
  | [x] => rw [h] at p; exact List.perm_singleton.mp p
  | x :: y :: rest => rw [h] at one; simp at one

section
variable {xs ys : List Item} (same : SameItems ys xs)
include same

theorem SameItems.itemValue (id : Nat) : itemValue id ys = itemValue id xs := by
  rw [itemValue_eq_head, itemValue_eq_head, same]

theorem SameItems.itemNat (id : Nat) : itemNat id ys = itemNat id xs := by rw [Machine.itemNat, same.itemValue]; rfl
theorem SameItems.bits (w id : Nat) : bits w id ys = bits w id xs := by rw [Machine.bits, same.itemNat]; rfl
theorem SameItems.bits? (w id : Nat) : bits? w id ys = bits? w id xs := by
  rw [Machine.bits?, itemNat?, same.itemValue]; rfl
theorem SameItems.members (id : Nat) : members id ys = members id xs := by rw [Machine.members, same.itemValue]; rfl
theorem SameItems.nameArg : nameArg ys = nameArg xs := by simp only [Machine.nameArg, same.bits]

/-- The arguments of a command are read by identifier. -/
theorem SameItems.bodyOf (p : Port) (cmd : Command) : bodyOf p ys cmd = bodyOf p xs cmd := by
  cases cmd with
  | createContext => simp only [Machine.bodyOf, createArgs, same.bits, same.members]
  | modifyContext => simp only [Machine.bodyOf, modifyArgs, same.nameArg, same.bits?, same.itemValue]
  | positionReport => simp only [Machine.bodyOf, positionArgs, same.bits]
  | writeZone => simp only [Machine.bodyOf, zoneArgs, same.bits, same.members]
  | armWaypoint => simp only [Machine.bodyOf, waypointArgs, same.bits]
  | writeLink => simp only [Machine.bodyOf, linkArgs, same.bits]
  | writeRadioUnit => simp only [Machine.bodyOf, ruArgs, same.bits]
  | configure =>
    have dest (id : Nat) : destArg id ys = destArg id xs := by rw [destArg, same.itemValue]; rfl
    simp only [Machine.bodyOf, configureArgs, same.bits?, dest, same 5, same 16]
  | _ => simp only [Machine.bodyOf, same.nameArg, same.bits, same.members]

/-- Check 4 asks of each item alone, of the identifiers, and of what is left out. -/
theorem SameItems.argsOk (perm : ys.Perm xs) (cmd : Command) : argsOk cmd ys = argsOk cmd xs := by
  have forms : argForms ys cmd = argForms xs cmd := by
    cases cmd with
    | createContext => simp only [argForms, same.itemNat]
    | _ => rfl
  have meets (fs : List ArgForm) : itemsMeet fs ys = itemsMeet fs xs := by
    simp only [itemsMeet, perm.all_eq, perm.any_eq, (perm.map _).nodup_iff]
  have configures : configureItemsOk ys = configureItemsOk xs := by
    simp only [configureItemsOk, perm.all_eq, ((perm.filter _).map _).nodup_iff, same 5, same 16]
  cases cmd with
  | configure => exact configures
  | _ => exact (meets _).trans (congrArg (itemsMeet · xs) forms)

/-- A command code with the same items in another order is the same request. -/
theorem SameItems.exec_badCommand (perm : ys.Perm xs) (s : State) (rq : Request) (code : Byte) :
    exec (.badCommand rq code ys) s = exec (.badCommand rq code xs) s := by
  have asks : meRequest rq code ys = meRequest rq code xs := by
    funext t
    simp only [meRequest, same.argsOk perm, same.bodyOf]
  show Host.Outcome.next (arrive rq.port (admitRequest rq (meRequest rq code ys)) s) = _
  rw [asks]; rfl

end

/-! ### Check 4 (R173, R186) -/

theorem itemsMeet_iff (forms : List ArgForm) (xs : List Item) : itemsMeet forms xs = true ↔
    (∀ x ∈ xs, ∃ f ∈ forms, f.id = x.id.toNat ∧ f.sizeOk x = true) ∧ (xs.map Item.id).Nodup
    ∧ ∀ f ∈ forms, f.optional = true ∨ ∃ x ∈ xs, x.id.toNat = f.id := by
  simp [itemsMeet, and_assoc]

/-- The size a form asks of a value. -/
def ArgForm.takes (f : ArgForm) (v : List Byte) : Prop := if f.exact then v.length = f.size else v.length ≤ f.size

theorem ArgForm.sizeOk_iff (f : ArgForm) (x : Item) : f.sizeOk x = true ↔ f.takes x.value := by
  unfold ArgForm.sizeOk ArgForm.takes
  split <;> simp

/-- Arguments as their forms ask for them: each form with the value given for it, or none. -/
def spelled (fvs : List (ArgForm × Option (List Byte))) : List Item := fvs.flatMap fun fv => given fv.1.id fv.2

/-- The value of a form is of its size, or left out where it may be. -/
def Fits (fv : ArgForm × Option (List Byte)) : Prop :=
  match fv.2 with
  | none => fv.1.optional = true
  | some v => fv.1.takes v

theorem item_id {k : Nat} (small : k < 256) (v : List Byte) : (item k v).id.toNat = k := by
  show (BitVec.ofNat 8 k).toNat = k
  simp [Nat.mod_eq_of_lt small]

theorem mem_spelled {fvs : List (ArgForm × Option (List Byte))} {x : Item} :
    x ∈ spelled fvs ↔ ∃ f v, (f, some v) ∈ fvs ∧ x = item f.id v := by
  simp only [spelled, List.mem_flatMap, Prod.exists]
  constructor
  · rintro ⟨f, v, mem, hx⟩
    cases v with
    | none => cases hx
    | some v => exact ⟨f, v, mem, List.mem_singleton.mp hx⟩
  · rintro ⟨f, v, mem, rfl⟩
    exact ⟨f, some v, mem, List.mem_singleton.mpr rfl⟩

theorem spelled_nodup {fvs : List (ArgForm × Option (List Byte))} (small : ∀ fv ∈ fvs, fv.1.id < 256)
    (nodup : (fvs.map fun fv => fv.1.id).Nodup) : ((spelled fvs).map Item.id).Nodup := by
  induction fvs with
  | nil => exact List.nodup_nil
  | cons fv fvs ih =>
    obtain ⟨f, v⟩ := fv
    obtain ⟨fresh, nodup⟩ := List.nodup_cons.mp nodup
    have rest := ih (fun gv h => small gv (List.mem_cons_of_mem _ h)) nodup
    cases v with
    | none => exact rest
    | some v =>
      refine List.nodup_cons.mpr ⟨fun mem => fresh ?_, rest⟩
      obtain ⟨x, hx, id⟩ := List.mem_map.mp mem
      obtain ⟨g, w, hg, rfl⟩ := mem_spelled.mp hx
      have smallF := small (f, some v) List.mem_cons_self
      have smallG := small (g, some w) (List.mem_cons_of_mem _ hg)
      have same : g.id = f.id := by
        have := congrArg BitVec.toNat id
        rwa [item_id smallG, item_id smallF] at this
      exact List.mem_map.mpr ⟨_, hg, same⟩

/-- Arguments spelled as their forms ask for pass check 4. -/
theorem itemsMeet_spelled {fvs : List (ArgForm × Option (List Byte))} (small : ∀ fv ∈ fvs, fv.1.id < 256)
    (nodup : (fvs.map fun fv => fv.1.id).Nodup) (fits : ∀ fv ∈ fvs, Fits fv) :
    itemsMeet (fvs.map Prod.fst) (spelled fvs) = true := by
  refine (itemsMeet_iff _ _).mpr ⟨fun x hx => ?_, spelled_nodup small nodup, fun f hf => ?_⟩
  · obtain ⟨f, v, mem, rfl⟩ := mem_spelled.mp hx
    exact ⟨f, List.mem_map.mpr ⟨_, mem, rfl⟩, (item_id (small _ mem) v).symm, (f.sizeOk_iff _).mpr (fits _ mem)⟩
  · obtain ⟨⟨g, v⟩, mem, rfl⟩ := List.mem_map.mp hf
    cases v with
    | none => exact .inl (fits _ mem)
    | some v => exact .inr ⟨item g.id v, mem_spelled.mpr ⟨g, v, mem, rfl⟩, item_id (small _ mem) v⟩

/-- Values under consecutive identifiers, each in the form of its own size. -/
def fixedForms : (k : Nat) → List (List Byte) → List (ArgForm × Option (List Byte))
  | _, [] => []
  | k, v :: vs => (fixedArg k v.length, some v) :: fixedForms (k + 1) vs

theorem fixedForms_fst (k : Nat) (vs : List (List Byte)) :
    (fixedForms k vs).map Prod.fst = fixedArgs k (vs.map List.length) := by
  induction vs generalizing k with
  | nil => rfl
  | cons v vs ih => exact congrArg (fixedArg k v.length :: ·) (ih (k + 1))

theorem spelled_fixedForms (k : Nat) (vs : List (List Byte)) : spelled (fixedForms k vs) = itemsFrom k vs := by
  induction vs generalizing k with
  | nil => rfl
  | cons v vs ih => exact congrArg (item k v :: ·) (ih (k + 1))

theorem mem_fixedForms {k : Nat} {vs : List (List Byte)} {fv : ArgForm × Option (List Byte)}
    (h : fv ∈ fixedForms k vs) : k ≤ fv.1.id ∧ fv.1.id < k + vs.length ∧ Fits fv := by
  induction vs generalizing k with
  | nil => cases h
  | cons v vs ih =>
    rw [List.length_cons]
    rcases List.mem_cons.mp h with rfl | h
    · exact ⟨le_rfl, Nat.lt_add_of_pos_right (Nat.succ_pos _), rfl⟩
    · obtain ⟨first, last, fits⟩ := ih h
      exact ⟨by omega, by omega, fits⟩

theorem fixedForms_nodup (k : Nat) (vs : List (List Byte)) : ((fixedForms k vs).map fun fv => fv.1.id).Nodup := by
  induction vs generalizing k with
  | nil => exact List.nodup_nil
  | cons v vs ih =>
    refine List.nodup_cons.mpr ⟨fun mem => ?_, ih (k + 1)⟩
    obtain ⟨fv, h, id⟩ := List.mem_map.mp mem
    have first := (mem_fixedForms h).1
    rw [id] at first
    exact absurd first (Nat.not_succ_le_self k)

/-- Values of the sizes that fixed arguments have pass check 4. -/
theorem itemsMeet_fixedArgs (sizes : List Nat) (vs : List (List Byte)) (few : vs.length < 256)
    (fit : vs.map List.length = sizes) : itemsMeet (fixedArgs 1 sizes) (items vs) = true := by
  subst fit
  rw [← fixedForms_fst, items, ← spelled_fixedForms]
  refine itemsMeet_spelled (fun fv h => ?_) (fixedForms_nodup 1 vs) fun fv h => (mem_fixedForms h).2.2
  obtain ⟨-, last, -⟩ := mem_fixedForms h
  omega

end Sys2Proof.Machine
end

section
/-! A request as its items spell it (R186): its code is that of its command, its items pass check 4, and its
arguments are read back from them. -/

namespace Sys2Proof.Machine

/-! ### Command codes (R186) -/

theorem Command.mem_all (cmd : Command) : cmd ∈ Command.all := by cases cmd <;> decide

theorem commandOf_eq_none (code : Byte) : commandOf code = none ↔ ∀ cmd : Command, code.toNat ≠ cmd.code := by
  rw [commandOf, List.find?_eq_none]
  exact ⟨fun h cmd e => h cmd cmd.mem_all (beq_iff_eq.mpr e.symm), fun h cmd _ e => h cmd (beq_iff_eq.mp e).symm⟩

theorem commandOf_code (cmd : Command) : commandOf (BitVec.ofNat 8 cmd.code) = some cmd := by cases cmd <;> rfl

/-! ### Values read back (R186) -/

section
variable {vs : List (List Byte)} {id : Nat} {v : List Byte}

theorem itemValue_itemsFrom (k : Nat) (few : k + vs.length ≤ 256) (at_ : vs[id]? = some v) :
    itemValue (k + id) (itemsFrom k vs) = some v := by
  induction vs generalizing k id with
  | nil => cases at_
  | cons w vs ih =>
    rw [List.length_cons] at few
    rw [itemsFrom, itemValue, List.find?_cons, item_id (by omega)]
    cases id with
    | zero =>
      rw [List.getElem?_cons_zero] at at_
      cases at_
      simp [item]
    | succ id =>
      rw [List.getElem?_cons_succ] at at_
      have later := ih (k + 1) (by omega) at_
      rw [itemValue, show k + 1 + id = k + (id + 1) by omega] at later
      rw [show (k == k + (id + 1)) = false by simp]
      exact later

/-- The value under an identifier of consecutive items. -/
theorem itemValue_items (few : vs.length < 256) (at_ : vs[id]? = some v) :
    itemValue (id + 1) (items vs) = some v := by
  rw [Nat.add_comm]
  exact itemValue_itemsFrom 1 (by omega) at_

theorem bits_items (few : vs.length < 256) (w : Nat) (at_ : vs[id]? = some v) :
    bits w (id + 1) (items vs) = BitVec.ofNat w (ofBytes v) := by
  simp only [bits, itemNat, itemValue_items few at_]

theorem members_items (few : vs.length < 256) (at_ : vs[id]? = some v) : members (id + 1) (items vs) = v := by
  simp only [members, itemValue_items few at_, Option.getD_some]

end

theorem read_byte (b : Byte) : BitVec.ofNat 8 (ofBytes [b]) = b := by simp

theorem read_two (x : BitVec 16) : BitVec.ofNat 16 (ofBytes (beBytes 2 x.toNat)) = x := ofNat_ofBytes_beBytes 2 x
theorem read_four (x : BitVec 32) : BitVec.ofNat 32 (ofBytes (beBytes 4 x.toNat)) = x := ofNat_ofBytes_beBytes 4 x
theorem read_six (x : BitVec 48) : BitVec.ofNat 48 (ofBytes (beBytes 6 x.toNat)) = x := ofNat_ofBytes_beBytes 6 x
theorem read_eight (x : BitVec 64) : BitVec.ofNat 64 (ofBytes (beBytes 8 x.toNat)) = x := ofNat_ofBytes_beBytes 8 x

theorem bytes_eq_byte (b : Byte) : beBytes 1 b.toNat = [b] := by simp [beBytes]

/-! ### Arguments that may be left out -/

theorem itemsOf_append (id : Nat) (xs ys : List Item) : itemsOf id (xs ++ ys) = itemsOf id xs ++ itemsOf id ys :=
  List.filter_append ..

theorem itemsOf_given {k : Nat} (small : k < 256) (id : Nat) (v : Option (List Byte)) :
    itemsOf id (given k v) = if k = id then given k v else [] := by
  cases v with
  | none => simp [given, itemsOf]
  | some v => simp [given, itemsOf, List.filter_cons, item_id small]

theorem itemsOf_pairItems {k : Nat} (small : k < 256) (id : Nat) (ps : List PairArg) :
    itemsOf id (pairItems k ps) = if k = id then pairItems k ps else [] := by
  split
  · next h =>
    refine List.filter_eq_self.mpr fun x hx => ?_
    obtain ⟨p, -, hx⟩ := List.mem_flatMap.mp hx
    subst h
    rcases List.mem_pair.mp hx with rfl | rfl <;> simp [item_id small]
  · next h =>
    refine (itemsOf_eq_nil _ _).mpr fun x hx => ?_
    obtain ⟨p, -, hx⟩ := List.mem_flatMap.mp hx
    rcases List.mem_pair.mp hx with rfl | rfl <;> rw [item_id small] <;> exact h

theorem head_given (k : Nat) (v : Option (List Byte)) : (given k v).head?.map Item.value = v := by
  cases v <;> rfl

/-- Selectors and values are read back pair by pair (log entry 12). -/
theorem pairsOf_pairItems (k : Nat) (ps : List PairArg) : pairsOf (pairItems k ps) = ps := by
  induction ps with
  | nil => rfl
  | cons p ps ih =>
    show PairArg.mk _ _ :: pairsOf (pairItems k ps) = p :: ps
    rw [ih]; rfl

theorem read_option {n : Nat} (x : Option (BitVec (8 * n))) :
    x.map (BitVec.ofNat (8 * n) ∘ ofBytes ∘ fun b => beBytes n b.toNat) = x := by
  cases x with
  | none => rfl
  | some b => exact congrArg some (ofNat_ofBytes_beBytes n b)

theorem read_option_byte (x : Option Byte) : x.map (BitVec.ofNat 8 ∘ ofBytes ∘ fun b => [b]) = x := by
  cases x with
  | none => rfl
  | some b => exact congrArg some (read_byte b)

theorem read_option_two (x : Option (BitVec 16)) :
    x.map (BitVec.ofNat 16 ∘ ofBytes ∘ fun b => beBytes 2 b.toNat) = x := read_option (n := 2) x
theorem read_option_four (x : Option (BitVec 32)) :
    x.map (BitVec.ofNat 32 ∘ ofBytes ∘ fun b => beBytes 4 b.toNat) = x := read_option (n := 4) x
theorem read_option_eight (x : Option (BitVec 64)) :
    x.map (BitVec.ofNat 64 ∘ ofBytes ∘ fun b => beBytes 8 b.toNat) = x := read_option (n := 8) x

/-- A destination is read back, and so is the absence of one (R186). -/
theorem destArg_of_value {id : Nat} {xs : List Item} {x : Option (Option DestArg)}
    (h : itemValue id xs = x.map destValue) : destArg id xs = x := by
  rw [destArg, h]
  cases x with
  | none => rfl
  | some d => cases d with
    | none => rfl
    | some d => exact congrArg (fun a : Addr => some (some (DestArg.mk d.port a))) (read_six d.addr)

theorem itemsOf_nameValues {id : Nat} (other : 2 < id) (n : CtxName) : itemsOf id (items (nameValues n)) = [] := by
  refine (itemsOf_eq_nil _ _).mpr fun x hx => ?_
  rcases List.mem_pair.mp hx with rfl | rfl <;> rw [item_id (by decide)] <;> omega

/-! ### The arguments of each command -/

/-- The items of a Modify Context. -/
def modifyItems (n : CtxName) (a : ModifyArgs) : List Item :=
  items (nameValues n)
    ++ given 3 (a.cls.map fun b => [b]) ++ given 4 (a.plan.map fun b => [b])
    ++ given 5 (a.homeRealm.map fun b => [b]) ++ given 6 a.roamSet
    ++ given 7 (a.lowThreshold.map fun x => beBytes 8 x.toNat) ++ given 8 (a.limitMode.map fun b => [b])

theorem nameArg_modifyItems (n : CtxName) (a : ModifyArgs) : nameArg (modifyItems n a) = n := by
  have first : itemValue 1 (modifyItems n a) = some (beBytes 2 n.index.toNat) := by
    simp [modifyItems, itemValue, items, itemsFrom, nameValues, item]
  have second : itemValue 2 (modifyItems n a) = some (beBytes 2 n.incarnation.toNat) := by
    simp [modifyItems, itemValue, items, itemsFrom, nameValues, item]
  simp only [nameArg, bits, itemNat, first, second, read_two]

theorem modifyArgs_modifyItems (n : CtxName) (a : ModifyArgs) : modifyArgs (modifyItems n a) = a := by
  simp [modifyArgs, modifyItems, bits?, itemNat?, itemValue_eq_head, itemsOf_append, itemsOf_given, itemsOf_nameValues,
    head_given, read_option_byte, read_option_eight]

/-- The items of a Configure. -/
def configureItems (a : ConfigureArgs) : List Item :=
  given 1 (a.epochLength.map fun x => beBytes 4 x.toNat) ++ given 2 (a.frameType.map fun x => beBytes 2 x.toNat)
  ++ given 3 (a.noticeDest.map destValue) ++ given 4 (a.collector.map destValue)
  ++ pairItems 5 a.access ++ given 6 (a.staleTimeout.map fun x => beBytes 4 x.toNat)
  ++ given 7 (a.lostTimeout.map fun x => beBytes 4 x.toNat)
  ++ given 8 (a.ruTimeout.map fun x => beBytes 4 x.toNat)
  ++ given 9 (a.heartbeatInterval.map fun x => beBytes 4 x.toNat)
  ++ given 10 (a.graceTime.map fun x => beBytes 4 x.toNat) ++ given 11 (a.holdAge.map fun x => beBytes 4 x.toNat)
  ++ given 12 (a.maxStep.map fun x => beBytes 2 x.toNat) ++ given 13 (a.confirmCount.map fun b => [b])
  ++ given 14 (a.limitedFloor.map fun b => [b]) ++ given 15 (a.noticeFloor.map fun b => [b])
  ++ pairItems 16 a.eventLevels

theorem configureArgs_configureItems (a : ConfigureArgs) : configureArgs (configureItems a) = a := by
  have notice : destArg 3 (configureItems a) = a.noticeDest := destArg_of_value (by
    simp [configureItems, itemValue_eq_head, itemsOf_append, itemsOf_given, itemsOf_pairItems, head_given])
  have collector : destArg 4 (configureItems a) = a.collector := destArg_of_value (by
    simp [configureItems, itemValue_eq_head, itemsOf_append, itemsOf_given, itemsOf_pairItems, head_given])
  simp only [configureArgs, notice, collector]
  simp [configureItems, bits?, itemNat?, itemValue_eq_head, itemsOf_append, itemsOf_given, itemsOf_pairItems,
    head_given, read_option_byte, read_option_two, read_option_four, pairsOf_pairItems]

/-- The four rates of a descriptor are read back from their eight bytes. -/
theorem ratesOf_rates (r : Vector (BitVec 16) 4) : ratesOf (r.toList.flatMap fun r => beBytes 2 r.toNat) = r := by
  have list : r.toList = [r[0], r[1], r[2], r[3]] := by
    refine List.ext_getElem (by simp) fun i h _ => ?_
    match i, h with
    | 0, _ => simp
    | 1, _ => simp
    | 2, _ => simp
    | 3, _ => simp
  refine Vector.ext fun i hi => ?_
  rw [list, ratesOf, Vector.getElem_ofFn]
  match i, hi with
  | 0, _ => exact read_two r[0]
  | 1, _ => exact read_two r[1]
  | 2, _ => exact read_two r[2]
  | 3, _ => exact read_two r[3]

theorem createArgs_items (a : CreateArgs) : createArgs (items
    [beBytes 4 a.bearerId.toNat, [a.cls], [a.plan], [a.homeRealm], a.roamSet, [a.account], [a.servingRu],
     beBytes 4 a.allowance.toNat, beBytes 8 a.balance.toNat, beBytes 8 a.lowThreshold.toNat, [a.limitMode]]) = a := by
  simp [createArgs, bits_items, members_items, read_four, read_eight]

theorem positionArgs_items (a : PositionArgs) : positionArgs (items
    [beBytes 4 a.a.toNat, beBytes 2 a.x.toNat, [a.quality], beBytes 8 a.fixTime.toNat]) = a := by
  simp [positionArgs, bits_items, read_two, read_four, read_eight]

theorem zoneArgs_items (a : ZoneArgs) : zoneArgs (items
    [[a.index], [a.present], beBytes 4 a.start.toNat, beBytes 4 a.length.toNat, beBytes 2 a.crossLimit.toNat,
     [a.kind], [a.realm], [a.permit], [a.entryKind], [a.admission],
     a.rates.toList.flatMap fun r => beBytes 2 r.toNat, a.linkMask]) = a := by
  simp [zoneArgs, bits_items, members_items, read_two, read_four, ratesOf_rates]

theorem waypointArgs_items (a : WaypointArgs) :
    waypointArgs (items [[a.comparator], beBytes 4 a.value.toNat, [a.direction], [a.action]]) = a := by
  simp [waypointArgs, bits_items, read_four]

theorem linkArgs_items (a : LinkArgs) : linkArgs (items
    [[a.index], [a.enabled], [a.shorePort], [a.kind], beBytes 2 a.anchorId.toNat, beBytes 6 a.anchorAddr.toNat,
     beBytes 2 a.multiplier.toNat, [a.upFloor], [a.impairedFloor], beBytes 4 a.probeInterval.toNat,
     [a.upCount], [a.downCount], [a.impairLoss], [a.recoverLoss], beBytes 4 a.rttLimit.toNat,
     beBytes 4 a.rttRecover.toNat, beBytes 4 a.startSeq.toNat]) = a := by
  simp [linkArgs, bits_items, read_two, read_four, read_six]

theorem ruArgs_items (a : RuArgs) :
    ruArgs (items [[a.index], [a.configured], [a.cellPort], beBytes 6 a.addr.toNat]) = a := by
  simp [ruArgs, bits_items, read_six]

theorem nameArg_items (n : CtxName) (vs : List (List Byte)) (few : vs.length < 254) :
    nameArg (items (nameValues n ++ vs)) = n := by
  have size : (nameValues n ++ vs).length < 256 := by simp [nameValues]; omega
  rw [nameArg, bits_items size 16 (id := 0) rfl, bits_items size 16 (id := 1) rfl, read_two, read_two]

theorem byte_items (b : Byte) : bits 8 1 (items [[b]]) = b := by simp [bits_items]

/-- A command that reads its arguments as `body` takes them. -/
theorem ask_of_reads {rq : Request} {cmd : Command} {xs : List Item} {body : State → Reply × State}
    (reads : bodyOf rq.port xs cmd = body) (s : State) :
    (Host.Outcome.next (ask rq cmd body s) : Host.Outcome State Fault Refusal)
      = .next (ask rq cmd (bodyOf rq.port xs cmd) s) := by rw [reads]

/-- A request is the command of its code, with its items read (R173, R186). -/
theorem exec_of_spelling {i : Instr} {rq : Request} {code : Byte} {xs : List Item}
    (h : spelling i = some (rq, code, xs)) :
    ∃ cmd, requestOf i = some (rq, cmd) ∧ commandOf code = some cmd
      ∧ ∀ s, exec i s = .next (ask rq cmd (bodyOf rq.port xs cmd) s) := by
  cases i with
  | readStatus | readEvents | readCounters | closePeriod | reloadZone | cancelStage | openAttach =>
    cases h; exact ⟨_, rfl, rfl, ask_of_reads rfl⟩
  | readContext _ i =>
    cases h
    exact ⟨_, rfl, rfl, ask_of_reads (congrArg readContext (by simp [bits_items, read_two]))⟩
  | findContext =>
    cases h
    exact ⟨_, rfl, rfl, ask_of_reads (congrArg findContext (by simp [bits_items, read_four]))⟩
  | readZone => cases h; exact ⟨_, rfl, rfl, ask_of_reads (congrArg readZone (byte_items _))⟩
  | readLink => cases h; exact ⟨_, rfl, rfl, ask_of_reads (congrArg readLink (byte_items _))⟩
  | readRadioUnit => cases h; exact ⟨_, rfl, rfl, ask_of_reads (congrArg readRadioUnit (byte_items _))⟩
  | createContext _ a => cases h; exact ⟨_, rfl, rfl, ask_of_reads (congrArg createContext (createArgs_items a))⟩
  | modifyContext _ n a =>
    cases h
    exact ⟨_, rfl, rfl, ask_of_reads
      (congrArg₂ modifyContext (nameArg_modifyItems n a) (modifyArgs_modifyItems n a))⟩
  | suspendContext _ n =>
    cases h
    exact ⟨_, rfl, rfl, ask_of_reads (congrArg suspendContext (nameArg_items n [] (by decide)))⟩
  | resumeContext _ n =>
    cases h
    exact ⟨_, rfl, rfl, ask_of_reads (congrArg resumeContext (nameArg_items n [] (by decide)))⟩
  | topUp _ n money allowance =>
    cases h
    refine ⟨_, rfl, rfl, ask_of_reads ?_⟩
    have name := nameArg_items n [beBytes 8 money.toNat, beBytes 4 allowance.toNat] (by simp)
    simp only [bodyOf, name]
    simp [nameValues, bits_items, read_four, read_eight]
  | releaseContext _ n =>
    cases h
    exact ⟨_, rfl, rfl, ask_of_reads (congrArg releaseContext (nameArg_items n [] (by decide)))⟩
  | positionReport _ a => cases h; exact ⟨_, rfl, rfl, ask_of_reads (congrArg positionReport (positionArgs_items a))⟩
  | writeZone _ a => cases h; exact ⟨_, rfl, rfl, ask_of_reads (congrArg writeZone (zoneArgs_items a))⟩
  | armWaypoint _ a => cases h; exact ⟨_, rfl, rfl, ask_of_reads (congrArg armWaypoint (waypointArgs_items a))⟩
  | disarmWaypoint => cases h; exact ⟨_, rfl, rfl, ask_of_reads (congrArg disarmWaypoint (byte_items _))⟩
  | writeLink _ a => cases h; exact ⟨_, rfl, rfl, ask_of_reads (congrArg writeLink (linkArgs_items a))⟩
  | stageLink =>
    cases h
    exact ⟨_, rfl, rfl, ask_of_reads (congrArg₂ stageLink (by simp [bits_items]) (by simp [bits_items]))⟩
  | setFailoverOrder =>
    cases h
    exact ⟨_, rfl, rfl, ask_of_reads (congrArg setFailoverOrder (by simp [members_items]))⟩
  | writeRadioUnit _ a => cases h; exact ⟨_, rfl, rfl, ask_of_reads (congrArg writeRadioUnit (ruArgs_items a))⟩
  | setFloor => cases h; exact ⟨_, rfl, rfl, ask_of_reads (congrArg setFloor (byte_items _))⟩
  | configure _ a => cases h; exact ⟨_, rfl, rfl, ask_of_reads (congrArg configure (configureArgs_configureItems a))⟩
  | clearEvents =>
    cases h
    exact ⟨_, rfl, rfl, ask_of_reads (congrArg clearEvents (by simp [members_items]))⟩
  | resetWarm rq => cases h; exact ⟨_, rfl, rfl, ask_of_reads (congrArg (reset rq.port) (byte_items 1))⟩
  | resetCold rq => cases h; exact ⟨_, rfl, rfl, ask_of_reads (congrArg (reset rq.port) (byte_items 0))⟩
  | _ => cases h

end Sys2Proof.Machine
end

section
/-! Check 4 on the items of a request (R173, R186): those its sender spells pass it. -/

namespace Sys2Proof.Machine

/-- The forms of a command's arguments, by whether the account is POSTPAID. -/
def formsOf (postpaid : Bool) : Command → List ArgForm
  | .createContext => createForms postpaid
  | cmd => argForms [] cmd

theorem argForms_eq (xs : List Item) (cmd : Command) : argForms xs cmd = formsOf (itemNat 6 xs == 1) cmd := by
  cases cmd <;> rfl

/-- The identifiers of a command's arguments are those from 1 to their number, each of one form; a form that
asks for a size exactly is of no set or list (R186). -/
theorem formsOf_spec (postpaid : Bool) (cmd : Command) (single : cmd ≠ .configure) :
    ((formsOf postpaid cmd).map ArgForm.id).Nodup
    ∧ ∀ f ∈ formsOf postpaid cmd, f.id ≠ 0 ∧ f.id ≤ argCount cmd
      ∧ setLimit cmd f.id = if f.exact then none else some f.size := by
  cases postpaid <;> cases cmd <;> first | exact absurd rfl single | decide

theorem argCount_le (cmd : Command) : argCount cmd ≤ 17 := by cases cmd <;> decide

theorem fits_two (id x : Nat) : Fits (fixedArg id 2, some (beBytes 2 x)) := rfl

theorem fits_option_byte (id : Nat) (x : Option Byte) : Fits (optArg id 1, x.map fun b => [b]) := by
  cases x <;> rfl

theorem fits_option_eight (id : Nat) (x : Option (BitVec 64)) : Fits (optArg id 8, x.map fun b => beBytes 8 b.toNat) := by
  cases x <;> rfl

/-- The items of a request but Configure are its arguments, spelled as their forms ask for (R186). -/
theorem spelling_spelled {i : Instr} {rq : Request} {cmd : Command} {code : Byte} {xs : List Item} (wf : i.wf = true)
    (request : requestOf i = some (rq, cmd)) (h : spelling i = some (rq, code, xs)) (single : cmd ≠ .configure) :
    ∃ fvs, xs = spelled fvs ∧ argForms xs cmd = fvs.map Prod.fst ∧ ∀ fv ∈ fvs, Fits fv := by
  have fixed {sizes : List Nat} (vs : List (List Byte)) (fit : vs.map List.length = sizes) (spells : xs = items vs)
      (forms : argForms xs cmd = fixedArgs 1 sizes) :
      ∃ fvs, xs = spelled fvs ∧ argForms xs cmd = fvs.map Prod.fst ∧ ∀ fv ∈ fvs, Fits fv :=
    ⟨fixedForms 1 vs, by rw [spells, spelled_fixedForms]; rfl, by rw [forms, fixedForms_fst, fit],
      fun fv h => (mem_fixedForms h).2.2⟩
  cases i with
  | createContext rq a =>
    cases request; cases h
    have size : a.roamSet.length ≤ 15 := by simpa [Instr.wf, CreateArgs.wf] using wf
    refine ⟨[(fixedArg 1 4, some _), (fixedArg 2 1, some _), (fixedArg 3 1, some _), (fixedArg 4 1, some _),
      (setArg 5 15, some _), (fixedArg 6 1, some _), (fixedArg 7 1, some _), (fixedArg 8 4, some _),
      (⟨9, true, 8, _⟩, some _), (⟨10, true, 8, _⟩, some _), (⟨11, true, 1, _⟩, some _)], rfl, rfl, ?_⟩
    simp [Fits, ArgForm.takes, fixedArg, setArg, size]
  | modifyContext rq n a =>
    cases request; cases h
    refine ⟨[(fixedArg 1 2, some (beBytes 2 n.index.toNat)), (fixedArg 2 2, some (beBytes 2 n.incarnation.toNat)),
      (optArg 3 1, a.cls.map fun b => [b]), (optArg 4 1, a.plan.map fun b => [b]),
      (optArg 5 1, a.homeRealm.map fun b => [b]), (optSetArg 6 15, a.roamSet),
      (optArg 7 8, a.lowThreshold.map fun x => beBytes 8 x.toNat), (optArg 8 1, a.limitMode.map fun b => [b])],
      by simp only [spelled, List.flatMap_cons, List.flatMap_nil, List.append_assoc, List.append_nil]; rfl, rfl, ?_⟩
    have roam : Fits (optSetArg 6 15, a.roamSet) := by
      cases roam : a.roamSet with
      | none => rfl
      | some r => simpa [Instr.wf, ModifyArgs.wf, roam, Fits, ArgForm.takes, optSetArg] using wf
    simp [fits_two, fits_option_byte, fits_option_eight, roam]
  | writeZone rq a =>
    cases request; cases h
    have size : a.linkMask.length ≤ 8 := by simpa [Instr.wf, ZoneArgs.wf] using wf
    have rates : (a.rates.toList.flatMap fun r => beBytes 2 r.toNat).length = 8 := by simp [List.length_flatMap]
    refine ⟨[(fixedArg 1 1, some _), (fixedArg 2 1, some _), (fixedArg 3 4, some _), (fixedArg 4 4, some _),
      (fixedArg 5 2, some _), (fixedArg 6 1, some _), (fixedArg 7 1, some _), (fixedArg 8 1, some _),
      (fixedArg 9 1, some _), (fixedArg 10 1, some _), (fixedArg 11 8, some _), (setArg 12 8, some _)], rfl, rfl, ?_⟩
    simp [Fits, ArgForm.takes, fixedArg, setArg, rates, size]
  | setFailoverOrder rq order =>
    cases request; cases h
    have size : order.length ≤ 8 := by simpa [Instr.wf] using wf
    exact ⟨[(setArg 1 8, some order)], rfl, rfl, by simp [Fits, ArgForm.takes, setArg, size]⟩
  | clearEvents rq kinds =>
    cases request; cases h
    have size : kinds.length ≤ 16 := by simpa [Instr.wf] using wf
    exact ⟨[(setArg 1 16, some kinds)], rfl, rfl, by simp [Fits, ArgForm.takes, setArg, size]⟩
  | configure => cases request; exact absurd rfl single
  | readStatus | readEvents | readCounters | closePeriod | reloadZone | cancelStage | openAttach =>
    cases request; cases h; exact ⟨[], rfl, rfl, by simp⟩
  | readContext | findContext | readZone | readLink | readRadioUnit | disarmWaypoint | setFloor | resetWarm | resetCold
    | suspendContext | resumeContext | releaseContext | topUp | positionReport | armWaypoint | writeLink | stageLink
    | writeRadioUnit =>
    cases request; cases h; exact fixed _ rfl rfl rfl
  | _ => cases request

/-! ### Configure -/

theorem all_given {α : Type} (k : Nat) (x : Option α) (f : α → List Byte)
    (ok : ∀ a, configureSizeOk (item k (f a)) = true) : (given k (x.map f)).all configureSizeOk = true := by
  cases x with
  | none => rfl
  | some a => simpa [given] using ok a

theorem all_destination (k : Nat) (known : k = 3 ∨ k = 4) (x : Option (Option DestArg)) :
    (given k (x.map destValue)).all configureSizeOk = true :=
  all_given k x destValue fun d => by rcases known with rfl | rfl <;> cases d <;> rfl

theorem all_pairItems (k : Nat) (known : k = 5 ∨ k = 16) (ps : List PairArg) :
    (pairItems k ps).all configureSizeOk = true := by
  refine List.all_eq_true.mpr fun x hx => ?_
  obtain ⟨p, -, hx⟩ := List.mem_flatMap.mp hx
  rcases known with rfl | rfl <;> rcases List.mem_pair.mp hx with rfl | rfl <;> rfl

theorem pairItems_length (k : Nat) (ps : List PairArg) : (pairItems k ps).length % 2 = 0 := by
  simp [pairItems, List.length_flatMap]

/-- The items of a Configure but for its pairs. -/
theorem configureItems_single (a : ConfigureArgs) :
    (configureItems a).filter (fun i => !isPairId i.id.toNat) = spelled
      [(optArg 1 4, a.epochLength.map fun x => beBytes 4 x.toNat), (optArg 2 2, a.frameType.map fun x => beBytes 2 x.toNat),
       (optSetArg 3 7, a.noticeDest.map destValue), (optSetArg 4 7, a.collector.map destValue),
       (optArg 6 4, a.staleTimeout.map fun x => beBytes 4 x.toNat), (optArg 7 4, a.lostTimeout.map fun x => beBytes 4 x.toNat),
       (optArg 8 4, a.ruTimeout.map fun x => beBytes 4 x.toNat),
       (optArg 9 4, a.heartbeatInterval.map fun x => beBytes 4 x.toNat),
       (optArg 10 4, a.graceTime.map fun x => beBytes 4 x.toNat), (optArg 11 4, a.holdAge.map fun x => beBytes 4 x.toNat),
       (optArg 12 2, a.maxStep.map fun x => beBytes 2 x.toNat), (optArg 13 1, a.confirmCount.map fun b => [b]),
       (optArg 14 1, a.limitedFloor.map fun b => [b]), (optArg 15 1, a.noticeFloor.map fun b => [b])] := by
  have single (k : Nat) (small : k < 256) (other : isPairId k = false) (v : Option (List Byte)) :
      (given k v).filter (fun i => !isPairId i.id.toNat) = given k v := by
    cases v with
    | none => rfl
    | some v => simp [given, item_id small, other]
  have pairs (k : Nat) (small : k < 256) (pair : isPairId k = true) (ps : List PairArg) :
      (pairItems k ps).filter (fun i => !isPairId i.id.toNat) = [] := by
    refine List.filter_eq_nil_iff.mpr fun x hx => ?_
    obtain ⟨p, -, hx⟩ := List.mem_flatMap.mp hx
    rcases List.mem_pair.mp hx with rfl | rfl <;> simp [item_id small, pair]
  rw [configureItems]
  simp only [List.filter_append]
  rw [single 1 (by decide) rfl, single 2 (by decide) rfl, single 3 (by decide) rfl, single 4 (by decide) rfl,
    pairs 5 (by decide) rfl, single 6 (by decide) rfl, single 7 (by decide) rfl, single 8 (by decide) rfl,
    single 9 (by decide) rfl, single 10 (by decide) rfl, single 11 (by decide) rfl, single 12 (by decide) rfl,
    single 13 (by decide) rfl, single 14 (by decide) rfl, single 15 (by decide) rfl, pairs 16 (by decide) rfl]
  simp only [spelled, List.flatMap_cons, List.flatMap_nil, List.append_assoc, List.append_nil]
  rfl

/-- The items of a Configure pass its check 4 (R175, R186). -/
theorem configureItemsOk_configureItems (a : ConfigureArgs) : configureItemsOk (configureItems a) = true := by
  have sizes : (configureItems a).all configureSizeOk = true := by
    simp only [configureItems, List.all_append, all_destination 3 (.inl rfl), all_destination 4 (.inr rfl),
      all_pairItems 5 (.inl rfl), all_pairItems 16 (.inr rfl), Bool.and_true, Bool.and_eq_true]
    and_intros <;> exact all_given _ _ _ fun _ => rfl
  have ids : (((configureItems a).filter fun i => !isPairId i.id.toNat).map Item.id).Nodup := by
    rw [configureItems_single]
    exact spelled_nodup (by simp [optArg, optSetArg]) (by simp [optArg, optSetArg])
  have access : itemsOf 5 (configureItems a) = pairItems 5 a.access := by
    simp [configureItems, itemsOf_append, itemsOf_given, itemsOf_pairItems]
  have levels : itemsOf 16 (configureItems a) = pairItems 16 a.eventLevels := by
    simp [configureItems, itemsOf_append, itemsOf_given, itemsOf_pairItems]
  simp [configureItemsOk, sizes, ids, access, levels, pairItems_length]

/-- The items of a request pass check 4 (R186). -/
theorem argsOk_of_spelling {i : Instr} {rq : Request} {cmd : Command} {code : Byte} {xs : List Item} (wf : i.wf = true)
    (request : requestOf i = some (rq, cmd)) (h : spelling i = some (rq, code, xs)) : argsOk cmd xs = true := by
  by_cases single : cmd = .configure
  · subst single
    cases i with
    | configure rq a => cases h; exact configureItemsOk_configureItems a
    | _ => cases request
  · obtain ⟨fvs, spells, forms, fits⟩ := spelling_spelled wf request h single
    have meets : argsOk cmd xs = itemsMeet (argForms xs cmd) xs := by
      cases cmd <;> first | rfl | exact absurd rfl single
    obtain ⟨nodup, known⟩ := formsOf_spec (itemNat 6 xs == 1) cmd single
    rw [← argForms_eq, forms] at nodup known
    rw [meets, forms]
    conv_lhs => rw [spells]
    refine itemsMeet_spelled (fun fv mem => ?_) (by rwa [List.map_map] at nodup) fits
    have most := (known fv.1 (List.mem_map.mpr ⟨fv, mem, rfl⟩)).2.1
    have := argCount_le cmd
    omega

end Sys2Proof.Machine
end

section
/-! Frames read back from their bytes (R4, R185, R186). -/

namespace Sys2Proof.Machine

/-! ### Fields of bytes laid one after another (R185) -/

theorem field_left (a b : List Byte) {i n : Nat} (h : i + n ≤ a.length) : field (a ++ b) i n = field a i n := by
  unfold field
  rw [List.drop_append_of_le_length (by omega), List.take_append_of_le_length (by rw [List.length_drop]; omega)]

theorem field_right (a b : List Byte) (i n : Nat) : field (a ++ b) (a.length + i) n = field b i n := by
  rw [field_skip a b _ n (Nat.le_add_right _ i), Nat.add_sub_cancel_left]

/-- A number is read back from the bytes that hold it, before any others. -/
theorem ofNat_field (n : Nat) (x : BitVec (8 * n)) (b : List Byte) :
    BitVec.ofNat (8 * n) (field (beBytes n x.toNat ++ b) 0 n) = x := by
  rw [field_first _ _ _ (by simp)]
  exact ofNat_ofBytes_beBytes n x

theorem jzFrame_length (kind : Nat) (body : List Byte) : (jzFrame kind body).length = 4 + body.length := by
  simp [jzFrame, jzHeader, byte]; omega

theorem jzFrame_body (kind : Nat) (body : List Byte) : (jzFrame kind body).drop 4 = body := by
  simp [jzFrame, jzHeader, byte, beBytes]

/-- The fields of a JZ header, and those of the body after it. -/
theorem field_jzFrame {kind : Nat} {body : List Byte} (small : kind < 256) (short : body.length < 65532) :
    field (jzFrame kind body) 0 1 = 1 ∧ field (jzFrame kind body) 1 1 = kind
    ∧ field (jzFrame kind body) 2 2 = (jzFrame kind body).length
    ∧ ∀ i n, field (jzFrame kind body) (4 + i) n = field body i n := by
  refine ⟨rfl, ?_, ?_, fun i n => ?_⟩
  · simp [jzFrame, jzHeader, byte, beBytes, field]; omega
  · rw [jzFrame_length]
    have : field (jzFrame kind body) 2 2 = field (beBytes 2 (4 + body.length) ++ body) 0 2 := rfl
    rw [this, field_first_beBytes]
    omega
  · exact field_right (jzHeader kind (4 + body.length)) body i n

theorem bearerJz_length (f : BearerFrame) : (bearerJz f).length = 10 + f.payload.length := by
  rw [bearerJz, jzFrame_length]; simp; omega

/-- A well-formed bearer frame is read back from its JZ frame (check 6 of R4). -/
theorem readBearer_bearerJz {f : BearerFrame} (wf : f.wf = true) : readBearer (bearerJz f) = some f := by
  have len := bearerJz_length f
  simp only [BearerFrame.wf, Bool.and_eq_true, bne_iff_ne, decide_eq_true_eq] at wf
  obtain ⟨nonzero, short⟩ := wf
  have code : bearerKindCode f.kind < 256 := by cases f.kind <;> decide
  obtain ⟨version, kind, jz, body⟩ := field_jzFrame (kind := bearerKindCode f.kind) (body := beBytes 4 f.bearerId.toNat
    ++ beBytes 2 f.payload.length ++ f.payload) code (by simp; omega)
  rw [← bearerJz] at version kind jz body
  have id : field (bearerJz f) 4 4 = f.bearerId.toNat := by
    rw [body 0 4, List.append_assoc, field_first_beBytes]
    exact Nat.mod_eq_of_lt f.bearerId.isLt
  have size : field (bearerJz f) 8 2 = f.payload.length := by
    rw [body 4 2, List.append_assoc, field_skip_beBytes _ _ _ _ _ le_rfl, Nat.sub_self, field_first_beBytes]
    omega
  have rest : (bearerJz f).drop 10 = f.payload := by
    rw [show 10 = 4 + 6 from rfl, ← List.drop_drop, bearerJz, jzFrame_body]
    exact List.drop_left' (by simp)
  have nonzero : f.bearerId.toNat ≠ 0 := fun e => nonzero (BitVec.eq_of_toNat_eq e)
  unfold readBearer
  rw [kind, version, jz, size, id, rest, len, BitVec.ofNat_toNat, BitVec.setWidth_eq]
  have passes : ¬ (10 + f.payload.length < 10 ∨ 1 ≠ 1 ∨ 10 + f.payload.length ≠ 10 + f.payload.length
      ∨ f.payload.length ≠ 10 + f.payload.length - 10 ∨ 10 + f.payload.length - 10 > 9000
      ∨ f.bearerId.toNat = 0) := by omega
  obtain ⟨k, bearerId, payload⟩ := f
  cases k <;> exact if_neg passes

/-! ### Whole frames (R185) -/

/-- The 14 bytes before the JZ frame: destination, source and frame type. -/
def ethernetHeader (dst src : Addr) (ft : BitVec 16) : List Byte :=
  beBytes 6 dst.toNat ++ beBytes 6 src.toNat ++ beBytes 2 ft.toNat

theorem frame_eq (a : Arrival) (ft : BitVec 16) (dst : Addr) : a.frame ft dst = ethernetHeader dst a.src ft
    ++ (a.jz ++ List.replicate (60 - (14 + a.jz.length)) 0) := by
  have len : (beBytes 6 dst.toNat ++ beBytes 6 a.src.toNat ++ beBytes 2 ft.toNat ++ a.jz).length = 14 + a.jz.length := by
    simp; omega
  rw [Arrival.frame, padFrame, len, List.append_assoc]; rfl

/-- A frame whose JZ frame is accepted is taken in as what it is (R4). -/
theorem intake_frame {ft : BitVec 16} {p : Port} {a : Arrival} (dst : Addr) (long : 4 ≤ a.jz.length)
    (short : a.jz.length ≤ 9202) (version : field a.jz 0 1 = 1) (len : field a.jz 2 2 = a.jz.length)
    (reads : readJz p a.src a.jz = some a) : intake ft p (a.frame ft dst) = some a := by
  have header : (ethernetHeader dst a.src ft).length = 14 := by simp [ethernetHeader]
  have inJz {i n : Nat} (fits : i + n ≤ a.jz.length) : field (a.frame ft dst) (14 + i) n = field a.jz i n := by
    rw [frame_eq, ← header, field_right, field_left _ _ fits]
  have type : field (a.frame ft dst) 12 2 = ft.toNat := by
    rw [frame_eq, ethernetHeader, List.append_assoc, List.append_assoc]
    rw [field_skip_beBytes _ _ _ _ _ (by decide), field_skip_beBytes _ _ _ _ _ (by decide), field_first_beBytes]
    exact Nat.mod_eq_of_lt ft.isLt
  have source : BitVec.ofNat 48 (field (a.frame ft dst) 6 6) = a.src := by
    rw [frame_eq, ethernetHeader, List.append_assoc, List.append_assoc, field_skip_beBytes _ _ _ _ _ le_rfl]
    exact ofNat_field 6 a.src _
  have size : (a.frame ft dst).length = max 60 (14 + a.jz.length) := by
    rw [frame_eq]; simp [header]; omega
  have jz : ((a.frame ft dst).drop 14).take a.jz.length = a.jz := by
    rw [frame_eq, ← header, List.drop_left, List.take_left]
  have version' : field (a.frame ft dst) 14 1 = 1 := (inJz (i := 0) (by omega)).trans version
  have len' : field (a.frame ft dst) 16 2 = a.jz.length := (inJz (i := 2) (by omega)).trans len
  have agrees : lengthAgrees (a.frame ft dst).length a.jz.length = true := by
    rw [lengthAgrees_iff, size]; omega
  rw [intake, len', type, version', agrees, source, jz, if_neg ?_]
  · exact reads
  · rw [size]; simp; omega

/-! ### Each kind that arrives (R3, R5) -/

section
variable {jz : List Byte} {i : Fin 4} (p : Port) (src : Addr)

theorem readJz_request (kind : field jz 1 1 = 11) (long : 7 ≤ jz.length) : readJz p src jz = some (.request src
    (BitVec.ofNat 16 (field jz 4 2)) (BitVec.ofNat 8 (field jz 6 1)) (jz.drop 7)) := by
  unfold readJz
  rw [kind]
  exact if_neg (by omega)

theorem readJz_bearer (kind : field jz 1 1 = 1 ∨ field jz 1 1 = 2) :
    readJz (.cell i) src jz = (readBearer jz).map fun f => .bearer src f := by
  unfold readJz
  rcases kind with kind | kind <;> rw [kind] <;> rfl

theorem readJz_radioStatus (kind : field jz 1 1 = 8) (six : jz.length = 6) :
    readJz (.cell i) src jz = some (.radioStatus src (BitVec.ofNat 16 (field jz 4 2))) := by
  unfold readJz
  rw [kind]
  exact if_pos six

theorem readJz_link (kind : field jz 1 1 = 3) : readJz (.shore i) src jz = (readBearer (jz.drop 10)).map fun f =>
    .link src (BitVec.ofNat 16 (field jz 4 2)) (BitVec.ofNat 32 (field jz 6 4)) f := by
  unfold readJz
  rw [kind]
  rfl

theorem readJz_echo (kind : field jz 1 1 = 5) (twenty : jz.length = 20) : readJz (.shore i) src jz = some (.echo src
    (BitVec.ofNat 16 (field jz 4 2)) (BitVec.ofNat 32 (field jz 6 4)) (BitVec.ofNat 16 (field jz 10 2))
    (BitVec.ofNat 64 (field jz 12 8))) := by
  unfold readJz
  rw [kind]
  exact if_pos twenty

end

section
variable {ft : BitVec 16} {i : Fin 4} {src dst : Addr}

theorem intake_bearer {f : BearerFrame} (wf : f.wf = true) :
    intake ft (.cell i) ((Arrival.bearer src f).frame ft dst) = some (.bearer src f) := by
  have len : (Arrival.bearer src f).jz.length = 10 + f.payload.length := bearerJz_length f
  have code : bearerKindCode f.kind < 256 := by cases f.kind <;> decide
  have payload : f.payload.length ≤ 9000 := by
    simp only [BearerFrame.wf, Bool.and_eq_true, decide_eq_true_eq] at wf; exact wf.2
  obtain ⟨version, kind, jz, -⟩ := field_jzFrame (kind := bearerKindCode f.kind) (body := beBytes 4 f.bearerId.toNat
    ++ beBytes 2 f.payload.length ++ f.payload) code (by simp; omega)
  have known : field (bearerJz f) 1 1 = 1 ∨ field (bearerJz f) 1 1 = 2 := by
    rw [show field (bearerJz f) 1 1 = bearerKindCode f.kind from kind]
    cases f.kind
    · exact .inl rfl
    · exact .inr rfl
  refine intake_frame dst (by omega) (by omega) version jz ((readJz_bearer src known).trans ?_)
  rw [readBearer_bearerJz wf]; rfl

theorem intake_link {a : Num16} {n : Num32} {f : BearerFrame} (wf : f.wf = true) :
    intake ft (.shore i) ((Arrival.link src a n f).frame ft dst) = some (.link src a n f) := by
  have payload : f.payload.length ≤ 9000 := by
    simp only [BearerFrame.wf, Bool.and_eq_true, decide_eq_true_eq] at wf; exact wf.2
  have size : (linkHeader a n ++ bearerJz f).length = 16 + f.payload.length := by
    rw [List.length_append, bearerJz_length]; simp [linkHeader]; omega
  obtain ⟨version, kind, jz, body⟩ := field_jzFrame (kind := 3) (body := linkHeader a n ++ bearerJz f) (by decide) (by omega)
  have len : (Arrival.link src a n f).jz.length = 20 + f.payload.length := by
    rw [Arrival.jz, jzFrame_length, size]; omega
  have inner : (jzFrame 3 (linkHeader a n ++ bearerJz f)).drop 10 = bearerJz f := by
    rw [show 10 = 4 + 6 from rfl, ← List.drop_drop, jzFrame_body]
    exact List.drop_left' (by simp [linkHeader])
  have anchor : BitVec.ofNat 16 (field (jzFrame 3 (linkHeader a n ++ bearerJz f)) 4 2) = a := by
    rw [body 0 2, linkHeader, List.append_assoc]; exact ofNat_field 2 a _
  have sequence : BitVec.ofNat 32 (field (jzFrame 3 (linkHeader a n ++ bearerJz f)) 6 4) = n := by
    rw [body 2 4, linkHeader, List.append_assoc, field_skip_beBytes _ _ _ _ _ le_rfl]; exact ofNat_field 4 n _
  refine intake_frame dst (by omega) (by omega) version jz ((readJz_link src kind).trans ?_)
  rw [inner, readBearer_bearerJz wf, anchor, sequence]; rfl

theorem intake_echo {a : Num16} {n : Num32} {k : Num16} {t : Time} :
    intake ft (.shore i) ((Arrival.echo src a n k t).frame ft dst) = some (.echo src a n k t) := by
  let body := linkHeader a n ++ beBytes 2 k.toNat ++ beBytes 8 t.toNat
  have body_eq : body = beBytes 2 a.toNat ++ (beBytes 4 n.toNat ++ (beBytes 2 k.toNat ++ beBytes 8 t.toNat)) := by
    simp only [body, linkHeader, List.append_assoc]
  obtain ⟨version, kind, jz, at_⟩ := field_jzFrame (kind := 5) (body := body) (by decide) (by simp [body_eq])
  have len : (jzFrame 5 body).length = 20 := by rw [jzFrame_length]; simp [body_eq]
  have anchor : BitVec.ofNat 16 (field (jzFrame 5 body) 4 2) = a := by
    rw [at_ 0 2, body_eq]; exact ofNat_field 2 a _
  have sequence : BitVec.ofNat 32 (field (jzFrame 5 body) 6 4) = n := by
    rw [at_ 2 4, body_eq, field_skip_beBytes _ _ _ _ _ le_rfl]; exact ofNat_field 4 n _
  have number : BitVec.ofNat 16 (field (jzFrame 5 body) 10 2) = k := by
    rw [at_ 6 2, body_eq, field_skip_beBytes _ _ _ _ _ (by decide), field_skip_beBytes _ _ _ _ _ le_rfl]
    exact ofNat_field 2 k _
  have time : BitVec.ofNat 64 (field (jzFrame 5 body) 12 8) = t := by
    rw [at_ 8 8, body_eq, field_skip_beBytes _ _ _ _ _ (by decide), field_skip_beBytes _ _ _ _ _ (by decide),
      field_skip_beBytes _ _ _ _ _ le_rfl, ← List.append_nil (beBytes 8 t.toNat)]
    exact ofNat_field 8 t _
  refine intake_frame dst (len.symm ▸ by decide) (len.symm ▸ by decide) version jz ((readJz_echo src kind len).trans ?_)
  rw [anchor, sequence, number, time]

theorem intake_radioStatus {n : BitVec 16} :
    intake ft (.cell i) ((Arrival.radioStatus src n).frame ft dst) = some (.radioStatus src n) := by
  obtain ⟨version, kind, jz, at_⟩ := field_jzFrame (kind := 8) (body := beBytes 2 n.toNat) (by decide) (by simp)
  have len : (jzFrame 8 (beBytes 2 n.toNat)).length = 6 := by rw [jzFrame_length]; simp
  have attached : BitVec.ofNat 16 (field (jzFrame 8 (beBytes 2 n.toNat)) 4 2) = n := by
    rw [at_ 0 2, ← List.append_nil (beBytes 2 n.toNat)]; exact ofNat_field 2 n _
  refine intake_frame dst (len.symm ▸ by decide) (len.symm ▸ by decide) version jz
    ((readJz_radioStatus src kind len).trans ?_)
  rw [attached]

theorem intake_request {p : Port} {tag : Num16} {code : Byte} {bs : List Byte} (short : bs.length ≤ 9195) :
    intake ft p ((Arrival.request src tag code bs).frame ft dst) = some (.request src tag code bs) := by
  let body := beBytes 2 tag.toNat ++ [code] ++ bs
  have size : body.length = 3 + bs.length := by simp [body]; omega
  obtain ⟨version, kind, jz, at_⟩ := field_jzFrame (kind := 11) (body := body) (by decide) (by omega)
  have len : (jzFrame 11 body).length = 7 + bs.length := by rw [jzFrame_length, size]; omega
  have tagged : BitVec.ofNat 16 (field (jzFrame 11 body) 4 2) = tag := by
    rw [at_ 0 2, show body = beBytes 2 tag.toNat ++ ([code] ++ bs) from List.append_assoc ..]; exact ofNat_field 2 tag _
  have coded : BitVec.ofNat 8 (field (jzFrame 11 body) 6 1) = code := by
    rw [at_ 2 1, show body = beBytes 2 tag.toNat ++ ([code] ++ bs) from List.append_assoc ..,
      field_skip_beBytes _ _ _ _ _ le_rfl, Nat.sub_self, field_first [code] bs 1 rfl]
    exact read_byte code
  have rest : (jzFrame 11 body).drop 7 = bs := by
    rw [show 7 = 4 + 3 from rfl, ← List.drop_drop, jzFrame_body]
    exact List.drop_left' (by simp)
  refine intake_frame dst ?_ ?_ version jz ((readJz_request p src kind (by omega)).trans ?_)
  · exact len ▸ by omega
  · exact len ▸ by omega
  · rw [tagged, coded, rest]

end

end Sys2Proof.Machine
end

section
/-! The bytes of a frame act as the command of their kind, and a command code with its items as its request (R5,
R186). -/

namespace Sys2Proof.Machine

/-- A frame that fails no check is passed on as what it is (R5). -/
theorem exec_badFrame_passOn {s : State} {p : Port} {bs : List Byte} {a : Arrival}
    (h : intake s.me.frameType p bs = some a) : exec (.badFrame p bs) s = .next (arrive p (passOn p a) s) := by
  refine congrArg Host.Outcome.next ?_
  by_cases receives : Receives s p
  · have taken : intake (s.got p).me.frameType p bs = some a := h
    rw [arrive_of_receives s _ receives, arrive_of_receives s _ receives, takeIn, taken]
  · rw [arrive_of_not_receives s _ receives, arrive_of_not_receives s _ receives]

theorem itemBytes_eq (x : Item) : itemBytes x = x.id :: BitVec.ofNat 8 x.value.length :: x.value := by
  simp [itemBytes, byte, beBytes]

/-- The items of a body are read back, each by its size (R186). -/
theorem splitItems_itemBytes (xs : List Item) (wf : ∀ x ∈ xs, x.wf = true) (fuel : Nat) (enough : xs.length ≤ fuel) :
    splitItems fuel (xs.flatMap itemBytes) = some xs := by
  induction xs generalizing fuel with
  | nil => cases fuel <;> rfl
  | cons x xs ih =>
    rw [List.length_cons] at enough
    obtain ⟨fuel, rfl⟩ : ∃ n, fuel = n + 1 := ⟨fuel - 1, by omega⟩
    have short : x.value.length ≤ 255 := by simpa [Item.wf] using wf x List.mem_cons_self
    have size : (BitVec.ofNat 8 x.value.length).toNat = x.value.length := by
      rw [BitVec.toNat_ofNat]; omega
    rw [List.flatMap_cons, itemBytes_eq, List.cons_append, List.cons_append, splitItems]
    simp only [size, List.drop_left, List.take_left, ih (fun y hy => wf y (List.mem_cons_of_mem x hy)) fuel (by omega)]
    rw [if_neg (by simp)]

theorem length_le_itemBytes (xs : List Item) : xs.length ≤ (xs.flatMap itemBytes).length := by
  induction xs with
  | nil => exact le_rfl
  | cons x xs ih =>
    rw [List.flatMap_cons, itemBytes_eq]
    simp only [List.length_append, List.length_cons]
    omega

/-- The bytes of a request reach ME as its command code with its items (R5, R186). -/
theorem requestBytes_itemBytes (p : Port) (src : Addr) (tag : Num16) (code : Byte) (xs : List Item)
    (wf : ∀ x ∈ xs, x.wf = true) : requestBytes p src tag code (xs.flatMap itemBytes)
      = admitRequest ⟨p, src, tag, true⟩ (meRequest ⟨p, src, tag, true⟩ code xs) := by
  funext s
  simp only [requestBytes, splitItems_itemBytes xs wf _ (length_le_itemBytes xs), Option.isSome_some, Option.getD_some]

/-- The items of a request, in any order that keeps the pairs of a Configure, are the same under each identifier. -/
theorem sameItems_of_perm {xs ys : List Item} {cmd : Command} (ok : argsOk cmd xs = true) (perm : ys.Perm xs)
    (pairs : cmd = .configure → ∀ id, isPairId id = true → itemsOf id ys = itemsOf id xs) : SameItems ys xs := by
  intro id
  by_cases configure : cmd = .configure
  · subst configure
    by_cases pair : isPairId id = true
    · exact pairs rfl id pair
    · have nodup : ((xs.filter fun i => !isPairId i.id.toNat).map Item.id).Nodup := by
        simp only [argsOk, configureItemsOk, Bool.and_eq_true, decide_eq_true_eq] at ok
        obtain ⟨⟨⟨-, nodup⟩, -⟩, -⟩ := ok
        exact nodup
      exact itemsOf_perm perm (itemsOf_length_le_one nodup fun x hx => by simp [hx, pair])
  · have meets : itemsMeet (argForms xs cmd) xs = true := by
      cases cmd <;> first | exact ok | exact absurd rfl configure
    obtain ⟨-, nodup, -⟩ := (itemsMeet_iff _ _).mp meets
    exact itemsOf_perm perm (itemsOf_length_le_one (keep := fun _ => true) (by simpa using nodup) fun _ _ => rfl)

/-- A POSTPAID account is of limit mode STOP_BEFORE, whatever item is given for it (R30, R31). -/
theorem createValues_postpaid (a : CreateArgs) (account : a.account = 1) (balance lowThreshold : BitVec 64)
    (limitMode : Byte) :
    createValues { a with balance := balance, lowThreshold := lowThreshold, limitMode := limitMode } = createValues a
    ∧ ∀ v, createValues a = some v → v.account = .postpaid := by
  have postpaid : readAccount a.account = some .postpaid := by rw [account]; rfl
  simp only [createValues, postpaid]
  split
  · exact ⟨rfl, fun v h => by cases h⟩
  · cases readClass a.cls with
    | none => exact ⟨rfl, fun v h => by cases h⟩
    | some cls =>
      cases inRange 4 a.plan.toNat with
      | none => exact ⟨rfl, fun v h => by cases h⟩
      | some plan =>
        cases inRange 16 a.homeRealm.toNat with
        | none => exact ⟨rfl, fun v h => by cases h⟩
        | some realm =>
          cases readRoamSet a.roamSet with
          | none => exact ⟨rfl, fun v h => by cases h⟩
          | some roam =>
            cases inRange 16 a.servingRu.toNat with
            | none => exact ⟨rfl, fun v h => by cases h⟩
            | some unit => exact ⟨rfl, fun v h => by cases h; rfl⟩

/-- A POSTPAID account takes no balance, threshold or limit mode (R30, R31). -/
theorem createContext_postpaid (a : CreateArgs) (account : a.account = 1) (balance lowThreshold : BitVec 64)
    (limitMode : Byte) :
    createContext { a with balance := balance, lowThreshold := lowThreshold, limitMode := limitMode }
      = createContext a := by
  obtain ⟨same, postpaid⟩ := createValues_postpaid a account balance lowThreshold limitMode
  funext s
  simp only [createContext, same]
  cases h : createValues a with
  | none => rfl
  | some v => simp [postpaid v h, createOverLimit, newContext]

theorem commandOf_some {code : Byte} {cmd : Command} (h : commandOf code = some cmd) : code.toNat = cmd.code := by
  have found := List.find?_some (p := fun c : Command => c.code == code.toNat) h
  exact (beq_iff_eq.mp found).symm

/-- The pairs of a Configure, by the identifier of their row. -/
theorem itemsOf_eq_filter (b : Byte) (xs : List Item) : itemsOf b.toNat xs = xs.filter fun x => x.id == b := by
  refine List.filter_congr fun x _ => ?_
  rw [Bool.eq_iff_iff, beq_iff_eq, beq_iff_eq]
  exact ⟨BitVec.eq_of_toNat_eq, congrArg _⟩

/-- The items of a POSTPAID Create Context that leaves out its last three. -/
def postpaidItems (a : CreateArgs) : List Item := items
  [beBytes 4 a.bearerId.toNat, [a.cls], [a.plan], [a.homeRealm], a.roamSet, [a.account], [a.servingRu],
   beBytes 4 a.allowance.toNat]

theorem argsOk_postpaidItems (a : CreateArgs) (size : a.roamSet.length ≤ 15) (account : a.account = 1) :
    argsOk .createContext (postpaidItems a) = true := by
  have given6 : itemValue 6 (postpaidItems a) = some [a.account] := itemValue_items (id := 5) (by simp) rfl
  have postpaid : (itemNat 6 (postpaidItems a) == 1) = true := by simp [itemNat, given6, account]
  have meets := itemsMeet_spelled (fvs := [(fixedArg 1 4, some (beBytes 4 a.bearerId.toNat)), (fixedArg 2 1, some [a.cls]),
    (fixedArg 3 1, some [a.plan]), (fixedArg 4 1, some [a.homeRealm]), (setArg 5 15, some a.roamSet),
    (fixedArg 6 1, some [a.account]), (fixedArg 7 1, some [a.servingRu]),
    (fixedArg 8 4, some (beBytes 4 a.allowance.toNat)), (⟨9, true, 8, true⟩, none), (⟨10, true, 8, true⟩, none),
    (⟨11, true, 1, true⟩, none)]) (by simp [fixedArg, setArg]) (by simp [fixedArg, setArg])
    (by simp [Fits, ArgForm.takes, fixedArg, setArg, size])
  show itemsMeet (createForms (itemNat 6 (postpaidItems a) == 1)) (postpaidItems a) = true
  rw [postpaid]
  exact meets

theorem createArgs_postpaidItems (a : CreateArgs) :
    createArgs (postpaidItems a) = { a with balance := 0, lowThreshold := 0, limitMode := 0 } := by
  have missing (w id : Nat) (beyond : 8 < id) : bits w id (postpaidItems a) = 0 := by
    have none : itemValue id (postpaidItems a) = none := by
      have others : itemsOf id (postpaidItems a) = [] := by
        refine (itemsOf_eq_nil _ _).mpr ?_
        simp [postpaidItems, items, itemsFrom, item]; omega
      rw [itemValue_eq_head, others]; rfl
    simp [bits, itemNat, none]
  simp only [createArgs, missing _ 9 (by decide), missing _ 10 (by decide), missing _ 11 (by decide)]
  simp [postpaidItems, bits_items, members_items, read_four]

/-- Settles O12: the frame's bytes are read back item by item, and a request asks for its items in any order. -/
theorem frameBytesActAsTheirCommand : Obligations.FrameBytesActAsTheirCommand := by
  refine ⟨fun s dst i src => ⟨fun f wf => ?_, fun a n f wf => ?_, fun a n k t => ?_, fun n => ?_,
    fun p tag code xs wf short => ?_⟩, fun s i rq code xs ys wf spells perm pairs => ?_, fun s rq a size account => ?_⟩
  · exact exec_badFrame_passOn (intake_bearer wf)
  · exact exec_badFrame_passOn (intake_link wf)
  · exact exec_badFrame_passOn intake_echo
  · exact exec_badFrame_passOn intake_radioStatus
  · rw [exec_badFrame_passOn (intake_request short)]
    have passes : passOn p (.request src tag code (xs.flatMap itemBytes))
        = requestBytes p src tag code (xs.flatMap itemBytes) := by cases p <;> rfl
    rw [passes, requestBytes_itemBytes p src tag code xs wf]
    rfl
  · obtain ⟨cmd, request, known, acts⟩ := exec_of_spelling spells
    have ok := argsOk_of_spelling wf request spells
    have same : SameItems ys xs := sameItems_of_perm ok perm fun configure id pair => by
      subst configure
      have code44 : code = 44 := BitVec.eq_of_toNat_eq (commandOf_some known)
      rcases (by simpa [isPairId] using pair : id = 5 ∨ id = 16) with rfl | rfl
      · have kept := pairs code44 5 (by simp)
        rwa [← itemsOf_eq_filter, ← itemsOf_eq_filter] at kept
      · have kept := pairs code44 16 (by simp)
        rwa [← itemsOf_eq_filter, ← itemsOf_eq_filter] at kept
    rw [same.exec_badCommand perm, exec_badCommand_known s rq code xs cmd known ok, acts]
  · have acts : bodyOf rq.port (postpaidItems a) .createContext = createContext a :=
      (congrArg createContext (createArgs_postpaidItems a)).trans (createContext_postpaid a account 0 0 0)
    exact (exec_badCommand_known s rq 16 (postpaidItems a) .createContext rfl (argsOk_postpaidItems a size account)).trans
      (ask_of_reads acts s).symm

end Sys2Proof.Machine
end

section
/-! The checks every request meets, in their order (R5, R173, R174, R186). -/

namespace Sys2Proof.Machine

/-! ### The shared checks -/

section
variable {s : State} {rq : Request} {cmd : Command} (body : State → Reply × State)

theorem Command.level_pos (cmd : Command) : 1 ≤ cmd.level.code := by cases cmd <;> decide

theorem access_ne_none (cmd : Command) (level : cmd.level.code ≤ (s.access rq.port).code) :
    s.access rq.port ≠ .none := by
  intro e
  rw [e] at level
  exact absurd (cmd.level_pos.trans level) (by decide)

/-- On a port of level NONE a request is dropped (R5). -/
theorem ask_dropped (receives : Receives s rq.port) (none : s.access rq.port = .none) :
    ask rq cmd body s = drop .badFrame (arrivalDir rq.port) (s.got rq.port) := by
  rw [ask, arrive_of_receives s _ receives, admitRequest, State.got_access, none]; rfl

/-- Check 2 of R173. -/
theorem ask_denied (receives : Receives s rq.port) (access : s.access rq.port ≠ .none)
    (low : (s.access rq.port).code < cmd.level.code) : ask rq cmd body s = answerNo rq cmd .denied (s.got rq.port) := by
  rw [ask, arrive_of_receives s _ receives]
  simp [admitRequest, handle, State.admits, access, Nat.not_le.mpr low, answerNo]

/-- Check 3 of R173. -/
theorem ask_busy (receives : Receives s rq.port) (level : cmd.level.code ≤ (s.access rq.port).code)
    (pending : s.me.coldPending ≠ .none) (other : cmd ≠ .readStatus) :
    ask rq cmd body s = answerNo rq cmd .busy (s.got rq.port) := by
  have access := access_ne_none cmd level
  rw [ask, arrive_of_receives s _ receives]
  simp [admitRequest, handle, State.admits, access, level, pending, other, answerNo]

/-- Check 4 of R173. -/
theorem ask_badArgument (receives : Receives s rq.port) (level : cmd.level.code ≤ (s.access rq.port).code)
    (free : s.me.coldPending = .none ∨ cmd = .readStatus) (bad : rq.itemsOk = false) :
    ask rq cmd body s = answerNo rq cmd .badArgument (s.got rq.port) := by
  have access := access_ne_none cmd level
  rw [ask, arrive_of_receives s _ receives]
  rcases free with free | rfl
  · simp [admitRequest, handle, State.admits, access, level, free, bad, answerNo]
  · simp [admitRequest, handle, State.admits, access, level, bad, answerNo]

end

theorem spelling_of_request {i : Instr} {rq : Request} {cmd : Command} (h : requestOf i = some (rq, cmd)) :
    ∃ code xs, spelling i = some (rq, code, xs) := by
  cases i <;> cases h <;> exact ⟨_, _, rfl⟩

/-- Every request is asked of ME (R5). -/
theorem exec_of_request {i : Instr} {rq : Request} {cmd : Command} (h : requestOf i = some (rq, cmd)) (s : State) :
    ∃ body, exec i s = .next (ask rq cmd body s) := by
  obtain ⟨code, xs, spells⟩ := spelling_of_request h
  obtain ⟨cmd', request, -, acts⟩ := exec_of_spelling spells
  rw [h] at request; cases request
  exact ⟨_, acts s⟩

/-! ### Check 4 on the items of a command code (R186) -/

theorem argsOk_single {cmd : Command} (xs : List Item) (single : cmd ≠ .configure) :
    argsOk cmd xs = itemsMeet (argForms xs cmd) xs := by
  cases cmd <;> first | rfl | exact absurd rfl single

/-- An item that no form takes. -/
theorem argsOk_false_of_item {cmd : Command} {xs : List Item} {x : Item} (single : cmd ≠ .configure) (mem : x ∈ xs)
    (unfit : ∀ f ∈ argForms xs cmd, f.id = x.id.toNat → ¬ f.takes x.value) : argsOk cmd xs = false := by
  rw [argsOk_single xs single, Bool.eq_false_iff]
  intro ok
  obtain ⟨f, hf, id, size⟩ := ((itemsMeet_iff _ _).mp ok).1 x mem
  exact unfit f hf id ((f.sizeOk_iff x).mp size)

/-- Two items of one identifier. -/
theorem argsOk_false_of_twice {cmd : Command} {xs : List Item} {x y : Item} (single : cmd ≠ .configure) (mem : y ∈ xs)
    (id : y.id = x.id) : argsOk cmd (x :: xs) = false := by
  rw [argsOk_single _ single, Bool.eq_false_iff]
  intro ok
  obtain ⟨-, nodup, -⟩ := (itemsMeet_iff _ _).mp ok
  exact (List.nodup_cons.mp nodup).1 (List.mem_map.mpr ⟨y, mem, id⟩)

/-- A required item left out. -/
theorem argsOk_false_of_missing {cmd : Command} {xs : List Item} {f : ArgForm} (single : cmd ≠ .configure)
    (form : f ∈ argForms xs cmd) (required : f.optional = false) (missing : ∀ x ∈ xs, x.id.toNat ≠ f.id) :
    argsOk cmd xs = false := by
  rw [argsOk_single xs single, Bool.eq_false_iff]
  intro ok
  obtain ⟨-, -, all⟩ := (itemsMeet_iff _ _).mp ok
  rcases all f form with optional | ⟨x, hx, id⟩
  · rw [required] at optional; cases optional
  · exact missing x hx id

/-- The forms of a command but for whether an argument may be left out. -/
theorem formsOf_shape (b c : Bool) (cmd : Command) :
    (formsOf b cmd).map (fun f => (f.id, f.exact, f.size)) = (formsOf c cmd).map fun f => (f.id, f.exact, f.size) := by
  cases b <;> cases c <;> cases cmd <;> rfl

/-- Forms of one identifier take the same values. -/
theorem takes_of_shape {cmd : Command} {b c : Bool} {f g : ArgForm} (single : cmd ≠ .configure)
    (hf : f ∈ formsOf b cmd) (hg : g ∈ formsOf c cmd) (id : f.id = g.id) : f.exact = g.exact ∧ f.size = g.size := by
  have shaped : (g.id, g.exact, g.size) ∈ (formsOf b cmd).map fun f => (f.id, f.exact, f.size) := by
    rw [formsOf_shape b c]; exact List.mem_map.mpr ⟨g, hg, rfl⟩
  obtain ⟨f', hf', same⟩ := List.mem_map.mp shaped
  simp only [Prod.mk.injEq] at same
  obtain ⟨id', exact', size'⟩ := same
  have equal : f = f' := List.inj_on_of_nodup_map (formsOf_spec b cmd single).1 hf hf' (id.trans id'.symm)
  rw [equal]
  exact ⟨exact', size'⟩

/-- No argument may be left out, but for those of Modify Context and of a POSTPAID Create Context (R186). -/
theorem formsOf_required (b : Bool) (cmd : Command) (f : ArgForm) (mem : f ∈ formsOf b cmd)
    (required : (cmd = .modifyContext → f.id ≤ 2) ∧ (cmd = .createContext → f.id ≤ 8 ∨ b = false)) :
    f.optional = false := by
  have all : ∀ f ∈ formsOf b cmd, (cmd = .modifyContext → f.id ≤ 2) ∧ (cmd = .createContext → f.id ≤ 8 ∨ b = false) →
      f.optional = false := by cases b <;> cases cmd <;> decide
  exact all f mem required

/-- The account a Create Context spells, as check 4 reads it. -/
theorem itemNat_account (rq : Request) (a : CreateArgs) {code : Byte} {xs : List Item}
    (spells : spelling (.createContext rq a) = some (rq, code, xs)) : itemNat 6 xs = a.account.toNat := by
  cases spells
  have given6 := itemValue_items (vs := [beBytes 4 a.bearerId.toNat, [a.cls], [a.plan], [a.homeRealm], a.roamSet,
    [a.account], [a.servingRu], beBytes 4 a.allowance.toNat, beBytes 8 a.balance.toNat, beBytes 8 a.lowThreshold.toNat,
    [a.limitMode]]) (id := 5) (by simp) rfl
  simp [itemNat, given6]

/-! ### The items of Configure (R175, R186) -/

theorem configureSizeOk_unknown {x : Item} (unknown : x.id.toNat = 0 ∨ 16 < x.id.toNat) : configureSizeOk x = false := by
  unfold configureSizeOk
  split <;> first | omega | rfl

theorem configureSizeOk_missized {x : Item} {v : List Byte} (ok : configureSizeOk x = true)
    (missized : Missized .configure x.id.toNat x.value.length v) : configureSizeOk ⟨x.id, v⟩ = false := by
  obtain ⟨size, destination⟩ : v.length ≠ x.value.length
      ∧ (x.id.toNat = 3 ∨ x.id.toNat = 4 → v.length ≠ 0 ∧ v.length ≠ 7) := by
    simpa [Missized, setLimit] using missized
  unfold configureSizeOk at ok ⊢
  dsimp only
  split <;> simp_all

theorem configureItemsOk_false_of_item {xs : List Item} {x : Item} (mem : x ∈ xs) (bad : configureSizeOk x = false) :
    configureItemsOk xs = false := by
  have all : xs.all configureSizeOk = false := List.all_eq_false.mpr ⟨x, mem, by simp [bad]⟩
  simp [configureItemsOk, all]

/-- A selector or value more leaves a pair in part, and any other identifier comes once (R186). -/
theorem configureItemsOk_twice {xs : List Item} {x y : Item} (ok : configureItemsOk xs = true) (mem : y ∈ xs)
    (id : y.id = x.id) : configureItemsOk (x :: xs) = false := by
  simp only [configureItemsOk, Bool.and_eq_true, decide_eq_true_eq, beq_iff_eq] at ok
  obtain ⟨⟨⟨-, -⟩, even5⟩, even16⟩ := ok
  rw [Bool.eq_false_iff]
  intro more
  simp only [configureItemsOk, Bool.and_eq_true, decide_eq_true_eq, beq_iff_eq] at more
  obtain ⟨⟨⟨-, nodup⟩, more5⟩, more16⟩ := more
  by_cases five : x.id.toNat = 5
  · simp only [itemsOf, List.filter_cons, five, beq_self_eq_true, if_true, List.length_cons] at more5 even5
    omega
  by_cases sixteen : x.id.toNat = 16
  · simp only [itemsOf, List.filter_cons, sixteen, beq_self_eq_true, if_true, List.length_cons] at more16 even16
    omega
  have single : isPairId x.id.toNat = false := by simp [isPairId, five, sixteen]
  simp only [List.filter_cons, single, Bool.not_false, if_true, List.map_cons] at nodup
  exact (List.nodup_cons.mp nodup).1 (List.mem_map.mpr ⟨y, List.mem_filter.mpr ⟨mem, by simp [id, single]⟩, id⟩)

/-! ### A request's items spoiled (R186) -/

theorem request_configure {i : Instr} {rq : Request} (h : requestOf i = some (rq, .configure)) :
    ∃ a, i = .configure rq a := by
  cases i <;> cases h
  exact ⟨_, rfl⟩

theorem request_modifyContext {i : Instr} {rq : Request} (h : requestOf i = some (rq, .modifyContext)) :
    ∃ n a, i = .modifyContext rq n a := by
  cases i <;> cases h
  exact ⟨_, _, rfl⟩

theorem request_createContext {i : Instr} {rq : Request} (h : requestOf i = some (rq, .createContext)) :
    ∃ a, i = .createContext rq a := by
  cases i <;> cases h
  exact ⟨_, rfl⟩

section
variable {i : Instr} {rq : Request} {cmd : Command} {code : Byte} {xs : List Item} (wf : i.wf = true)
  (request : requestOf i = some (rq, cmd)) (spells : spelling i = some (rq, code, xs))
include wf request spells

/-- An item of no argument, or of one already given, fails check 4 (R186). -/
theorem argsOk_extra (x : Item) (extra : x.id = 0 ∨ argCount cmd < x.id.toNat ∨ ∃ y ∈ xs, y.id = x.id) :
    argsOk cmd (x :: xs) = false := by
  have ok := argsOk_of_spelling wf request spells
  by_cases configure : cmd = .configure
  · subst configure
    rcases extra with zero | beyond | ⟨y, mem, id⟩
    · exact configureItemsOk_false_of_item List.mem_cons_self (configureSizeOk_unknown (.inl (by rw [zero]; rfl)))
    · exact configureItemsOk_false_of_item List.mem_cons_self (configureSizeOk_unknown (.inr beyond))
    · exact configureItemsOk_twice ok mem id
  · have known := (formsOf_spec (itemNat 6 (x :: xs) == 1) cmd configure).2
    rw [← argForms_eq] at known
    rcases extra with zero | beyond | ⟨y, mem, id⟩
    · refine argsOk_false_of_item configure List.mem_cons_self fun f hf id => ((known f hf).1 ?_).elim
      rw [id, zero]; rfl
    · refine argsOk_false_of_item configure List.mem_cons_self fun f hf id => absurd (known f hf).2.1 ?_
      omega
    · exact argsOk_false_of_twice configure mem id

/-- A required item left out fails check 4 (R186). -/
theorem argsOk_missing {pre post : List Item} {x : Item} (split : xs = pre ++ x :: post)
    (required : Required i x.id.toNat) : argsOk cmd (pre ++ post) = false := by
  have single : cmd ≠ .configure := by
    rintro rfl
    obtain ⟨a, rfl⟩ := request_configure request
    exact required
  have ok := argsOk_of_spelling wf request spells
  rw [argsOk_single xs single] at ok
  obtain ⟨fits, nodup, -⟩ := (itemsMeet_iff _ _).mp ok
  have mem : x ∈ xs := by rw [split]; simp
  obtain ⟨f, hf, id, -⟩ := fits x mem
  rw [argForms_eq] at hf
  have shaped : (f.id, f.exact, f.size) ∈ (formsOf (itemNat 6 (pre ++ post) == 1) cmd).map
      fun f => (f.id, f.exact, f.size) := by
    rw [formsOf_shape _ (itemNat 6 xs == 1)]; exact List.mem_map.mpr ⟨f, hf, rfl⟩
  obtain ⟨g, hg, same⟩ := List.mem_map.mp shaped
  have gid : g.id = x.id.toNat := (congrArg Prod.fst same).trans id
  refine argsOk_false_of_missing single (f := g) (by rw [argForms_eq]; exact hg) (formsOf_required _ cmd g hg ⟨?_, ?_⟩) ?_
  · rintro rfl
    obtain ⟨n, a, rfl⟩ := request_modifyContext request
    rw [gid]; exact required
  · rintro rfl
    obtain ⟨a, rfl⟩ := request_createContext request
    rw [gid]
    by_cases low : x.id.toNat ≤ 8
    · exact .inl low
    · have prepaid : a.account ≠ 1 := required.resolve_left low
      have six : x.id.toNat ≠ 6 := by omega
      have kept : itemsOf 6 (pre ++ post) = itemsOf 6 xs := by
        rw [split, itemsOf_append, itemsOf_append]
        simp [itemsOf, six]
      have account : itemNat 6 (pre ++ post) = a.account.toNat := by
        rw [← itemNat_account rq a spells, itemNat, itemNat, itemValue_eq_head, itemValue_eq_head, kept]
      rw [account]
      exact .inr <| beq_false_of_ne fun one => prepaid (BitVec.eq_of_toNat_eq one)
  · intro y hy e
    have same : y.id = x.id := BitVec.eq_of_toNat_eq (e.trans gid)
    rw [split, List.map_append, List.map_cons, List.nodup_middle, ← List.map_append] at nodup
    exact (List.nodup_cons.mp nodup).1 (List.mem_map.mpr ⟨y, hy, same⟩)

/-- A value of another size, or a set beyond its limit, fails check 4 (R186). -/
theorem argsOk_missized {pre post : List Item} {x : Item} {v : List Byte} (split : xs = pre ++ x :: post)
    (missized : Missized cmd x.id.toNat x.value.length v) : argsOk cmd (pre ++ ⟨x.id, v⟩ :: post) = false := by
  have ok := argsOk_of_spelling wf request spells
  have mem : x ∈ xs := by rw [split]; simp
  by_cases configure : cmd = .configure
  · subst configure
    simp only [argsOk, configureItemsOk, Bool.and_eq_true] at ok
    obtain ⟨⟨⟨sizes, -⟩, -⟩, -⟩ := ok
    exact configureItemsOk_false_of_item (x := ⟨x.id, v⟩) (by simp)
      (configureSizeOk_missized (List.all_eq_true.mp sizes x mem) missized)
  · rw [argsOk_single xs configure] at ok
    obtain ⟨f, hf, id, size⟩ := ((itemsMeet_iff _ _).mp ok).1 x mem
    have takes := (f.sizeOk_iff x).mp size
    rw [argForms_eq] at hf
    refine argsOk_false_of_item configure (x := ⟨x.id, v⟩) (by simp) fun g hg gid fit => ?_
    rw [argForms_eq] at hg
    obtain ⟨exact_, size_⟩ := takes_of_shape configure hg hf (gid.trans id.symm)
    obtain ⟨-, -, limit⟩ := (formsOf_spec _ cmd configure).2 f hf
    rw [ArgForm.takes, exact_, size_] at fit
    rw [ArgForm.takes] at takes
    rw [Missized, ← id, limit] at missized
    cases exact : f.exact with
    | true =>
      simp only [exact, if_true] at missized fit takes
      exact missized.1 (fit.trans takes.symm)
    | false =>
      simp only [exact, Bool.false_eq_true, if_false] at missized fit
      omega

end

/-- Settles O20: the checks in their order, then each way the items of a command code fail check 4. -/
theorem requestChecksComeInOrder : Obligations.RequestChecksComeInOrder := by
  refine ⟨fun i rq cmd s request => ?_, fun rq code xs s receives access unknown => ?_,
    fun i rq cmd code xs s wf request spells passes => ?_⟩
  · obtain ⟨body, asks⟩ := exec_of_request request s
    rw [asks]
    exact ⟨fun no => congrArg _ (arrive_of_not_receives s _ no), fun receives =>
      ⟨fun none => congrArg _ (ask_dropped body receives none),
        fun access low => congrArg _ (ask_denied body receives access low),
        fun level pending other => congrArg _ (ask_busy body receives level pending other),
        fun level free bad => congrArg _ (ask_badArgument body receives level free bad)⟩⟩
  · have refuses : arrive rq.port (admitRequest rq (meRequest rq code xs)) s
        = respond rq code (.refuse .badCommand) (s.got rq.port) := by
      rw [arrive_of_receives s _ receives]
      simp [admitRequest, access, meRequest, (commandOf_eq_none code).mpr unknown]
    exact congrArg Host.Outcome.next refuses
  · obtain ⟨cmd', request', known, -⟩ := exec_of_spelling spells
    rw [request] at request'; cases request'
    obtain ⟨receives, level, free, -⟩ := passes
    intro refused
    have refuses (ys : List Item) (bad : argsOk cmd ys = false) : refused ys :=
      (exec_badCommand_misspelled s rq code ys cmd known bad).trans
        (congrArg _ (ask_badArgument (rq := { rq with itemsOk := false }) _ receives level (.inl free) rfl))
    exact ⟨fun x extra => refuses _ (argsOk_extra wf request spells x extra), fun pre x post split =>
      ⟨fun required => refuses _ (argsOk_missing wf request spells split required),
        fun v missized => refuses _ (argsOk_missized wf request spells split missized)⟩⟩

end Sys2Proof.Machine
end

section
/-! The commands that leave every context record as it was. -/

namespace Sys2Proof.Machine

variable (s : State)

/-! ### Links (R117 to R132) -/

@[simp] theorem evaluate_contexts (k : LinkIx) (o : ProbeOutcome) : (evaluate k o s).contexts = s.contexts := by
  simp [evaluate]

@[simp] theorem loseOutstanding_contexts (k : LinkIx) : (loseOutstanding k s).contexts = s.contexts := by
  unfold loseOutstanding; split <;> simp

@[simp] theorem buildProbe_contexts (k : LinkIx) : (buildProbe k s).contexts = s.contexts := by
  simp only [buildProbe]; split <;> simp

@[simp] theorem probeTime_contexts (k : LinkIx) : (probeTime k s).contexts = s.contexts := by
  unfold probeTime
  split
  · rfl
  · rfl
  · split <;> simp

@[simp] theorem echoOf_contexts (k : LinkIx) (n : Num16) : (echoOf k n s).contexts = s.contexts := by
  simp only [echoOf]
  split
  · simp
  · split <;> simp

@[simp] theorem echoIn_contexts (port : Fin 4) (a n : Num16) : (echoIn port a n s).contexts = s.contexts := by
  unfold echoIn; split <;> simp

@[simp] theorem coldOnCarrierLoss_contexts (p : Port) : (coldOnCarrierLoss p s).contexts = s.contexts := by
  unfold coldOnCarrierLoss; split <;> rfl

@[simp] theorem carrierLost_contexts (port : Fin 4) (k : LinkIx) :
    (carrierLost port s k).contexts = s.contexts := by
  simp only [carrierLost]
  split
  · split <;> simp
  · rfl

@[simp] theorem shoreCarrierDown_contexts (port : Fin 4) : (shoreCarrierDown port s).contexts = s.contexts := by
  unfold shoreCarrierDown
  split
  · dsimp only
    split
    · rfl
    · rw [foldl_keeps (·.contexts) _ (carrierLost_contexts · port)]; simp
  · rfl

@[simp] theorem cellCarrierChange_contexts (port : Fin 4) (up : Bool) :
    (cellCarrierChange port up s).contexts = s.contexts := by
  simp only [cellCarrierChange]; split <;> simp

/-! ### Coverage, the clock and the queues (R18 to R24, R50, R51, R105, R111, R149, R157 to R168, R183) -/

@[simp] theorem holdJoin_contexts (e : UserEntry) : (holdJoin e s).contexts = s.contexts := by
  rcases holdJoin_cases s e with ⟨-, h⟩ | ⟨-, h⟩ <;> simp [h]

@[simp] theorem radioStatusIn_contexts (port : Fin 4) (src : Addr) (n : BitVec 16) :
    (radioStatusIn port src n s).contexts = s.contexts := by
  unfold radioStatusIn
  split
  · rfl
  · simp only [radioStatusOf]; split <;> simp

@[simp] theorem transmit_contexts (p : Port) (dst : Addr) (c : Carried) :
    (transmit p dst c s).contexts = s.contexts := rfl

@[simp] theorem holdDrainMove_contexts : (holdDrainMove s).contexts = s.contexts := by
  unfold holdDrainMove
  split
  · split
    · split <;> simp
    · rfl
  · rfl

@[simp] theorem epochBoundary_contexts : (epochBoundary s).contexts = s.contexts := by
  unfold epochBoundary
  split
  · rw [triggerMoment_contexts]; rfl
  · rfl

@[simp] theorem staleDeadline_contexts : (staleDeadline s).contexts = s.contexts := by
  unfold staleDeadline
  split
  · split <;> simp
  · rfl

@[simp] theorem lostDeadline_contexts : (lostDeadline s).contexts = s.contexts := by
  unfold lostDeadline
  split
  · split
    · simp [setCandidate]
    · rfl
  · rfl

@[simp] theorem graceExpiry_contexts : (graceExpiry s).contexts = s.contexts := by
  unfold graceExpiry
  split
  · rfl
  · split
    · dsimp only; split <;> simp
    · rfl

@[simp] theorem heartbeatTime_contexts : (heartbeatTime s).contexts = s.contexts := by
  unfold heartbeatTime; split <;> simp

@[simp] theorem livenessDeadline_contexts (r : RuIx) : (livenessDeadline r s).contexts = s.contexts := by
  simp only [livenessDeadline]
  split
  · split <;> simp
  · rfl

@[simp] theorem placeEndMarker_contexts (k : LinkIx) : (placeEndMarker k s).contexts = s.contexts := by
  unfold placeEndMarker; split <;> simp

@[simp] theorem usageFrameBuild_contexts : (usageFrameBuild s).contexts = s.contexts := by
  unfold usageFrameBuild
  split
  · dsimp only; split <;> simp
  · rfl

@[simp] theorem placeSummary_contexts (p : Num32) : (placeSummary p s).contexts = s.contexts := by
  rw [placeSummary_eq]; simp

@[simp] theorem periodSummary_contexts : (periodSummary s).contexts = s.contexts := by
  unfold periodSummary
  split
  · split <;> simp
  · rfl

@[simp] theorem resumeSweep_contexts : (resumeSweep s).contexts = s.contexts := by
  unfold resumeSweep; split <;> rfl

/-! ### Requests that only report (R36, R37, R60, R121, R169) -/

@[simp] theorem findContext_contexts (b : Num32) : (findContext b s).2.contexts = s.contexts := by
  unfold findContext
  split
  · rfl
  · split <;> rfl

@[simp] theorem readContext_contexts (n : Num16) : (readContext n s).2.contexts = s.contexts := by
  unfold readContext; split <;> rfl

@[simp] theorem readZone_contexts (n : Byte) : (readZone n s).2.contexts = s.contexts := by
  unfold readZone
  split
  · rfl
  · split <;> rfl

@[simp] theorem readLink_contexts (n : Byte) : (readLink n s).2.contexts = s.contexts := by
  unfold readLink; split <;> rfl

@[simp] theorem readRadioUnit_contexts (n : Byte) : (readRadioUnit n s).2.contexts = s.contexts := by
  unfold readRadioUnit; split <;> rfl

/-! ### Position and zones (R46 to R64, R75) -/

@[simp] theorem setCandidate_contexts (c : Option ZoneIx) (n : Nat) :
    (setCandidate c n s).contexts = s.contexts := rfl

@[simp] theorem zoneFault_contexts (a : Nat) (x : Int) : (zoneFault a x s).contexts = s.contexts := by
  unfold zoneFault
  split
  · split <;> simp
  · rfl

@[simp] theorem confirm_contexts (c : ZoneIx) : (confirm c s).contexts = s.contexts := by
  unfold confirm
  split
  · rfl
  · split <;> simp

@[simp] theorem enterAtOnce_contexts (c : ZoneIx) : (enterAtOnce c s).contexts = s.contexts := by
  unfold enterAtOnce; split <;> simp

@[simp] theorem setWaypoint_contexts (i : WaypointId) (w : Waypoint) :
    (s.setWaypoint i w).contexts = s.contexts := by cases i <;> rfl

@[simp] theorem testWaypoint_contexts (i : WaypointId) (before after : Nat) :
    (testWaypoint i before after s).contexts = s.contexts := by
  simp only [testWaypoint]
  split
  · split <;> simp
  · rfl

@[simp] theorem acceptReport_contexts (a : Nat) (x : Int) (q : Quality) (fix : Time) :
    (acceptReport a x q fix s).contexts = s.contexts := by
  simp only [acceptReport]
  split <;> simp [acceptPosition]

@[simp] theorem positionReport_contexts (a : PositionArgs) : (positionReport a s).2.contexts = s.contexts := by
  unfold positionReport
  split
  · split
    · rfl
    · dsimp only [takeReport]
      split
      · rfl
      · split <;> simp
  · rfl

@[simp] theorem writeZone_contexts (a : ZoneArgs) : (writeZone a s).2.contexts = s.contexts := by
  unfold writeZone
  split
  · split <;> rfl
  · rfl

@[simp] theorem reloadZone_contexts : (reloadZone s).2.contexts = s.contexts := by
  unfold reloadZone; split <;> simp

@[simp] theorem armWaypoint_contexts (a : WaypointArgs) : (armWaypoint a s).2.contexts = s.contexts := by
  unfold armWaypoint
  split
  · split <;> simp
  · rfl

@[simp] theorem disarmWaypoint_contexts (c : Byte) : (disarmWaypoint c s).2.contexts = s.contexts := by
  unfold disarmWaypoint; split <;> simp

@[simp] theorem openAttach_contexts : (openAttach s).2.contexts = s.contexts := by
  unfold openAttach; split <;> simp

/-! ### Links, steering, radio units and settings (R108, R119, R139 to R143, R164, R167, R175, R181, R182) -/

@[simp] theorem closePeriod_contexts : (closePeriod s).2.contexts = s.contexts := by
  unfold closePeriod; split <;> rfl

@[simp] theorem writeLink_contexts (a : LinkArgs) : (writeLink a s).2.contexts = s.contexts := by
  unfold writeLink; split <;> simp

@[simp] theorem steerIf_recoveryTest_contexts (b : Bool) : (steerIf b recoveryTest s).contexts = s.contexts :=
  steerIf_keeps s (·.contexts) _ _ (fun g w s => csHandover_contexts s g w) (recoveryTest_contexts s)

@[simp] theorem stageLink_contexts (k t : Byte) : (stageLink k t s).2.contexts = s.contexts := by
  unfold stageLink
  split
  · split <;> simp [writeStage]
  · rfl

@[simp] theorem cancelStage_contexts : (cancelStage s).2.contexts = s.contexts := by
  unfold cancelStage; split <;> rfl

@[simp] theorem setFailoverOrder_contexts (order : List Byte) :
    (setFailoverOrder order s).2.contexts = s.contexts := by
  unfold setFailoverOrder
  split
  · rfl
  · split <;> simp

@[simp] theorem writeRadioUnit_contexts (a : RuArgs) : (writeRadioUnit a s).2.contexts = s.contexts := by
  unfold writeRadioUnit; split <;> rfl

@[simp] theorem setFloor_contexts (f : Byte) : (setFloor f s).2.contexts = s.contexts := by
  unfold setFloor; split <;> rfl

@[simp] theorem configure_contexts (a : ConfigureArgs) : (configure a s).2.contexts = s.contexts := by
  simp only [configure]
  split
  · rfl
  · split <;> rfl

@[simp] theorem clearEvents_contexts (kinds : List Byte) : (clearEvents kinds s).2.contexts = s.contexts := by
  unfold clearEvents
  split
  · rfl
  · split <;> rfl

@[simp] theorem resetWarm_contexts : (resetWarm s).2.contexts = s.contexts := warmReset_contexts s

@[simp] theorem reset_contexts (p : Port) (kind : Byte) : (reset p kind s).2.contexts = s.contexts := by
  unfold reset
  split
  · rfl
  · exact resetWarm_contexts s
  · rfl

end Sys2Proof.Machine
end

section
/-! FREE records and bearer IDs (R26, R28): a record keeps its bearer ID while it is held, a FREE one stays as it
is, and only Create Context, a release and the draining of a CLOSING context go from one to the other. -/

namespace Sys2Proof.Machine

/-! ### A record that follows another -/

/-- What every change but a creation and a release makes of a record `c`: a FREE one stays as it is, one that is
held keeps its bearer ID, and a class stays a class. -/
structure Context.Follows (c d : Context) : Prop where
  free : c.state = .free → d = c
  held : c.state ≠ .free → d.state ≠ .free ∧ d.bearerId = c.bearerId
  cls : c.cls ≠ 0 → d.cls ≠ 0

theorem Context.Follows.refl (c : Context) : c.Follows c := ⟨fun _ => rfl, fun h => ⟨h, rfl⟩, id⟩

theorem Context.Follows.trans {c d e : Context} (h : c.Follows d) (g : d.Follows e) : c.Follows e where
  free hc := by have := h.free hc; subst this; exact g.free hc
  held hc := by
    obtain ⟨hd, bearer⟩ := h.held hc
    obtain ⟨he, bearer'⟩ := g.held hd
    exact ⟨he, bearer'.trans bearer⟩
  cls := g.cls ∘ h.cls

/-- A held record changed in neither state, bearer ID nor class. -/
theorem Context.Follows.of_held {c d : Context} (held : c.state ≠ .free) (state : d.state = c.state)
    (bearer : d.bearerId = c.bearerId) (cls : d.cls = c.cls) : c.Follows d :=
  ⟨fun h => absurd h held, fun h => ⟨state ▸ h, bearer⟩, fun h => cls ▸ h⟩

/-- From `s` to `t` every context follows. -/
def ContextsFollow (s t : State) : Prop := ∀ i, (s.ctx i).Follows (t.ctx i)

theorem ContextsFollow.refl (s : State) : ContextsFollow s s := fun _ => .refl _

theorem ContextsFollow.trans {s t u : State} (h : ContextsFollow s t) (g : ContextsFollow t u) :
    ContextsFollow s u := fun i => (h i).trans (g i)

/-- A change that keeps the contexts after one of other things. -/
theorem ContextsFollow.after {s t u : State} (g : ContextsFollow t u) (h : ContextsFollow s t) :
    ContextsFollow s u := h.trans g

theorem ctx_of_contexts {s t : State} (h : t.contexts = s.contexts) (i : CtxIx) : t.ctx i = s.ctx i := by
  rw [State.ctx, h]; rfl

theorem ContextsFollow.of_contexts {s t : State} (h : t.contexts = s.contexts) : ContextsFollow s t := fun i => by
  rw [ctx_of_contexts h i]; exact .refl _

/-- One record written with one that follows it. -/
theorem ContextsFollow.of_setCtx {s : State} {i : CtxIx} {c : Context} (h : (s.ctx i).Follows c) :
    ContextsFollow s (s.setCtx i c) := fun j => by
  rw [State.setCtx_ctx]
  split
  · next e => subst e; exact h
  · exact .refl _

/-- A held context stays held. -/
theorem ContextsFollow.held {s t : State} (h : ContextsFollow s t) {i : CtxIx} (hi : (s.ctx i).state ≠ .free) :
    (t.ctx i).state ≠ .free := ((h i).held hi).1

/-! ### FREE records and bearer IDs kept -/

/-- From `s` to `t` FREE records stay clear and bearer IDs distinct. -/
def BearersKept (s t : State) : Prop := BearersDistinct s → BearersDistinct t

theorem BearersKept.refl (s : State) : BearersKept s s := id

theorem BearersKept.trans {s t u : State} (h : BearersKept s t) (g : BearersKept t u) : BearersKept s u := g ∘ h

theorem BearersKept.after {s t u : State} (g : BearersKept t u) (h : BearersKept s t) : BearersKept s u := g ∘ h

theorem ContextsFollow.bearersKept {s t : State} (h : ContextsFollow s t) : BearersKept s t := by
  rintro ⟨free, held, distinct⟩
  have back : ∀ i, (t.ctx i).state ≠ .free → (s.ctx i).state ≠ .free := fun i ht hs =>
    ht ((h i).free hs ▸ hs)
  have stays : ∀ i, (t.ctx i).state = .free → (s.ctx i).state = .free := fun i ht =>
    by_contra fun hs => ((h i).held hs).1 ht
  refine ⟨fun i ht => ?_, fun i ht => ?_, fun i j hi hj e => ?_⟩
  · rw [(h i).free (stays i ht)]; exact free i (stays i ht)
  · obtain ⟨bearer, cls⟩ := held i (back i ht)
    exact ⟨((h i).held (back i ht)).2 ▸ bearer, (h i).cls cls⟩
  · rw [((h i).held (back i hi)).2, ((h j).held (back j hj)).2] at e
    exact distinct i j (back i hi) (back j hj) e

theorem BearersKept.of_contexts {s t : State} (h : t.contexts = s.contexts) : BearersKept s t :=
  (ContextsFollow.of_contexts h).bearersKept

/-- A context becomes FREE (R40). -/
theorem bearersKept_setCtx_free (s : State) (i : CtxIx) (n : Num16) :
    BearersKept s (s.setCtx i (Context.freeAt n)) := by
  rintro ⟨free, held, distinct⟩
  have other : ∀ j, ((s.setCtx i (Context.freeAt n)).ctx j).state ≠ .free →
      (s.setCtx i (Context.freeAt n)).ctx j = s.ctx j := fun j hj => by
    rw [State.setCtx_ctx] at hj ⊢
    split at hj
    · exact absurd rfl hj
    · next ne => exact if_neg ne
  refine ⟨fun j hj => ?_, fun j hj => ?_, fun j k hj hk e => ?_⟩
  · rw [State.setCtx_ctx] at hj ⊢
    split at hj
    · next e => rw [if_pos e]; rfl
    · next ne => rw [if_neg ne]; exact free j hj
  · have same := other j hj
    rw [same] at hj ⊢; exact held j hj
  · rw [other j hj, other k hk] at e
    exact distinct j k (other j hj ▸ hj) (other k hk ▸ hk) e

/-- A FREE context takes a bearer ID that no other holds (R28). -/
theorem bearersKept_setCtx_new (s : State) (i : CtxIx) (c : Context) (held : c.state ≠ .free) (bearer : c.bearerId ≠ 0)
    (cls : c.cls ≠ 0) (new : ∀ j, (s.ctx j).state ≠ .free → (s.ctx j).bearerId ≠ c.bearerId) :
    BearersKept s (s.setCtx i c) := by
  rintro ⟨free, old, distinct⟩
  refine ⟨fun j hj => ?_, fun j hj => ?_, fun j k hj hk e => ?_⟩
  · rw [State.setCtx_ctx] at hj ⊢
    split at hj
    · exact absurd hj held
    · next ne => rw [if_neg ne]; exact free j hj
  · rw [State.setCtx_ctx] at hj ⊢
    split at hj
    · next e => rw [if_pos e]; exact ⟨bearer, cls⟩
    · next ne => rw [if_neg ne]; exact old j hj
  · rw [State.setCtx_ctx] at hj hk
    rw [State.setCtx_ctx, State.setCtx_ctx] at e
    rcases eq_or_ne i j with ij | ij <;> rcases eq_or_ne i k with ik | ik
    · exact ij.symm.trans ik
    · rw [if_pos ij, if_neg ik] at e; rw [if_neg ik] at hk
      exact absurd e.symm (new k hk)
    · rw [if_neg ij, if_pos ik] at e; rw [if_neg ij] at hj
      exact absurd e (new j hj)
    · rw [if_neg ij, if_neg ik] at e; rw [if_neg ij] at hj; rw [if_neg ik] at hk
      exact distinct j k hj hk e

end Sys2Proof.Machine
end

section
/-! The steps and requests that change context records keep FREE records clear and bearer IDs distinct (R29 to
R41, R68 to R70, R80 to R102, R109). -/

namespace Sys2Proof.Machine

/-! ### Metering (R70, R80 to R92) -/

section
variable (s : State) {i : CtxIx}

theorem follow_barringFailure (held : (s.ctx i).state ≠ .free) : ContextsFollow s (barringFailure i s) := by
  rcases barringFailure_cases s i with ⟨-, e⟩ | ⟨-, e⟩ <;> rw [e]
  · exact .refl s
  · exact ContextsFollow.after (.of_contexts (sendBearerNotice_contexts _ _ _ _)) (.of_setCtx (.of_held held rfl rfl rfl))

theorem follow_exhaust (held : (s.ctx i).state ≠ .free) : ContextsFollow s (exhaust i s) := by
  refine ContextsFollow.after (.of_contexts ?_)
    (.of_setCtx (c := { s.ctx i with exhausted := true }) (.of_held held rfl rfl rfl))
  simp [exhaust]

theorem follow_lowTest (held : (s.ctx i).state ≠ .free) : ContextsFollow s (lowTest i s) := by
  simp only [lowTest]
  split
  · refine ContextsFollow.after (.of_contexts ?_)
      (.of_setCtx (c := { s.ctx i with low := true }) (.of_held held rfl rfl rfl))
    simp
  · exact .refl s

theorem follow_exhaustedTest (held : (s.ctx i).state ≠ .free) : ContextsFollow s (exhaustedTest i s) := by
  unfold exhaustedTest
  split
  · exact follow_exhaust s held
  · exact .refl s

theorem follow_testsAfter (held : (s.ctx i).state ≠ .free) : ContextsFollow s (testsAfter i s) := by
  unfold testsAfter
  split
  · have tested := follow_exhaustedTest s held
    exact (follow_lowTest _ (tested.held held)).after tested
  · exact .refl s

theorem follow_applyCharge (held : (s.ctx i).state ≠ .free) (d : Dir) (n : Nat) (ch : Charge) :
    ContextsFollow s (applyCharge i d n ch s) := by
  have applied : ContextsFollow s (s.setCtx i ((s.ctx i).apply ch)) := .of_setCtx (.of_held held rfl rfl rfl)
  have tested := (follow_testsAfter _ (applied.held held)).after applied
  exact ContextsFollow.after (.of_setCtx (.of_held (tested.held held) rfl rfl rfl)) tested

theorem follow_dropOpen (held : (s.ctx i).state ≠ .free) : ContextsFollow s (dropOpen i s) :=
  .of_setCtx (.of_held held rfl rfl rfl)

theorem follow_toAwaiting (held : (s.ctx i).state ≠ .free) (r : Record) : ContextsFollow s (toAwaiting i r s) :=
  ContextsFollow.after (.of_contexts rfl)
    (.of_setCtx (c := { s.ctx i with awaiting := some r }) (.of_held held rfl rfl rfl))

theorem follow_openInterval (held : (s.ctx i).state ≠ .free) : ContextsFollow s (openInterval i s) :=
  .of_setCtx (.of_held held rfl rfl rfl)

variable {s}

theorem follow_closeInterval {t : State} {iv : Interval} (held : (s.ctx i).state ≠ .free)
    (h : closeInterval i iv s = some t) : ContextsFollow s t := by
  have opened := follow_dropOpen s held
  rcases closeInterval_cases s i iv with ⟨-, -, e⟩ | ⟨-, -, e⟩ | ⟨-, -, e⟩ <;> rw [e] at h <;> cases h
  · exact ContextsFollow.after (.of_contexts rfl) opened
  · exact (follow_toAwaiting _ (opened.held held) _).after opened

theorem follow_keyStep {t : State} (held : (s.ctx i).state ≠ .free) (h : keyStep i s = some t) :
    ContextsFollow s t := by
  unfold keyStep at h
  split at h
  · cases h; exact follow_openInterval s held
  · split at h
    · cases h; exact .refl s
    · split at h
      · cases h
      · next u closed =>
        cases h
        have closed := follow_closeInterval held closed
        exact (follow_openInterval _ (closed.held held)).after closed

end

/-- A frame that passes the checks of R80 as a BEARER frame is of an ACTIVE context. -/
theorem active_of_meterCheck {s : State} {e : UserEntry} (kind : e.frame.kind = .bearer)
    (h : meterCheck s e = none ∨ meterCheck s e = some .roamBarred) : (s.ctx e.ctx).state = .active := by
  by_contra inactive
  simp only [meterCheck, kind, bne_iff_ne, ne_eq, inactive, not_false_eq_true, if_true] at h
  split at h <;> simp at h

/-- A barring failure at metering is of a BEARER frame (R80). -/
theorem bearer_of_roamBarred {s : State} {e : UserEntry} (h : meterCheck s e = some .roamBarred) :
    e.frame.kind = .bearer := by
  cases kind : e.frame.kind with
  | bearer => rfl
  | signal =>
    simp only [meterCheck, kind] at h
    split at h
    · simp at h
    · split at h <;> simp at h

theorem follow_meterBearer (s : State) (e : UserEntry) (d : Dir) (m : Multiplier)
    (held : (s.ctx e.ctx).state ≠ .free) : ContextsFollow s (meterBearer e d m s).2 := by
  unfold meterBearer
  split
  · exact .of_contexts (raise_contexts s _ _)
  · next t key =>
    have keyed := follow_keyStep held key
    refine ContextsFollow.after ?_ keyed
    dsimp only
    split
    · exact follow_exhaust t (keyed.held held)
    · exact follow_applyCharge t (keyed.held held) _ _ _

theorem follow_meter (s : State) (e : UserEntry) (d : Dir) (m : Multiplier) :
    ContextsFollow s (meter e d m s).2 := by
  have held (kind : e.frame.kind = .bearer) (h : meterCheck s e = none ∨ meterCheck s e = some .roamBarred) :
      (s.ctx e.ctx).state ≠ .free := by rw [active_of_meterCheck kind h]; decide
  unfold meter
  split
  · next barred => exact follow_barringFailure s (held (bearer_of_roamBarred barred) (.inr barred))
  · exact .refl s
  · next passed =>
    split
    · exact .refl s
    · next kind => exact follow_meterBearer s e d m (held kind (.inl passed))

/-! ### The traffic path (R8 to R18, R41, R68) -/

@[simp] theorem routeUplink_contexts (s : State) (e : UserEntry) : (routeUplink e s).contexts = s.contexts := by
  unfold routeUplink
  split
  · split <;> simp
  · simp

@[simp] theorem routeDownlink_contexts (s : State) (e : UserEntry) (m : Multiplier) :
    (routeDownlink e m s).contexts = s.contexts := by
  simp only [routeDownlink]
  split
  · split <;> simp
  · simp

theorem follow_carry (s : State) (src : Source) (i : CtxIx) (f : BearerFrame) (held : (s.ctx i).state ≠ .free) :
    ContextsFollow s (carry src i f s) := by
  cases src with
  | uplink r =>
    have followed : ContextsFollow s (followRu i r s) := .of_setCtx (.of_held held rfl rfl rfl)
    exact ContextsFollow.after (.of_contexts (routeUplink_contexts _ _)) followed
  | downlink m => exact .of_contexts (routeDownlink_contexts _ _ _)

/-- A context found by its bearer ID is not FREE (R8). -/
theorem held_of_lookupBearer {cs : Vector Context 4096} {b : Num32} {i : CtxIx} (h : lookupBearer cs b = some i) :
    cs[i].state ≠ .free := by
  have found := ((firstFin_eq_some _ _).mp h).1
  simp only [Bool.and_eq_true, bne_iff_ne] at found
  exact found.1

theorem follow_admitFrame (s : State) (src : Source) (f : BearerFrame) :
    ContextsFollow s (admitFrame src f s) := by
  unfold admitFrame
  split
  · exact .of_contexts rfl
  · next i found =>
    have held : (s.ctx i).state ≠ .free := held_of_lookupBearer found
    split
    · exact follow_barringFailure (drop .roamBarred src.dir s) held
    · exact .of_contexts rfl
    · have carried := follow_carry s src i f held
      refine carried.trans ?_
      unfold signalFailure
      split
      · split
        · exact follow_barringFailure _ (carried.held held)
        · exact .refl _
      · exact .refl _

theorem follow_bearerIn (s : State) (port : Fin 4) (src : Addr) (f : BearerFrame) :
    ContextsFollow s (bearerIn port src f s) := by
  unfold bearerIn
  split
  · exact .of_contexts rfl
  · split
    · exact .of_contexts rfl
    · exact follow_admitFrame s _ f

theorem follow_linkFrameIn (s : State) (port : Fin 4) (a : Num16) (f : BearerFrame) :
    ContextsFollow s (linkFrameIn port a f s) := by
  unfold linkFrameIn
  split
  · exact .of_contexts rfl
  · split
    · exact .of_contexts rfl
    · exact follow_admitFrame s _ f

theorem follow_offerSelected (s : State) (p : Port) (e : EntryBody) : ContextsFollow s (offerSelected p e s) := by
  unfold offerSelected
  split
  · exact .of_contexts rfl
  · next u k =>
    have metered := follow_meter s u .uplink (transmissionMultiplier s (.up u k))
    split
    · next h => rw [h] at metered; exact metered.trans (.of_contexts rfl)
    · next h => rw [h] at metered; exact metered.trans (.of_contexts rfl)
  · next u m dst =>
    have metered := follow_meter s u .downlink (transmissionMultiplier s (.down u m dst))
    split
    · next h => rw [h] at metered; exact metered.trans (.of_contexts rfl)
    · next h => rw [h] at metered; exact metered.trans (.of_contexts rfl)

theorem follow_entrySelection (s : State) (p : Port) : ContextsFollow s (entrySelection p s) := by
  unfold entrySelection
  split
  · split
    · exact ContextsFollow.after (follow_offerSelected _ p _) (.of_contexts rfl)
    · exact .refl s
  · exact .refl s

/-! ### Usage records (R102, R104, R106, R109) -/

/-- An awaiting interval that enters the URQ leaves a held context held, or FREE where it was CLOSING (R102). -/
theorem bearersKept_enterAwaiting (s : State) (i : CtxIx) : BearersKept s (enterAwaiting s i) := by
  intro h
  cases ha : (s.ctx i).awaiting with
  | none => rw [enterAwaiting_none ha]; exact h
  | some r =>
    have held : (s.ctx i).state ≠ .free := fun free => by
      have clear := congrArg Context.awaiting (h.1 i free)
      rw [ha] at clear; cases clear
    rw [enterAwaiting_some ha]
    refine BearersKept.after (.of_contexts (urqEnter_contexts _ r)) ?_ h
    split
    · exact bearersKept_setCtx_free s i _
    · exact (ContextsFollow.of_setCtx (c := { s.ctx i with awaiting := none })
        (.of_held held rfl rfl rfl)).bearersKept

theorem bearersKept_drainAwaiting (n : Nat) (s : State) : BearersKept s (drainAwaiting n s) := by
  intro h
  rw [drainAwaiting_eq]
  exact List.foldlRecOn _ enterAwaiting (motive := BearersDistinct) h fun u hu i _ => bearersKept_enterAwaiting u i hu

theorem bearersKept_usageCompleted (s : State) : BearersKept s (usageCompleted s) := by
  unfold usageCompleted
  split
  · exact .refl s
  · refine BearersKept.after (.of_contexts (resumeSweep_contexts _)) ?_
    unfold giveOut
    split
    · exact (bearersKept_drainAwaiting _ _).after (.of_contexts (placeSummary_contexts _ _))
    · exact (bearersKept_drainAwaiting _ _).after (.of_contexts rfl)

theorem bearersKept_transmissionCompletion (s : State) (p : Port) :
    BearersKept s (transmissionCompletion p s) := by
  unfold transmissionCompletion
  split
  · exact .refl s
  · have freed : BearersKept s
        (s.setPort p { s.port p with sending := none, transmitted := (s.port p).transmitted + 1 }) := .of_contexts rfl
    refine freed.trans ?_
    unfold reportCompletion
    split
    · exact bearersKept_usageCompleted _
    · exact .of_contexts rfl
    · exact .of_contexts rfl
    · exact .refl _

/-- The sweep closes the open interval of a context, which is none that is FREE (R109). -/
theorem bearersKept_visit (s : State) : BearersKept s (visit s) := by
  intro h
  unfold visit
  split
  · exact h
  · next i _ =>
    split
    · exact h
    · next iv closing =>
      have held : (s.ctx i).state ≠ .free := fun free => by
        have clear := congrArg Context.openIv (h.1 i free)
        simp [closingInterval, clear, Context.freeAt] at closing
      split
      · exact (follow_dropOpen s held).bearersKept h
      · exact h

theorem bearersKept_sweepVisit (s : State) : BearersKept s (sweepVisit s) := by
  have resumed : BearersKept s (resumeSweep s) := .of_contexts (resumeSweep_contexts s)
  simp only [sweepVisit]
  split
  · exact (bearersKept_visit _).after resumed
  · exact resumed

end Sys2Proof.Machine
end

section
/-! What a Create Context reads of its arguments (R30). -/

namespace Sys2Proof.Machine

theorem readClass_iff (b : Byte) (c : Floor) : readClass b = some c ↔ b.toNat = c.val ∧ c ≠ 0 := by
  unfold readClass
  split
  · next zero =>
    refine ⟨fun h => (by cases h), fun ⟨eq, ne⟩ => absurd (Fin.ext ?_) ne⟩
    rw [← eq, zero]; rfl
  · next pos =>
    rw [inRange_eq_some]
    refine ⟨fun eq => ⟨eq, fun zero => pos ?_⟩, And.left⟩
    rw [eq, zero]; rfl

theorem readAccount_iff (b : Byte) (x : Account) : readAccount b = some x ↔ b.toNat = x.code := by
  unfold readAccount
  rcases h : b.toNat with _ | _ | n <;> cases x <;> simp [Account.code]

theorem readLimitMode_iff (b : Byte) (x : LimitMode) : readLimitMode b = some x ↔ b.toNat = x.code := by
  unfold readLimitMode
  rcases h : b.toNat with _ | _ | n <;> cases x <;> simp [LimitMode.code]

/-- The limit mode is read for PREPAID, and STOP_BEFORE for POSTPAID (R30, R31). -/
theorem createMode_iff (x : Account) (b : Byte) (m : LimitMode) : createMode x b = some m ↔
    (x = .prepaid → b.toNat = m.code) ∧ (x = .postpaid → m = .stopBefore) := by
  cases x with
  | prepaid => simp [createMode, readLimitMode_iff]
  | postpaid => simp [createMode, eq_comm]

/-- The values that pass check 1 of R30 are those given, each within its range. -/
theorem createValues_iff (a : CreateArgs) (v : CreateValues) : createValues a = some v ↔
    a.bearerId ≠ 0 ∧ a.roamSet.length ≤ 15 ∧ (a.cls.toNat = v.cls.val ∧ v.cls ≠ 0) ∧ a.plan.toNat = v.plan.val
    ∧ a.homeRealm.toNat = v.homeRealm.val ∧ readRoamSet a.roamSet = some v.roamSet
    ∧ a.servingRu.toNat = v.servingRu.val ∧ a.account.toNat = v.account.code
    ∧ (v.account = .prepaid → a.limitMode.toNat = v.limitMode.code)
    ∧ (v.account = .postpaid → v.limitMode = .stopBefore) := by
  rw [← readClass_iff, ← inRange_eq_some, ← inRange_eq_some, ← inRange_eq_some, ← readAccount_iff, ← createMode_iff]
  obtain ⟨cls, plan, home, roam, ru, account, mode⟩ := v
  unfold createValues
  split
  · next bad =>
    refine ⟨fun h => (by cases h), fun ⟨bearer, size, _⟩ => ?_⟩
    rcases bad with zero | long
    · exact absurd zero bearer
    · omega
  · next good =>
    rw [not_or, not_lt] at good
    simp only [good.1, good.2, ne_eq, not_false_eq_true, true_and]
    split
    · next cls' plan' home' roam' ru' account' h1 h2 h3 h4 h5 h6 =>
      rw [h1, h2, h3, h4, h5, h6]
      simp only [Option.some.injEq]
      constructor
      · intro h
        split at h
        · next mode => cases h; exact ⟨rfl, rfl, rfl, rfl, rfl, rfl, mode⟩
        · cases h
      · rintro ⟨rfl, rfl, rfl, rfl, rfl, rfl, mode⟩
        rw [mode]
    · next no =>
      refine ⟨fun h => (by cases h), fun ⟨h1, h2, h3, h4, h5, h6, _⟩ => ?_⟩
      exact (no _ _ _ _ _ _ h1 h2 h3 h4 h5 h6).elim

/-- No context holds a bearer ID that is not found (R8). -/
theorem lookupBearer_eq_none (s : State) (b : Num32) :
    lookupBearer s.contexts b = none ↔ ∀ j, (s.ctx j).state ≠ .free → (s.ctx j).bearerId ≠ b := by
  rw [lookupBearer, firstFin_eq_none]
  refine forall_congr' fun j => ?_
  change ((s.ctx j).state != .free && (s.ctx j).bearerId == b) = false ↔ _
  simp

end Sys2Proof.Machine
end

section
/-! FREE records and bearer IDs over every request, command and step (R26, R28). -/

namespace Sys2Proof.Machine

/-! ### Requests that change context records (R29 to R38, R93) -/

/-- A request that names a context keeps the bearers when its own rule does on a held one (R29). -/
theorem bearersKept_named (n : CtxName) (f : CtxIx → Context → State → Reply × State) (s : State)
    (h : ∀ i, (s.ctx i).state ≠ .free → BearersKept s (f i (s.ctx i) s).2) : BearersKept s (named n f s).2 := by
  rcases named_cases s n f with ⟨-, e⟩ | ⟨i, -, ⟨-, e⟩ | ⟨⟨-, held, -⟩, e⟩⟩ <;> rw [e]
  · exact .refl s
  · exact .refl s
  · exact h i held

/-- A Create Context is refused with nothing changed, or sets up the FREE context of lowest index (R30, R31). -/
theorem createContext_cases (a : CreateArgs) (s : State) :
    (createContext a s).2 = s
    ∨ ∃ v i, createValues a = some v ∧ lookupBearer s.contexts a.bearerId = none
        ∧ (createContext a s).2 = s.setCtx i (newContext ((s.ctx i).incarnation + 1) s.zu.gen a v) := by
  unfold createContext
  split
  · exact .inl rfl
  · next v values =>
    split
    · exact .inl rfl
    split
    · exact .inl rfl
    split
    · exact .inl rfl
    · next unknown =>
      split
      · exact .inl rfl
      split
      · exact .inl rfl
      · next i _ => exact .inr ⟨v, i, values, by simpa using unknown, rfl⟩

theorem bearersKept_createContext (a : CreateArgs) (s : State) : BearersKept s (createContext a s).2 := by
  rcases createContext_cases a s with e | ⟨v, i, values, unknown, e⟩ <;> rw [e]
  · exact .refl s
  · obtain ⟨bearer, -, ⟨-, cls⟩, -⟩ := (createValues_iff a v).mp values
    exact bearersKept_setCtx_new s i _ (by simp [newContext]) bearer cls ((lookupBearer_eq_none s _).mp unknown)

/-- A class given in a Modify Context is a class (R32). -/
theorem modify_cls_ne_zero {a : ModifyArgs} {v : ModifyValues} (values : modifyValues a = some v) (c : Context)
    (t : Option Nat) (h : c.cls ≠ 0) : (c.modify v t).cls ≠ 0 := by
  obtain ⟨listed, cls, -⟩ := (modifyValues_iff a v).mp values
  show v.cls.getD c.cls ≠ 0
  cases given : v.cls with
  | none => exact h
  | some x =>
    rintro rfl
    rw [given] at cls
    obtain ⟨b, hb, zero⟩ := Option.map_eq_some_iff.mp cls.symm
    exact listed (.inl ⟨b, hb, .inl zero⟩)

theorem follow_modifyNamed (a : ModifyArgs) (s : State) (i : CtxIx) (held : (s.ctx i).state ≠ .free) :
    ContextsFollow s (modifyNamed a i (s.ctx i) s).2 := by
  simp only [modifyNamed]
  split
  · exact .refl s
  split
  · exact .refl s
  split
  · exact .refl s
  next v values =>
  split
  · exact .refl s
  split
  · exact .of_contexts (raise_contexts s _ _)
  · next t closed =>
    have kept : ContextsFollow s t := by
      unfold closeForPlan at closed
      split at closed
      · cases closed; exact .refl s
      · exact follow_closeInterval held closed
    exact kept.trans (.of_setCtx
      ⟨fun free => absurd free (kept.held held), fun h => ⟨h, rfl⟩, modify_cls_ne_zero values _ _⟩)

theorem follow_suspendNamed (s : State) (i : CtxIx) (held : (s.ctx i).state ≠ .free) :
    ContextsFollow s (suspendNamed i (s.ctx i) s).2 := by
  simp only [suspendNamed]
  split
  · exact .refl s
  · refine ContextsFollow.after (.of_contexts (sendBearerNotice_contexts _ _ _ _)) (.of_setCtx ?_)
    exact ⟨fun free => absurd free held, fun _ => ⟨nofun, rfl⟩, id⟩

theorem follow_resumeNamed (s : State) (i : CtxIx) (held : (s.ctx i).state ≠ .free) :
    ContextsFollow s (resumeNamed i (s.ctx i) s).2 := by
  simp only [resumeNamed]
  split
  · exact .refl s
  · refine ContextsFollow.after (.of_contexts (sendBearerNotice_contexts _ _ _ _)) (.of_setCtx ?_)
    exact ⟨fun free => absurd free held, fun _ => ⟨nofun, rfl⟩, id⟩

theorem follow_topUpNamed (money : BitVec 64) (allowance : BitVec 32) (s : State) (i : CtxIx)
    (held : (s.ctx i).state ≠ .free) : ContextsFollow s (topUpNamed money allowance i (s.ctx i) s).2 := by
  simp only [topUpNamed]
  split
  · exact .refl s
  split
  · exact .refl s
  split
  · exact .refl s
  split
  · exact .refl s
  split
  · exact .refl s
  split
  · exact .refl s
  · exact .of_setCtx (.of_held held rfl rfl rfl)

/-- A release makes the context FREE, or CLOSING with its bearer ID (R38, R40). -/
theorem bearersKept_placeFinal (s : State) (i : CtxIx) (held : (s.ctx i).state ≠ .free) :
    BearersKept s (placeFinal i s) := by
  unfold placeFinal
  split
  · exact (bearersKept_setCtx_free _ i _).after (.of_contexts (urqEnter_contexts s _))
  · have awaits := follow_toAwaiting s held (finalRecord i s)
    refine (awaits.trans (.of_setCtx ?_)).bearersKept
    exact ⟨fun free => absurd free (awaits.held held), fun _ => ⟨nofun, rfl⟩, id⟩

theorem bearersKept_releaseNamed (s : State) (i : CtxIx) (held : (s.ctx i).state ≠ .free) :
    BearersKept s (releaseNamed i (s.ctx i) s).2 := by
  simp only [releaseNamed]
  split
  · exact .refl s
  split
  · exact .of_contexts (raise_contexts s _ _)
  · exact BearersKept.after (.of_contexts (sendBearerNotice_contexts _ _ _ _)) (bearersKept_placeFinal s i held)

theorem bearersKept_modifyContext (n : CtxName) (a : ModifyArgs) (s : State) :
    BearersKept s (modifyContext n a s).2 :=
  bearersKept_named n _ s fun i held => (follow_modifyNamed a s i held).bearersKept

theorem bearersKept_suspendContext (n : CtxName) (s : State) : BearersKept s (suspendContext n s).2 :=
  bearersKept_named n _ s fun i held => (follow_suspendNamed s i held).bearersKept

theorem bearersKept_resumeContext (n : CtxName) (s : State) : BearersKept s (resumeContext n s).2 :=
  bearersKept_named n _ s fun i held => (follow_resumeNamed s i held).bearersKept

theorem bearersKept_topUp (n : CtxName) (money : BitVec 64) (allowance : BitVec 32) (s : State) :
    BearersKept s (topUp n money allowance s).2 :=
  bearersKept_named n _ s fun i held => (follow_topUpNamed money allowance s i held).bearersKept

theorem bearersKept_releaseContext (n : CtxName) (s : State) : BearersKept s (releaseContext n s).2 :=
  bearersKept_named n _ s fun i held => bearersKept_releaseNamed s i held

/-- Every command that a code can name keeps the bearers. -/
theorem bearersKept_bodyOf (p : Port) (xs : List Item) (cmd : Command) (s : State) :
    BearersKept s (bodyOf p xs cmd s).2 := by
  cases cmd with
  | createContext => exact bearersKept_createContext _ s
  | modifyContext => exact bearersKept_modifyContext _ _ s
  | suspendContext => exact bearersKept_suspendContext _ s
  | resumeContext => exact bearersKept_resumeContext _ s
  | topUp => exact bearersKept_topUp _ _ _ s
  | releaseContext => exact bearersKept_releaseContext _ s
  | readStatus | readEvents | readCounters => exact .of_contexts rfl
  | _ => exact .of_contexts (by simp [bodyOf])

/-! ### A request or frame that arrives (R1, R5, R173) -/

theorem bearersKept_arrive {p : Port} {f : State → State} (s : State) (h : ∀ t, BearersKept t (f t)) :
    BearersKept s (arrive p f s) := by
  by_cases hr : Receives s p
  · rw [arrive_of_receives s f hr]
    exact (h _).after (.of_contexts (State.got_contexts s p))
  · rw [arrive_of_not_receives s f hr]; exact .refl s

theorem bearersKept_respond (rq : Request) (code : Byte) (r : Reply) (s : State) :
    BearersKept s (respond rq code r s) := .of_contexts (respond_contexts s rq code r)

theorem bearersKept_handle (rq : Request) (cmd : Command) (body : State → Reply × State) (s : State)
    (h : BearersKept s (body s).2) : BearersKept s (handle rq cmd body s) := by
  simp only [handle]
  split
  · exact bearersKept_respond _ _ _ s
  split
  · exact bearersKept_respond _ _ _ s
  split
  · exact bearersKept_respond _ _ _ s
  · exact (bearersKept_respond _ _ _ _).after h

theorem bearersKept_ask {rq : Request} {cmd : Command} {body : State → Reply × State} (s : State)
    (h : ∀ t, BearersKept t (body t).2) : BearersKept s (ask rq cmd body s) := by
  refine bearersKept_arrive s fun t => ?_
  unfold admitRequest
  split
  · exact .of_contexts rfl
  · exact bearersKept_handle rq cmd body t (h t)

/-- A request whose rule changes no context. -/
theorem bearersKept_ask_frame {rq : Request} {cmd : Command} {body : State → Reply × State} (s : State)
    (h : ∀ t, (body t).2.contexts = t.contexts) : BearersKept s (ask rq cmd body s) :=
  bearersKept_ask s fun t => .of_contexts (h t)

theorem bearersKept_admitted (rq : Request) (code : Byte) (xs : List Item) (s : State) :
    BearersKept s (admitRequest rq (meRequest rq code xs) s) := by
  unfold admitRequest
  split
  · exact .of_contexts rfl
  · unfold meRequest
    split
    · exact bearersKept_respond _ _ _ s
    · exact bearersKept_handle _ _ _ s (bearersKept_bodyOf _ _ _ s)

theorem bearersKept_takeIn (p : Port) (bs : List Byte) (s : State) : BearersKept s (takeIn p bs s) := by
  unfold takeIn
  split
  · exact .of_contexts rfl
  · unfold passOn
    split
    · exact (follow_bearerIn s _ _ _).bearersKept
    · exact .of_contexts (radioStatusIn_contexts s _ _ _)
    · exact (follow_linkFrameIn s _ _ _).bearersKept
    · exact .of_contexts (echoIn_contexts s _ _ _)
    · exact bearersKept_admitted _ _ _ s
    · exact .of_contexts rfl

theorem bearersKept_unlessHeld {f : State → State} (s : State) (h : BearersKept s (f s)) :
    BearersKept s (unlessHeld f s) := by
  unfold unlessHeld
  split
  · exact .refl s
  · exact h

/-- A step that changes no context. -/
theorem bearersKept_unlessHeld_frame {f : State → State} (s : State) (h : (f s).contexts = s.contexts) :
    BearersKept s (unlessHeld f s) := bearersKept_unlessHeld s (.of_contexts h)

/-! ### Every command -/

/-- The context of a cold part is FREE and clear (R26, R183). -/
theorem bearersDistinct_coldState (b : Bool) (s : State) : BearersDistinct (coldState b s) := by
  have clear (i : CtxIx) : (coldState b s).ctx i = Context.freeAt 0 := by
    simp [State.ctx, coldState, State.reset]
  refine ⟨fun i _ => ?_, fun i held => absurd (by rw [clear]; rfl) held, fun i _ held => absurd (by rw [clear]; rfl) held⟩
  rw [clear]; rfl

theorem bearersKept_coldReset (c : ColdCause) (s : State) : BearersKept s (coldReset c s) := by
  unfold coldReset
  split
  · exact fun _ => bearersDistinct_coldState _ s
  · split
    · exact fun _ => bearersDistinct_coldState _ s
    · exact .refl s
  · split
    · exact fun _ => bearersDistinct_coldState _ s
    · exact .refl s

theorem bearersKept_exec {i : Instr} {s t : State} (h : exec i s = .next t) : BearersKept s t := by
  cases i with
  | badFrame => cases h; exact bearersKept_arrive s (bearersKept_takeIn _ _)
  | bearerUplinkIntake => cases h; exact bearersKept_arrive s fun t => (follow_bearerIn t _ _ _).bearersKept
  | linkFrameIntake => cases h; exact bearersKept_arrive s fun t => (follow_linkFrameIn t _ _ _).bearersKept
  | echo | radioStatus => cases h; exact bearersKept_arrive s fun t => .of_contexts (by simp)
  | badCommand => cases h; exact bearersKept_arrive s fun t => bearersKept_admitted _ _ _ t
  | createContext => cases h; exact bearersKept_ask s (bearersKept_createContext _)
  | modifyContext => cases h; exact bearersKept_ask s (bearersKept_modifyContext _ _)
  | suspendContext => cases h; exact bearersKept_ask s (bearersKept_suspendContext _)
  | resumeContext => cases h; exact bearersKept_ask s (bearersKept_resumeContext _)
  | topUp => cases h; exact bearersKept_ask s (bearersKept_topUp _ _ _)
  | releaseContext => cases h; exact bearersKept_ask s (bearersKept_releaseContext _)
  | readStatus | readEvents | readCounters | resetCold => cases h; exact bearersKept_ask_frame s fun _ => rfl
  | readContext | findContext | readZone | readLink | readRadioUnit | closePeriod | positionReport | writeZone
  | reloadZone | armWaypoint | disarmWaypoint | writeLink | stageLink | cancelStage | setFailoverOrder
  | writeRadioUnit | setFloor | openAttach | configure | clearEvents =>
    cases h; exact bearersKept_ask_frame s (by simp)
  | resetWarm => cases h; exact bearersKept_ask_frame (body := resetWarm) s resetWarm_contexts
  | coldReset => cases h; exact bearersKept_coldReset _ s
  | entrySelection => cases h; exact bearersKept_unlessHeld s (follow_entrySelection s _).bearersKept
  | transmissionCompletion => cases h; exact bearersKept_unlessHeld s (bearersKept_transmissionCompletion s _)
  | sweepVisit => cases h; exact bearersKept_unlessHeld s (bearersKept_sweepVisit s)
  | epochBoundary | staleDeadline | lostDeadline | probeTime | graceExpiry | heartbeatTime | livenessDeadline
  | usageFrameBuild | holdDrainMove | periodSummary | endMarker =>
    cases h; exact bearersKept_unlessHeld_frame s (by simp)
  | shoreCarrierDown | cellCarrierChange => cases h; exact .of_contexts (by simp)
  | shoreCarrierUp | resetInputAsserted => cases h; exact .of_contexts rfl

theorem bearersKept_idle (s : State) : BearersKept s (idle s) := by
  unfold idle
  split
  · exact .refl s
  · split <;> exact .of_contexts rfl

/-- Settles O5: every command keeps the bearers (`bearersKept_exec`), and an idle step changes no context. -/
theorem stepKeepsBearersDistinct : Obligations.StepKeepsBearersDistinct := by
  intro s t distinct h
  unfold step at h
  split at h
  · cases h; exact bearersKept_idle s distinct
  · next i is _ => exact bearersKept_exec h distinct

end Sys2Proof.Machine
end

section
/-! The requests that create, suspend, resume and end contexts (R29 to R31, R34, R35, R38 to R40). -/

namespace Sys2Proof.Machine

/-! ### A request that is taken (R173) -/

section
variable {s t : State} {rq : Request} {cmd : Command} {body : State → Reply × State}

/-- A request that is taken answers OK with its results. -/
theorem ask_ok {results : List Item} (passes : Passes s rq cmd) (e : body (s.got rq.port) = (.ok results, t)) :
    (.next (ask rq cmd body s) : Host.Outcome State Fault Refusal) = .next (answerOk rq cmd results t) := by
  rw [ask_of_passes s body passes, e]; rfl

/-- A request that its own checks refuse. -/
theorem ask_no {st : Status} (passes : Passes s rq cmd) (e : body (s.got rq.port) = (.refuse st, t)) :
    (.next (ask rq cmd body s) : Host.Outcome State Fault Refusal) = .next (answerNo rq cmd st t) := by
  rw [ask_of_passes s body passes, e]; rfl

end

/-! ### The context a request names (R29) -/

section
variable {s : State} {n : CtxName} (f : CtxIx → Context → State → Reply × State)

theorem named_of_index_beyond (beyond : 4095 < n.index.toNat) : named n f s = (.refuse .badArgument, s) := by
  simp [named, inRange_of_le (n := 4096) beyond]

theorem named_of_other {i : CtxIx} (index : n.index.toNat = i.val)
    (other : (s.ctx i).state = .free ∨ (s.ctx i).incarnation ≠ n.incarnation) :
    named n f s = (.refuse .notFound, s) := by
  have refuses : ((s.ctx i).state == .free || (s.ctx i).incarnation != n.incarnation) = true := by simpa using other
  simp [named, inRange_of_eq i index, refuses]

end

/-- A context named in `s` is named once the frame is counted. -/
theorem Names.got {s : State} {n : CtxName} {i : CtxIx} (h : Names s n i) (p : Port) : Names (s.got p) n i := h

/-- A request that names a context is asked by that name, and refuses one that is CLOSING (R29, R39). -/
theorem exec_of_naming {i : Instr} {rq : Request} {cmd : Command} {n : CtxName} (naming : namingOf i = some (rq, cmd, n))
    (s : State) : ∃ f, exec i s = .next (ask rq cmd (named n f) s)
      ∧ ∀ c t, (t.ctx c).state = .closing → f c (t.ctx c) t = (.refuse .wrongState, t) := by
  cases i with
  | modifyContext => cases naming; exact ⟨_, rfl, fun _ _ closing => by simp [modifyNamed, closing]⟩
  | suspendContext => cases naming; exact ⟨_, rfl, fun _ _ closing => by simp [suspendNamed, closing]⟩
  | resumeContext => cases naming; exact ⟨_, rfl, fun _ _ closing => by simp [resumeNamed, closing]⟩
  | topUp => cases naming; exact ⟨_, rfl, fun _ _ closing => by simp [topUpNamed, closing]⟩
  | releaseContext => cases naming; exact ⟨_, rfl, fun _ _ closing => by simp [releaseNamed, closing]⟩
  | _ => cases naming

/-- Settles O27, by the cases of `named` and the refusal of a CLOSING context in each of the five rules. -/
theorem namedContextChecks : Obligations.NamedContextChecks := by
  intro i rq cmd n s naming passes
  obtain ⟨f, asks, refuses⟩ := exec_of_naming naming s
  rw [asks]
  refine ⟨fun beyond => ask_no passes (named_of_index_beyond f beyond), fun c index => ⟨fun other => ?_, ?_⟩⟩
  · exact ask_no passes (named_of_other (s := s.got rq.port) f index other)
  · intro incarnation closing
    have names : Names s n c := ⟨index, by rw [closing]; decide, incarnation⟩
    exact ask_no passes ((named_of_names _ f (names.got _)).trans (refuses c _ closing))

/-! ### Suspend and Resume (R34, R35) -/

/-- Settles O30, by the state test of each of the two rules. -/
theorem suspendAndResumeChangeState : Obligations.SuspendAndResumeChangeState := by
  intro s rq n i names
  have taken (f) : named n f (s.got rq.port) = f i (s.ctx i) (s.got rq.port) := named_of_names _ f (names.got _)
  refine ⟨fun passes => ⟨fun active => ?_, fun other => ?_⟩, fun passes => ⟨fun suspended => ?_, fun other => ?_⟩⟩
  · exact ask_ok passes ((taken _).trans (by simp [suspendNamed, active]))
  · exact ask_no passes ((taken _).trans (by simp [suspendNamed, other]))
  · exact ask_ok passes ((taken _).trans (by simp [resumeNamed, suspended]))
  · exact ask_no passes ((taken _).trans (by simp [resumeNamed, other]))

/-! ### Create Context (R30, R31) -/

/-- Check 2 of R30: an amount or threshold of a PREPAID context beyond its limit. -/
theorem createOverLimit_iff (x : Account) (a : CreateArgs) : createOverLimit x a = true ↔
    x = .prepaid ∧ (9999999999 < a.balance.toInt ∨ 9999999999 < a.lowThreshold.toNat) := by
  cases x with
  | prepaid =>
    have threshold : (9999999999 : Int) < (a.lowThreshold.toNat : Int) ↔ 9999999999 < a.lowThreshold.toNat := by omega
    simp [createOverLimit, moneyMax, threshold]
  | postpaid => simp [createOverLimit]

/-- Check 5 of R30. -/
theorem attachAllows_iff (s : State) (c : Floor) :
    attachAllows s c = true ↔ s.zu.gate = .open ∨ s.zu.zone.admission ≤ c.val := by
  simp [attachAllows]

/-- The FREE context of lowest index (R31). -/
theorem lowestFree_eq_some (s : State) (i : CtxIx) :
    lowestFree s.contexts = some i ↔ (s.ctx i).state = .free ∧ ∀ j < i, (s.ctx j).state ≠ .free := by
  rw [lowestFree, firstFin_eq_some]
  change ((s.ctx i).state == .free) = true ∧ (∀ j < i, ((s.ctx j).state == .free) = false) ↔ _
  simp

theorem lowestFree_eq_none (s : State) : lowestFree s.contexts = none ↔ ∀ j, (s.ctx j).state ≠ .free := by
  rw [lowestFree, firstFin_eq_none]
  change (∀ j, ((s.ctx j).state == .free) = false) ↔ _
  simp

/-- The amounts of a PREPAID context are within their limits, and its balance at least 1 (R30). -/
def AmountsPass (a : CreateArgs) (v : CreateValues) : Prop :=
  v.account = .prepaid → 1 ≤ a.balance.toInt ∧ a.balance.toInt ≤ 9999999999 ∧ a.lowThreshold.toNat ≤ 9999999999

section
variable {s : State} {a : CreateArgs} {v : CreateValues}

theorem createContext_unlisted (bad : createValues a = none) :
    createContext a s = (.refuse .badArgument, s) := by
  simp [createContext, bad]

theorem createContext_overLimit (values : createValues a = some v) (prepaid : v.account = .prepaid)
    (beyond : 9999999999 < a.balance.toInt ∨ 9999999999 < a.lowThreshold.toNat) :
    createContext a s = (.refuse .overLimit, s) := by
  simp [createContext, values, (createOverLimit_iff v.account a).mpr ⟨prepaid, beyond⟩]

theorem createContext_belowOne (values : createValues a = some v) (prepaid : v.account = .prepaid)
    (low : a.balance.toInt < 1) (threshold : a.lowThreshold.toNat ≤ 9999999999) :
    createContext a s = (.refuse .badArgument, s) := by
  have within : createOverLimit .prepaid a = false := by
    rw [← Bool.not_eq_true, createOverLimit_iff]; omega
  simp [createContext, values, within, prepaid, low]

theorem AmountsPass.within (amounts : AmountsPass a v) : createOverLimit v.account a = false := by
  rw [← Bool.not_eq_true, createOverLimit_iff]
  rintro ⟨prepaid, beyond⟩
  have := amounts prepaid
  omega

theorem AmountsPass.atLeastOne (amounts : AmountsPass a v) :
    (v.account == .prepaid && decide (a.balance.toInt < 1)) = false := by
  rw [← Bool.not_eq_true, Bool.and_eq_true, beq_iff_eq, decide_eq_true_eq]
  rintro ⟨prepaid, low⟩
  have := amounts prepaid
  omega

variable (values : createValues a = some v) (amounts : AmountsPass a v)
include values amounts

theorem createContext_duplicate (known : ∃ j, (s.ctx j).state ≠ .free ∧ (s.ctx j).bearerId = a.bearerId) :
    createContext a s = (.refuse .duplicate, s) := by
  have found : (lookupBearer s.contexts a.bearerId).isSome = true := by
    obtain ⟨j, held, same⟩ := known
    exact Option.isSome_iff_ne_none.mpr fun none => (lookupBearer_eq_none s _).mp none j held same
  simp [createContext, values, amounts.within, amounts.atLeastOne, found]

variable (new : ∀ j, (s.ctx j).state ≠ .free → (s.ctx j).bearerId ≠ a.bearerId)
include new

theorem createContext_attachClosed (closed : ¬ (s.zu.gate = .open ∨ s.zu.zone.admission ≤ v.cls.val)) :
    createContext a s = (.refuse .attachClosed, s) := by
  have denied : attachAllows s v.cls = false := by rw [← Bool.not_eq_true, attachAllows_iff]; exact closed
  simp [createContext, values, amounts.within, amounts.atLeastOne, (lookupBearer_eq_none s _).mpr new, denied]

variable (attach : s.zu.gate = .open ∨ s.zu.zone.admission ≤ v.cls.val)
include attach

theorem createContext_tableFull (full : ∀ j, (s.ctx j).state ≠ .free) :
    createContext a s = (.refuse .tableFull, s) := by
  simp [createContext, values, amounts.within, amounts.atLeastOne, (lookupBearer_eq_none s _).mpr new,
    (attachAllows_iff s v.cls).mpr attach, (lowestFree_eq_none s).mpr full]

/-- A Create Context that passes R30 takes the lowest FREE index (R31). -/
theorem createContext_takes {i : CtxIx} (free : (s.ctx i).state = .free) (lowest : ∀ j < i, (s.ctx j).state ≠ .free) :
    createContext a s
      = (.ok (items [beBytes 2 i.val, beBytes 2 ((s.ctx i).incarnation + 1).toNat]),
          s.setCtx i (newContext ((s.ctx i).incarnation + 1) s.zu.gen a v)) := by
  simp [createContext, values, amounts.within, amounts.atLeastOne, (lookupBearer_eq_none s _).mpr new,
    (attachAllows_iff s v.cls).mpr attach, (lowestFree_eq_some s i).mpr ⟨free, lowest⟩]

end

/-- What only a PREPAID context is given is 0 in a POSTPAID one (R31). -/
theorem newContext_eq (inc gen : Num16) (a : CreateArgs) (v : CreateValues) : newContext inc gen a v
    = { state := .active, incarnation := inc, bearerId := a.bearerId, cls := v.cls, plan := v.plan
        homeRealm := v.homeRealm, roamSet := v.roamSet, account := v.account
        balance := (if v.account = .prepaid then a.balance.toInt else 0)
        lowThreshold := (if v.account = .prepaid then a.lowThreshold.toNat else 0)
        limitMode := v.limitMode, exhausted := false, low := false, allowance := a.allowance.toNat
        remainder := 0, servingRu := v.servingRu, notifiedGen := gen - 1, openIv := none, awaiting := none } := by
  cases h : v.account <;> simp [newContext, h]

/-- Arguments outside their lists fail check 1 of R30. -/
theorem createValues_none_of_unlisted {a : CreateArgs} (bad : a.bearerId = 0 ∨ a.cls = 0 ∨ 7 < a.cls.toNat
      ∨ 3 < a.plan.toNat ∨ 15 < a.homeRealm.toNat ∨ 15 < a.servingRu.toNat
      ∨ (∃ b ∈ a.roamSet, b = 0 ∨ 15 < b.toNat) ∨ 1 < a.account.toNat ∨ (a.account = 0 ∧ 1 < a.limitMode.toNat)) :
    createValues a = none := by
  by_contra some
  obtain ⟨v, values⟩ := Option.ne_none_iff_exists'.mp some
  obtain ⟨bearer, -, ⟨cls, pos⟩, plan, home, roam, ru, account, mode, -⟩ := (createValues_iff a v).mp values
  obtain ⟨members, -⟩ := (readRoamSet_iff _ _).mp roam
  rcases bad with h | h | h | h | h | h | ⟨b, hb, h⟩ | h | ⟨h, h'⟩
  · exact bearer h
  · exact pos (Fin.ext (by rw [← cls, h]; rfl))
  · omega
  · omega
  · omega
  · omega
  · obtain ⟨ne, le⟩ := members b hb
    rcases h with rfl | h
    · exact ne rfl
    · omega
  · have : v.account.code ≤ 1 := by cases v.account <;> decide
    omega
  · have prepaid : v.account = .prepaid := by
      rw [h] at account
      cases hv : v.account with
      | prepaid => rfl
      | postpaid => rw [hv] at account; cases account
    have : v.limitMode.code ≤ 1 := by cases v.limitMode <;> decide
    have := mode prepaid
    omega

/-- Settles O25: the arguments pass `createValues`, and the record is the one `createContext_takes` writes. -/
theorem createContextTakesLowestFree : Obligations.CreateContextTakesLowestFree := by
  intro s rq a v i passes bearer size cls pos plan home ru roam account mode modePost amounts new attach free lowest
  have values : createValues a = some v :=
    (createValues_iff a v).mpr ⟨bearer, size, ⟨cls, pos⟩, plan, home, roam, ru, account, mode, modePost⟩
  have taken := createContext_takes (s := s.got rq.port) values amounts new attach free lowest
  rw [newContext_eq] at taken
  exact ask_ok passes taken

/-- Settles O26: the checks of `createContext` one after another. -/
theorem createContextRefusesInOrder : Obligations.CreateContextRefusesInOrder := by
  intro s rq a passes size
  refine ⟨fun bad => ask_no passes (createContext_unlisted (createValues_none_of_unlisted bad)),
    fun v values => ⟨fun prepaid beyond => ask_no passes (createContext_overLimit values prepaid beyond),
    fun prepaid low threshold => ask_no passes (createContext_belowOne values prepaid low threshold),
    fun amounts => ⟨fun known => ask_no passes (createContext_duplicate (s := s.got rq.port) values amounts known),
    fun new => ⟨fun closed below => ?_, fun attach full =>
      ask_no passes (createContext_tableFull (s := s.got rq.port) values amounts new attach full)⟩⟩⟩⟩
  refine ask_no passes (createContext_attachClosed (s := s.got rq.port) values amounts new ?_)
  rintro (gate | level)
  · exact absurd (closed.symm.trans gate) (by decide)
  · exact absurd level (Nat.not_le.mpr below)

end Sys2Proof.Machine
end

section
/-! Release Context (R38 to R40, R100). -/

namespace Sys2Proof.Machine

/-! ### Records (R100) -/

theorem balanceAfter_eq (c : Context) : balanceAfter c = if c.account = .prepaid then c.balance else 0 := by
  cases h : c.account <;> simp [balanceAfter, h]

theorem recordOf_interval (i : CtxIx) (c : Context) (iv : Interval) : recordOf .interval i c iv
    = { kind := .interval, plan := iv.plan, zoneIx := iv.zoneIx, realm := iv.realm, period := iv.period
        ctx := i, incarnation := c.incarnation, bearerId := c.bearerId, zoneGen := iv.zoneGen
        start := iv.start, stop := iv.last, up := iv.up, down := iv.down, free := iv.free
        frames := iv.frames, charge := iv.charge
        balanceAfter := if c.account = .prepaid then c.balance else 0, remainder := 0 } := by
  rw [← balanceAfter_eq]; rfl

theorem recordOf_final (i : CtxIx) (c : Context) (iv : Interval) : recordOf .final i c iv
    = { recordOf .interval i c iv with kind := .final, remainder := c.remainder } := rfl

/-! ### Where a record goes (R101) -/

section
variable {s : State} {i : CtxIx}

theorem placing_urq (room : s.ur.urq.length < 256) (empty : s.ur.awaiting = []) : placing i s = .urq := by
  simp [placing, (s.urqRoom_iff).mpr room, empty]

theorem placing_slot (full : 256 ≤ s.ur.urq.length ∨ s.ur.awaiting ≠ []) (slot : (s.ctx i).awaiting = none) :
    placing i s = .slot := by
  have no : ¬ (s.urqRoom && s.ur.awaiting.isEmpty) = true := by
    rw [Bool.and_eq_true, State.urqRoom_iff, List.isEmpty_iff]
    rintro ⟨room, empty⟩
    rcases full with full | full
    · omega
    · exact full empty
  simp [placing, no, slot]

/-- The FINAL record enters the URQ, and the context becomes FREE with its incarnation (R38, R40). -/
theorem placeFinal_urq (room : s.ur.urq.length < 256) (empty : s.ur.awaiting = []) :
    placeFinal i s = urqEnter (finalRecord i s) (s.setCtx i (Context.freeAt (s.ctx i).incarnation)) := by
  rw [placeFinal, placing_urq room empty]; rfl

/-- The FINAL record becomes the awaiting interval, and the context CLOSING (R38, R39). -/
theorem placeFinal_slot (full : 256 ≤ s.ur.urq.length ∨ s.ur.awaiting ≠ []) (slot : (s.ctx i).awaiting = none) :
    placeFinal i s
      = { s.setCtx i { s.ctx i with state := .closing, openIv := none, awaiting := some (finalRecord i s) } with
          ur := { s.ur with awaiting := s.ur.awaiting ++ [i] } } := by
  rw [placeFinal, placing_slot full slot]
  simp [toAwaiting, State.setCtx, State.ctx]

end

/-- A release that places its record answers with the state the context comes to (R38). -/
theorem releaseNamed_places {i : CtxIx} {c : Context} {s t : State} (open_ : c.state ≠ .closing)
    (slot : c.awaiting = none) (placed : placeFinal i s = t) :
    releaseNamed i c s = (.ok (items [byte (t.ctx i).state.code]), sendBearerNotice i c .released t) := by
  simp [releaseNamed, open_, slot, placed]

/-- Settles O32: the two placings of the FINAL record, then the refusal, then the fields of a record. -/
theorem releaseContextPlacesFinalRecord : Obligations.ReleaseContextPlacesFinalRecord := by
  intro s rq n i passes names open_ c zero iv r s'
  have taken (f) : named n f s' = f i c s' := named_of_names _ f (names.got _)
  have final : finalRecord i s' = r := by
    show recordOf .final i c iv = r
    rw [recordOf_final, recordOf_interval]
  refine ⟨fun slot room empty => ?_, fun slot full => ?_, fun slot => ?_, recordOf_final i c, recordOf_interval i c⟩
  · have placed := placeFinal_urq (s := s') (i := i) room empty
    rw [final] at placed
    refine ask_ok passes ((taken _).trans ((releaseNamed_places open_ slot placed).trans ?_))
    rw [urqEnter_ctx, State.setCtx_ctx, if_pos rfl]; rfl
  · have placed := placeFinal_slot (s := s') (i := i) full slot
    rw [final] at placed
    refine ask_ok passes ((taken _).trans ((releaseNamed_places open_ slot placed).trans ?_))
    have closing : (s'.setCtx i { c with state := .closing, openIv := none, awaiting := some r }).ctx i
        = { c with state := .closing, openIv := none, awaiting := some r } := by simp
    exact congrArg (fun x : Context => (Reply.ok (items [byte x.state.code]), _)) closing
  · have slot : c.awaiting.isSome = true := Option.isSome_iff_ne_none.mpr slot
    refine ask_no passes ((taken _).trans ?_)
    simp [releaseNamed, show c.state ≠ .closing from open_, slot, raiseBacklog]

end Sys2Proof.Machine
end

section
/-! Modify Context (R32, R33, R101). -/

namespace Sys2Proof.Machine

/-! ### The checks of R32, in their order -/

/-- A low threshold or limit mode is given for a POSTPAID context (R32). -/
def GivenForPostpaid (c : Context) (a : ModifyArgs) : Prop :=
  c.account = .postpaid ∧ (a.lowThreshold ≠ none ∨ a.limitMode ≠ none)

/-- The low threshold given is above its limit (R32). -/
def ThresholdBeyond (a : ModifyArgs) : Prop := ∃ t, a.lowThreshold = some t ∧ 9999999999 < t.toNat

section
variable {s t : State} {i : CtxIx} {c : Context} {a : ModifyArgs} {v : ModifyValues}

theorem givenForPostpaid_iff : (c.account == .postpaid && (a.lowThreshold.isSome || a.limitMode.isSome)) = true
    ↔ GivenForPostpaid c a := by
  simp [GivenForPostpaid, Option.isSome_iff_ne_none]

theorem thresholdBeyond_iff :
    ((a.lowThreshold.map BitVec.toNat).any fun t : Nat => decide (moneyMax < (t : Int))) = true
    ↔ ThresholdBeyond a := by
  unfold ThresholdBeyond moneyMax
  cases a.lowThreshold with
  | none => simp
  | some t =>
    simp

theorem modifyNamed_wrongState (h : c.state = .closing ∨ GivenForPostpaid c a) :
    modifyNamed a i c s = (.refuse .wrongState, s) := by
  unfold modifyNamed
  split
  · rfl
  · next open_ =>
    rw [if_pos (givenForPostpaid_iff.mpr (h.resolve_left (by simpa using open_)))]; rfl

variable (open_ : c.state ≠ .closing) (free : ¬ GivenForPostpaid c a)
include open_ free

theorem modifyNamed_unlisted (unlisted : Unlisted a) : modifyNamed a i c s = (.refuse .badArgument, s) := by
  rw [modifyNamed, if_neg (by simpa using open_), if_neg (fun h => free (givenForPostpaid_iff.mp h)),
    (modifyValues_none_iff a).mpr unlisted]
  rfl

variable (values : modifyValues a = some v)
include values

theorem modifyNamed_overLimit (beyond : ThresholdBeyond a) : modifyNamed a i c s = (.refuse .overLimit, s) := by
  rw [modifyNamed, if_neg (by simpa using open_), if_neg (fun h => free (givenForPostpaid_iff.mp h)), values]
  exact if_pos (thresholdBeyond_iff.mpr beyond)

variable (within : ¬ ThresholdBeyond a)
include within

/-- A Modify Context that passes R32 writes the values given after the close its plan change needs (R33). -/
theorem modifyNamed_writes {d : Context} (closed : closeForPlan i v s = some t)
    (written : (t.ctx i).modify v (a.lowThreshold.map BitVec.toNat) = d) :
    modifyNamed a i c s = (.ok (items (contextBytes d)), t.setCtx i d) := by
  subst written
  rw [modifyNamed, if_neg (by simpa using open_), if_neg (fun h => free (givenForPostpaid_iff.mp h)), values]
  refine (if_neg (fun h => within (thresholdBeyond_iff.mp h))).trans ?_
  rw [closed]

/-- One whose close cannot be made is refused, and RECORD_BACKLOG raised (R33, R101). -/
theorem modifyNamed_backlog (closed : closeForPlan i v s = none) :
    modifyNamed a i c s = (.refuse .backlog, raiseBacklog i s) := by
  rw [modifyNamed, if_neg (by simpa using open_), if_neg (fun h => free (givenForPostpaid_iff.mp h)), values]
  refine (if_neg (fun h => within (thresholdBeyond_iff.mp h))).trans ?_
  rw [closed]

end

/-! ### What is written (R32, R33) -/

/-- A new threshold is written, and clears the low mark where the balance is at least that (R32). -/
theorem Context.modify_eq (c : Context) (v : ModifyValues) (t : Option (BitVec 64)) :
    c.modify v (t.map BitVec.toNat)
      = { c with
          cls := v.cls.getD c.cls, plan := v.plan.getD c.plan, homeRealm := v.homeRealm.getD c.homeRealm
          roamSet := v.roamSet.getD c.roamSet, limitMode := v.limitMode.getD c.limitMode
          lowThreshold := (match t with
            | some t => t.toNat
            | none => c.lowThreshold)
          low := (match t with
            | some t => c.low && decide (c.balance < t.toNat)
            | none => c.low) } := by
  cases t <;> rfl

/-- A plan that is not given, not changed, or changed with no interval open closes none (R33). -/
theorem planCloses_eq_none {c : Context} {v : ModifyValues}
    (h : v.plan = none ∨ v.plan = some c.plan ∨ c.openIv = none) : planCloses c v = none := by
  unfold planCloses
  rcases h with h | h | h
  · rw [h]
  · rw [h]; exact if_pos rfl
  · rw [h]
    split
    · exact ite_self _
    · rfl

/-- A changed plan closes the open interval (R33). -/
theorem planCloses_of_change {c : Context} {v : ModifyValues} {p : Plan} (plan : v.plan = some p)
    (change : p ≠ c.plan) : planCloses c v = c.openIv := by
  rw [planCloses, plan]; exact if_neg change

/-- Settles O28: the checks of `modifyNamed` in order, then the record written where no interval is closed. -/
theorem modifyContextWritesGivenValues : Obligations.ModifyContextWritesGivenValues := by
  intro s rq n a i passes names c settled beyond refusedAs
  have taken : modifyContext n a (s.got rq.port) = modifyNamed a i c (s.got rq.port) := named_of_names _ _ (names.got _)
  have exists_values (listed : ¬ Unlisted a) : ∃ v, modifyValues a = some v :=
    Option.ne_none_iff_exists'.mp fun none => listed ((modifyValues_none_iff a).mp none)
  refine ⟨fun wrong => ?_, fun open_ free unlisted => ?_, fun open_ free listed high => ?_, fun listed => ?_,
    fun v open_ free gives within stays => ?_⟩
  · exact ask_no passes (taken.trans (modifyNamed_wrongState wrong))
  · exact ask_no passes (taken.trans (modifyNamed_unlisted open_ free unlisted))
  · obtain ⟨v, values⟩ := exists_values listed
    exact ask_no passes (taken.trans (modifyNamed_overLimit open_ free values high))
  · obtain ⟨v, values⟩ := exists_values listed
    exact ⟨v, (modifyValues_iff a v).mp values⟩
  · have values := (modifyValues_iff a v).mpr gives
    have closed : closeForPlan i v (s.got rq.port) = some (s.got rq.port) := by
      rw [closeForPlan, State.got_ctx, planCloses_eq_none stays]
    exact ask_ok passes (taken.trans
      (modifyNamed_writes open_ free values within closed (Context.modify_eq c v a.lowThreshold)))

/-! ### A plan change (R33, R101) -/

section
variable {s : State} {i : CtxIx} {iv : Interval}

/-- A record enters the URQ whatever is written to a context before or after. -/
theorem urqEnter_setCtx (s : State) (r : Record) (i : CtxIx) (c : Context) :
    urqEnter r (s.setCtx i c) = (urqEnter r s).setCtx i c := rfl

theorem closeInterval_urq (room : s.ur.urq.length < 256) (empty : s.ur.awaiting = []) :
    closeInterval i iv s = some (urqEnter (recordOf .interval i (s.ctx i) iv) (dropOpen i s)) := by
  simp [closeInterval, placing_urq room empty]

theorem closeInterval_slot (full : 256 ≤ s.ur.urq.length ∨ s.ur.awaiting ≠ []) (slot : (s.ctx i).awaiting = none) :
    closeInterval i iv s = some (toAwaiting i (recordOf .interval i (s.ctx i) iv) (dropOpen i s)) := by
  simp [closeInterval, placing_slot full slot]

theorem closeInterval_cannot (full : 256 ≤ s.ur.urq.length ∨ s.ur.awaiting ≠ [])
    (occupied : (s.ctx i).awaiting ≠ none) : closeInterval i iv s = none := by
  rcases closeInterval_cases s i iv with ⟨room, empty, -⟩ | ⟨-, slot, -⟩ | ⟨-, -, e⟩
  · rcases full with full | full
    · omega
    · exact absurd empty full
  · exact absurd slot occupied
  · exact e

/-- A context written after its interval became the awaiting one. -/
theorem toAwaiting_dropOpen_setCtx (r : Record) (c : Context) :
    (toAwaiting i r (dropOpen i s)).setCtx i c
      = { s.setCtx i c with ur := { s.ur with awaiting := s.ur.awaiting ++ [i] } } := by
  simp [toAwaiting, dropOpen, State.setCtx]

end

/-- Settles O29: the three cases of the closing rule. -/
theorem planChangeClosesInterval : Obligations.PlanChangeClosesInterval := by
  intro s rq n a i v p iv passes names open_ postpaid gives within plan change opened c r c' c'' s'
  have taken : modifyContext n a s' = modifyNamed a i c s' := named_of_names _ _ (names.got _)
  have values := (modifyValues_iff a v).mpr gives
  have free : ¬ GivenForPostpaid c a := fun ⟨account, given⟩ => by
    obtain ⟨threshold, mode⟩ := postpaid account
    exact given.elim (absurd threshold) (absurd mode)
  have within : ¬ ThresholdBeyond a := fun ⟨t, given, beyond⟩ => by
    have := within t given
    omega
  have closes : closeForPlan i v s' = closeInterval i iv s' := by
    have : planCloses c v = some iv := (planCloses_of_change plan change).trans opened
    rw [closeForPlan, State.got_ctx, this]
  have record : recordOf .interval i (s'.ctx i) iv = r := recordOf_interval i c iv
  have closed : ({ c with openIv := none } : Context).modify v (a.lowThreshold.map BitVec.toNat) = c' := by
    rw [Context.modify_eq, plan]; rfl
  have awaits : ({ c with openIv := none, awaiting := some r } : Context).modify v
      (a.lowThreshold.map BitVec.toNat) = c'' := by
    rw [Context.modify_eq, plan]; rfl
  refine ⟨fun room empty => ?_, fun full slot => ?_, fun full occupied => ?_⟩
  · have urq : closeInterval i iv s' = some (urqEnter r (dropOpen i s')) := record ▸ closeInterval_urq room empty
    have ctx : (urqEnter r (dropOpen i s')).ctx i = { c with openIv := none } := by simp [dropOpen, s', c]
    have writes := modifyNamed_writes open_ free values within (closes.trans urq) (ctx ▸ closed)
    rw [← urqEnter_setCtx, dropOpen, State.setCtx_setCtx] at writes
    exact ask_ok passes (taken.trans writes)
  · have awaiting : closeInterval i iv s' = some (toAwaiting i r (dropOpen i s')) :=
      record ▸ closeInterval_slot full slot
    have ctx : (toAwaiting i r (dropOpen i s')).ctx i = { c with openIv := none, awaiting := some r } := by
      show ((_ : State).setCtx i _).ctx i = _
      simp [dropOpen, s', c]
    have writes := modifyNamed_writes open_ free values within (closes.trans awaiting) (ctx ▸ awaits)
    rw [toAwaiting_dropOpen_setCtx] at writes
    exact ask_ok passes (taken.trans writes)
  · exact ask_no passes (taken.trans
      (modifyNamed_backlog open_ free values within (closes.trans (closeInterval_cannot full occupied))))

end Sys2Proof.Machine
end

section
/-! The requests that only report (R36, R37, R60, R121, R169, R173, R176, R177, R182, R186). -/

namespace Sys2Proof.Machine

/-! ### Bytes and items of a report (R186) -/

theorem byte_eq (n : Nat) : byte n = [BitVec.ofNat 8 n] := by simp [byte, beBytes]

theorem yesNo_eq (b : Bool) : yesNo b = if b = true then [0] else [1] := by cases b <;> rfl

theorem itemsFrom_getElem? (k : Nat) (vs : List (List Byte)) (j : Nat) :
    (itemsFrom k vs)[j]? = vs[j]?.map fun v => ⟨BitVec.ofNat 8 (j + k), v⟩ := by
  induction vs generalizing k j with
  | nil => rfl
  | cons v vs ih =>
    cases j with
    | zero => simp [itemsFrom, item]
    | succ j => rw [itemsFrom, List.getElem?_cons_succ, ih, List.getElem?_cons_succ, Nat.succ_add_eq_add_succ]

/-- The stage as Read Status reports it: no slot is looked at where there is none (R139, R176). -/
theorem stagedBytes_eq (su : Su) : stagedBytes su = match su.stage, su.slot su.inForce.other with
    | some st, some k => byte k.val ++ byte st.trigger.code ++ byte st.condition.code
    | _, _ => [] := by
  unfold stagedBytes stageBytes Su.staged
  cases su.stage <;> rfl

theorem reportsColdPending (x : ColdPending) : (x != .none) = decide (x ≠ .none) := by cases x <;> rfl

theorem reportsConfigured (x : RuState) : (x != .unused) = decide (x ≠ .unused) := by cases x <;> rfl

/-- The four rates of a descriptor, in the order of the plans (R53). -/
theorem rates_toList (rates : Vector (BitVec 16) 4) : rates.toList = [rates[0], rates[1], rates[2], rates[3]] := by
  refine List.ext_getElem (by simp) fun i h _ => ?_
  have : i < 4 := by simpa using h
  match i with
  | 0 | 1 | 2 | 3 => simp

/-! ### Requests that report (R173) -/

/-- Read Status is answered while a cold reset is pending too (R173, R182). -/
theorem ask_readStatus {s : State} {rq : Request} (receives : Receives s rq.port)
    (level : 1 ≤ (s.access rq.port).code) (ok : rq.itemsOk = true) :
    ask rq .readStatus readStatus s = answerOk rq .readStatus (statusItems s) (s.got rq.port) := by
  have access := access_ne_none .readStatus level
  have admits : Command.readStatus.level.code ≤ (s.access rq.port).code := level
  have same : statusItems (s.got rq.port) = statusItems s := rfl
  rw [ask, arrive_of_receives s _ receives]
  simp [admitRequest, handle, State.admits, access, admits, ok, answerOk, readStatus, same]

/-- Settles O22: each report by its own rule, then the items of each as the bytes they are made of. -/
theorem readRequestsOnlyReport : Obligations.ReadRequestsOnlyReport := by
  intro s rq
  refine ⟨fun receives level ok => congrArg _ (ask_readStatus receives level ok), ?_,
    fun passes => ask_ok passes (body := readCounters) rfl, fun index i passes h => ?_, fun index passes h => ?_,
    fun b i passes ne found => ?_, fun b passes ne found => ?_, fun passes => ?_, fun index d passes h => ?_,
    fun passes => ?_, fun index passes h ne => ?_, fun index k passes h => ?_, fun index passes h => ?_,
    fun index r passes h => ?_, fun index passes h => ?_, ?_⟩
  · show some (item 4 (yesNo (s.me.coldPending != .none))) = _
    cases s.me.coldPending <;> rfl
  · exact ask_ok passes (by rw [readContext, inRange_of_eq i h]; rfl)
  · exact ask_no passes (by rw [readContext, inRange_of_le (n := 4096) h]; rfl)
  · exact ask_ok passes (by rw [findContext, if_neg ne, State.got_contexts, found]; rfl)
  · exact ask_no passes (by rw [findContext, if_neg ne, State.got_contexts, found]; rfl)
  · exact ask_no passes (by rw [findContext, if_pos rfl]; rfl)
  · have table : index.toNat ≠ 255 := by omega
    exact ask_ok passes (by rw [readZone, if_neg table, inRange_of_eq d h]; rfl)
  · exact ask_ok passes (by rw [readZone, if_pos (by decide)]; rfl)
  · exact ask_no passes (by rw [readZone, if_neg ne, inRange_of_le (n := 64) h]; rfl)
  · exact ask_ok passes (by rw [readLink, inRange_of_eq k h]; rfl)
  · exact ask_no passes (by rw [readLink, inRange_of_le (n := 8) h]; rfl)
  · exact ask_ok passes (by rw [readRadioUnit, inRange_of_eq r h]; rfl)
  · exact ask_no passes (by rw [readRadioUnit, inRange_of_le (n := 16) h]; rfl)
  · intro one yes maybe waypoint acc
    have hone : one = byte := (funext byte_eq).symm
    have hyes : yes = yesNo := (funext yesNo_eq).symm
    have hmaybe : maybe = optBytes := by funext n x; cases x <;> rfl
    have hwaypoint : waypoint = waypointBytes := by
      funext w; simp only [waypoint, hone, hyes]; rfl
    have hacc : acc = accBytes := rfl
    clear_value acc waypoint maybe yes one
    subst hone hyes hmaybe hwaypoint hacc
    refine ⟨fun vs k => itemsFrom_getElem? 1 vs k, rfl, rfl, rfl, rfl, rfl, rfl, rfl, rfl, rfl, rfl, rfl, rfl, rfl, rfl,
      rfl, rfl, rfl, rfl, rfl, rfl, rfl, ?_, rfl, fun iv => ⟨rfl, rfl⟩, fun r => ⟨rfl, rfl⟩, fun c => rfl,
      fun z => ?_, fun l => ?_, fun u => ?_⟩
    · rw [statusItems, stagedBytes_eq, reportsColdPending, List.append_assoc _ (itemsFrom 23 _)]; rfl
    · rw [zoneBytes, rates_toList, setField]; simp [List.flatMap_map]
    · rw [Nat.add_comm]; rfl
    · rw [← reportsConfigured]; rfl

end Sys2Proof.Machine
end

section
/-! The candidate zone (R55), the zone change (R57, R73) and the position deadlines (R50, R51). -/

namespace Sys2Proof.Machine

/-! ### The first match (R55) -/

theorem covers_iff (z : Zone) (a : Nat) (x : Int) :
    z.covers a x = true ↔ z.start ≤ a ∧ a < z.start + z.length ∧ x.natAbs ≤ z.crossLimit := by
  simp [Zone.covers, and_assoc]

section
variable (t : Vector Zone 64) (a : Nat) (x : Int)

/-- The first match is the lowest index but 0 whose descriptor covers the position, present or not. -/
theorem firstMatch_eq_some (d : ZoneIx) : firstMatch t a x = some d ↔
    d ≠ 0 ∧ t[d].covers a x = true ∧ ∀ e : ZoneIx, e ≠ 0 → e < d → t[e].covers a x = false := by
  simp only [firstMatch, firstFin_eq_some, Bool.and_eq_true, Bool.and_eq_false_imp, bne_iff_ne, Fin.val_ne_zero_iff,
    and_assoc]
  exact and_congr_right fun _ => and_congr_right fun _ => ⟨fun h e ne lt => h e lt ne, fun h e lt ne => h e ne lt⟩

theorem firstMatch_eq_none : firstMatch t a x = none ↔ ∀ d : ZoneIx, d ≠ 0 → t[d].covers a x = false := by
  simp only [firstMatch, firstFin_eq_none, Bool.and_eq_false_imp, bne_iff_ne, Fin.val_ne_zero_iff]

end

section
variable {s : State} {a : Nat} {x : Int} {d : ZoneIx}

theorem candidateOf_present {t : Vector Zone 64} (first : firstMatch t a x = some d) (present : t[d].present = true) :
    candidateOf t a x = d := by
  simp only [candidateOf, first, if_pos present]

theorem candidateOf_absent {t : Vector Zone 64} (first : firstMatch t a x = some d) (absent : t[d].present = false) :
    candidateOf t a x = 0 := by
  simp only [candidateOf, first, absent, Bool.false_eq_true, if_false]

theorem candidateOf_unmatched {t : Vector Zone 64} (first : firstMatch t a x = none) : candidateOf t a x = 0 := by
  simp only [candidateOf, first]

theorem zoneFault_present (first : firstMatch s.zu.table a x = some d) (present : s.zu.table[d].present = true) :
    zoneFault a x s = s := by
  simp only [zoneFault, first, if_pos present]

theorem zoneFault_absent (first : firstMatch s.zu.table a x = some d) (absent : s.zu.table[d].present = false) :
    zoneFault a x s = raise .zoneFault (some (.zoneIndex d)) s := by
  simp only [zoneFault, first, absent, Bool.false_eq_true, if_false]

theorem zoneFault_unmatched (first : firstMatch s.zu.table a x = none) : zoneFault a x s = s := by
  simp only [zoneFault, first]

end

/-- Settles O35: the descriptor named is the first match, or there is none. -/
theorem candidateIsFirstCovering : Obligations.CandidateIsFirstCovering := by
  intro s a x covers
  have uncovered (d : ZoneIx) (no : ¬ covers d) : s.zu.table[d].covers a x = false :=
    Bool.eq_false_iff.mpr fun yes => no ((covers_iff _ a x).mp yes)
  refine ⟨fun d ne covered before => ?_, fun nowhere => ?_⟩
  · have first : firstMatch s.zu.table a x = some d := (firstMatch_eq_some _ a x d).mpr
      ⟨ne, (covers_iff _ a x).mpr covered, fun e ne lt => uncovered e (before e ne lt)⟩
    exact ⟨fun present => ⟨candidateOf_present first present, zoneFault_present first present⟩,
      fun absent => ⟨candidateOf_absent first absent, zoneFault_absent first absent⟩⟩
  · have first : firstMatch s.zu.table a x = none :=
      (firstMatch_eq_none _ a x).mpr fun d ne => uncovered d (nowhere d ne)
    exact ⟨candidateOf_unmatched first, zoneFault_unmatched first⟩

/-! ### The zone change (R57, R73) -/

/-- What SU's handling comes to: nothing, or one switch (R144). -/
def Steered.AtMostOneSwitch (s : State) (r : Steered) : Prop :=
  r = unswitched s ∨ ∃ cause new write, r = ⟨makeSwitch cause new write s, some new⟩

theorem commitWaiting_atMostOneSwitch (s : State) : (commitWaiting s).AtMostOneSwitch s := by
  unfold commitWaiting
  split
  · split
    · exact .inr ⟨_, _, _, rfl⟩
    · exact .inl rfl
  · exact .inl rfl

theorem recoveryTest_atMostOneSwitch (s : State) : (recoveryTest s).AtMostOneSwitch s := by
  unfold recoveryTest
  split
  · exact .inl rfl
  · split
    · exact .inr ⟨_, _, _, rfl⟩
    · split
      · exact .inr ⟨_, _, _, rfl⟩
      · exact .inl rfl

theorem suZoneChanged_atMostOneSwitch (s : State) : (suZoneChanged s).AtMostOneSwitch s := by
  unfold suZoneChanged
  split
  · split
    · exact commitWaiting_atMostOneSwitch s
    · split
      · exact commitWaiting_atMostOneSwitch s
      · exact .inr ⟨_, _, _, rfl⟩
  · split
    · exact commitWaiting_atMostOneSwitch s
    · exact recoveryTest_atMostOneSwitch s

section
variable (s : State) {k : EventKind}

theorem offerMarker_event (old new : Option LinkIx) (cause : SwitchCause) :
    (offerMarker old new cause s).event k = s.event k := by
  cases new with
  | none => rfl
  | some _ => exact offerControl_event ..

theorem settleOld_event (old : Option LinkIx) (cause : SwitchCause) :
    (settleOld old cause s).event k = s.event k := by
  rw [State.event, settleOld_me_events]; rfl

theorem raiseSwitch_event (old new : Option LinkIx) (cause : SwitchCause) (done : k ≠ .switchDone)
    (blackout : k ≠ .blackout) : (raiseSwitch old new cause s).event k = s.event k := by
  cases new <;> simp [raiseSwitch, done.symm, blackout.symm]

/-- A switch raises SWITCH_DONE and BLACKOUT, and no other event (R147). -/
theorem makeSwitch_event (cause : SwitchCause) (new : Option LinkIx) (write : Su → Su) (done : k ≠ .switchDone)
    (blackout : k ≠ .blackout) : (makeSwitch cause new write s).event k = s.event k := by
  simp only [makeSwitch, recomputeFloor_event]
  rw [raiseSwitch_event _ _ _ _ done blackout, settleOld_event, offerMarker_event]
  rfl

theorem suZoneChanged_event (done : k ≠ .switchDone) (blackout : k ≠ .blackout) :
    (suZoneChanged s).state.event k = s.event k := by
  rcases suZoneChanged_atMostOneSwitch s with e | ⟨cause, new, write, e⟩
  · rw [e]; rfl
  · rw [e]; exact makeSwitch_event s cause new write done blackout

/-- A recompute of the service level raises SERVICE_LEVEL, and no other event (R161). -/
theorem recomputeLevel_event (level : k ≠ .serviceLevel) : (recomputeLevel s).event k = s.event k := by
  rcases recomputeLevel_cases s with ⟨-, e⟩ | ⟨-, e⟩ <;> rw [e]
  rw [recomputeFloor_event, raise_event, if_neg level.symm]; rfl

theorem csHandover_event (gate : Bool) (switched : Option (Option LinkIx)) (level : k ≠ .serviceLevel) :
    (csHandover gate switched s).event k = s.event k := by
  have handed : (csHandover gate switched s).event k = (switched.elim s fun new => graceAtSwitch new s).event k := by
    rw [csHandover_eq]
    split
    · rw [round_event, recomputeLevel_event _ level]
    · rw [recomputeLevel_event _ level]
  rw [handed]
  rcases switched with _ | _ | _ <;> rfl

/-- SU and CS raise no ZONE_CHANGE of their own: the one of step 3 stands. -/
theorem zoneChange_event (d : ZoneIx) (done : k ≠ .switchDone) (blackout : k ≠ .blackout) (level : k ≠ .serviceLevel) :
    (zoneChange d s).event k = (enterZone d s).event k := by
  rw [zoneChange, csHandover_event _ _ _ level, suZoneChanged_event _ done blackout]

/-- The entry of ZONE_CHANGE after steps 1 to 4 (R57). -/
theorem enterZone_event_zoneChange (d : ZoneIx) : ((enterZone d s).event .zoneChange).pending = true
    ∧ ((enterZone d s).event .zoneChange).detail = some (.zone d (s.zu.gen + 1)) := by
  have raised : (enterZone d s).event .zoneChange
      = (raise .zoneChange (some (.zone d (s.zu.gen + 1)))
          { s with zu := { s.zu with zoneIx := d, zone := s.zu.table[d], gen := s.zu.gen + 1 } }).event .zoneChange :=
    rfl
  rw [raised, raise_event, if_pos rfl]
  exact ⟨rfl, rfl⟩

end

/-- The gate of an entry kind: CLOSED for GUARDED, else OPEN (R73). -/
theorem gateOf_eq (e : EntryKind) : gateOf e = if e = .guarded then .closed else .open := by cases e <;> rfl

/-- Settles O36: ZU by `zoneChange_zu`, the event by `zoneChange_event`, and the hand-over as it is defined. -/
theorem zoneChangeCopiesDescriptor : Obligations.ZoneChangeCopiesDescriptor := by
  intro s d
  obtain ⟨pending, detail⟩ := enterZone_event_zoneChange s d
  have event : (zoneChange d s).event .zoneChange = (enterZone d s).event .zoneChange :=
    zoneChange_event s d (by decide) (by decide) (by decide)
  refine ⟨by rw [zoneChange_zu, gateOf_eq], by rw [event, pending], by rw [event, detail], zoneChange_contexts s d, ?_⟩
  intro gate copied raised r
  have entered : enterZone d s = { raised with zu := { raised.zu with gate := gate } } := by
    simp only [gate, ← gateOf_eq]; rfl
  have after : r.state.zu.gate = gate := by simp only [r, suZoneChanged_zu]
  have changed : (r.state.zu.gate != s.zu.gate) = decide (gate ≠ s.zu.gate) := by
    rw [after]; cases gate <;> cases s.zu.gate <;> rfl
  rw [zoneChange, entered, ← changed]

/-! ### The position deadlines (R50, R51) -/

section
variable {s : State} {d : Time}

theorem not_reached (early : s.me.clock.toNat < d.toNat) : s.reached d = false :=
  decide_eq_false (Nat.not_le.mpr early)

theorem staleDeadline_reached (fresh : s.zu.pos.state = .fresh) (at_ : s.zu.pos.stale = some d)
    (reached : d.toNat ≤ s.me.clock.toNat) : staleDeadline s = raise .positionStale none
      { s with zu := { s.zu with pos := { s.zu.pos with state := .stale, stale := none } } } := by
  simp only [staleDeadline, fresh, at_, (s.reached_iff d).mpr reached, if_true]

theorem staleDeadline_early (at_ : s.zu.pos.stale = some d) (early : s.me.clock.toNat < d.toNat) :
    staleDeadline s = s := by
  unfold staleDeadline
  split
  · next e _ stale => cases at_.symm.trans stale; rw [not_reached early]; rfl
  · rfl

theorem staleDeadline_other (other : s.zu.pos.state ≠ .fresh) : staleDeadline s = s := by
  unfold staleDeadline
  split
  · next fresh _ => exact absurd fresh other
  · rfl

theorem lostDeadline_reached (stale : s.zu.pos.state = .stale) (at_ : s.zu.pos.lost = some d)
    (reached : d.toNat ≤ s.me.clock.toNat) : lostDeadline s = zoneChange 0 (setCandidate none 0
      (raise .positionLost none
        { s with zu := { s.zu with pos := { s.zu.pos with state := .lost, lost := none } } })) := by
  simp only [lostDeadline, stale, at_, (s.reached_iff d).mpr reached, if_true]

theorem lostDeadline_early (at_ : s.zu.pos.lost = some d) (early : s.me.clock.toNat < d.toNat) :
    lostDeadline s = s := by
  unfold lostDeadline
  split
  · next e _ lost => cases at_.symm.trans lost; rw [not_reached early]; rfl
  · rfl

theorem lostDeadline_other (other : s.zu.pos.state ≠ .stale) : lostDeadline s = s := by
  unfold lostDeadline
  split
  · next stale _ => exact absurd stale other
  · rfl

end

/-- Settles O41, by the three cases of each deadline: at its time, before it, and in another state. -/
theorem positionDeadlinesAge : Obligations.PositionDeadlinesAge := by
  intro s d free
  have stales : exec .staleDeadline s = .next (staleDeadline s) := congrArg _ (unlessHeld_of_free s _ free)
  have loses : exec .lostDeadline s = .next (lostDeadline s) := congrArg _ (unlessHeld_of_free s _ free)
  rw [stales, loses]
  exact ⟨fun fresh at_ => ⟨fun reached => congrArg _ (staleDeadline_reached fresh at_ reached),
      fun early => congrArg _ (staleDeadline_early at_ early)⟩,
    fun stale at_ => ⟨fun reached => congrArg _ (lostDeadline_reached stale at_ reached),
      fun early => congrArg _ (lostDeadline_early at_ early)⟩,
    fun other => congrArg _ (staleDeadline_other other), fun other => congrArg _ (lostDeadline_other other)⟩

end Sys2Proof.Machine
end

section
/-! Position Report (R46 to R49, R52, R55, R56, R63). -/

namespace Sys2Proof.Machine

/-! ### Values of a list, by code (R186) -/

/-- A code past the last of its list is no value. -/
theorem read_beyond {α : Type} {read : Byte → Option α} {code : α → Nat} {last : Nat}
    (iff : ∀ b x, read b = some x ↔ b.toNat = code x) (upTo : ∀ x, code x ≤ last) {b : Byte}
    (beyond : last < b.toNat) : read b = none :=
  Option.eq_none_iff_forall_ne_some.mpr fun x found => by
    have := (iff b x).mp found
    have := upTo x
    omega

theorem readQuality_iff (b : Byte) (q : Quality) : readQuality b = some q ↔ b.toNat = q.code := by
  unfold readQuality
  rcases h : b.toNat with _ | _ | _ | n <;> cases q <;> simp [Quality.code]

theorem readQuality_beyond {b : Byte} (beyond : 2 < b.toNat) : readQuality b = none :=
  read_beyond readQuality_iff (fun q => by cases q <;> decide) beyond

/-! ### The request (R46) -/

section
variable {s : State} {a : PositionArgs} {q : Quality}

theorem positionReport_taken (quality : readQuality a.quality = some q) (route : a.a.toNat ≤ 1048575)
    (past : a.fixTime.toNat ≤ s.me.clock.toNat) {o : ReportOutcome} {t : State}
    (taken : takeReport a.a.toNat a.x.toInt q a.fixTime s = (o, t)) :
    positionReport a s = (.ok (reportItems o s.zu t.zu), t) := by
  have inside : ¬ (a.a.toNat > 1048575 ∨ a.fixTime.toNat > s.now.toNat) := by
    rw [State.now]; omega
  simp only [positionReport, quality, if_neg inside, taken]

theorem positionReport_refused
    (bad : 1048575 < a.a.toNat ∨ s.me.clock.toNat < a.fixTime.toNat ∨ 2 < a.quality.toNat) :
    positionReport a s = (.refuse .badArgument, s) := by
  unfold positionReport
  split
  · next q quality =>
    have known : ¬ 2 < a.quality.toNat := fun beyond => by simp [readQuality_beyond beyond] at quality
    have outside : a.a.toNat > 1048575 ∨ a.fixTime.toNat > s.now.toNat := by
      rw [State.now]; omega
    rw [if_pos outside]; rfl
  · rfl

/-- A request that passes the checks of R46 is answered with the outcome of its report. -/
theorem exec_positionReport {rq : Request} (passes : Passes s rq .positionReport)
    (quality : readQuality a.quality = some q) (route : a.a.toNat ≤ 1048575)
    (past : a.fixTime.toNat ≤ s.me.clock.toNat) {o : ReportOutcome} {t : State}
    (taken : takeReport a.a.toNat a.x.toInt q a.fixTime (s.got rq.port) = (o, t)) :
    exec (.positionReport rq a) s = .next (answerOk rq .positionReport (reportItems o s.zu t.zu) t) :=
  ask_ok passes (positionReport_taken (s := s.got rq.port) quality route past taken)

end

/-! ### The outcome of a report (R47 to R49) -/

section
variable {s : State} {a : Nat} {x : Int} {q : Quality} {fix : Time}

theorem takeReport_notUsed : takeReport a x .none fix s = (.notUsed, s) := rfl

/-- The report is beyond the max step of a position that is not LOST (R48). -/
theorem beyondStep_iff : (s.zu.pos.state != .lost && decide (stepSize a s.zu.pos.a > s.zu.maxStep)) = true
    ↔ s.zu.pos.state ≠ .lost ∧ s.zu.maxStep < max a s.zu.pos.a - min a s.zu.pos.a := by
  simp [stepSize]

theorem takeReport_rejected (given : q ≠ .none) (held : s.zu.pos.state ≠ .lost)
    (beyond : s.zu.maxStep < max a s.zu.pos.a - min a s.zu.pos.a) : takeReport a x q fix s
      = (.rejected, { s with zu := { s.zu with pos := { s.zu.pos with rejected := s.zu.pos.rejected + 1 } } }) := by
  unfold takeReport
  split
  · exact absurd rfl given
  · rw [if_pos (beyondStep_iff.mpr ⟨held, beyond⟩)]

theorem takeReport_used (given : q ≠ .none)
    (near : s.zu.pos.state = .lost ∨ max a s.zu.pos.a - min a s.zu.pos.a ≤ s.zu.maxStep) :
    takeReport a x q fix s = (.used, acceptReport a x q fix s) := by
  have within : ¬ (s.zu.pos.state ≠ .lost ∧ s.zu.maxStep < max a s.zu.pos.a - min a s.zu.pos.a) := by
    rintro ⟨held, beyond⟩
    exact near.elim held fun le => Nat.not_lt.mpr le beyond
  unfold takeReport
  split
  · exact absurd rfl given
  · rw [if_neg (mt beyondStep_iff.mp within)]

@[simp] theorem zoneFault_zu : (zoneFault a x s).zu = s.zu := by
  unfold zoneFault
  split
  · split
    · rfl
    · exact raise_zu ..
  · rfl

theorem faulted_table : (zoneFault a x (acceptPosition a x q fix s)).zu.table = s.zu.table := by
  rw [zoneFault_zu]; rfl

/-- The first report after LOST makes its decision at once and tests no comparator (R52, R63). -/
theorem acceptReport_first (lost : s.zu.pos.state = .lost) : acceptReport a x q fix s
    = enterAtOnce (candidateOf s.zu.table a x) (zoneFault a x (acceptPosition a x q fix s)) := by
  simp only [acceptReport, lost, faulted_table]

/-- Another report confirms its candidate, then tests W0 and W1 (R56, R63). -/
theorem acceptReport_later (held : s.zu.pos.state ≠ .lost) : acceptReport a x q fix s
    = testWaypoint .w1 s.zu.pos.a a (testWaypoint .w0 s.zu.pos.a a
        (confirm (candidateOf s.zu.table a x) (zoneFault a x (acceptPosition a x q fix s)))) := by
  simp only [acceptReport, faulted_table]

end

/-! ### The zone decision (R52, R56) -/

section
variable {s : State} {c : ZoneIx}

theorem enterAtOnce_same (same : c = s.zu.zoneIx) : enterAtOnce c s = setCandidate none 0 s := if_pos same

theorem enterAtOnce_other (other : c ≠ s.zu.zoneIx) : enterAtOnce c s = setCandidate none 0 (zoneChange c s) :=
  if_neg other

theorem confirm_same (same : c = s.zu.zoneIx) : confirm c s = setCandidate none 0 s := if_pos same

theorem confirm_counts (other : c ≠ s.zu.zoneIx) (below : confirmCountOf s c < s.zu.confirmCount) :
    confirm c s = setCandidate (some c) (confirmCountOf s c) s := by
  rw [confirm, if_neg other, if_neg (Nat.not_le.mpr below)]

theorem confirm_confirmed (other : c ≠ s.zu.zoneIx) (reached : s.zu.confirmCount ≤ confirmCountOf s c) :
    confirm c s = setCandidate none 0 (zoneChange c s) := by
  rw [confirm, if_neg other, if_pos reached]

end

/-! ### What a report answers (R46) -/

theorem optBytes_candidate (c : Option ZoneIx) :
    optBytes 1 (c.map Fin.val) = c.elim [] fun d => [BitVec.ofNat 8 d.val] := by
  cases c with
  | none => rfl
  | some d => exact byte_eq d.val

theorem firedItems_eq (before after : Zu) : firedItems before after
    = (if before.w0.armed = true ∧ after.w0.armed = false then [⟨8, [0]⟩] else [])
      ++ (if before.w1.armed = true ∧ after.w1.armed = false then [⟨8, [1]⟩] else []) := by
  have fired (w v : Waypoint) : (w.armed && !v.armed) = true ↔ w.armed = true ∧ v.armed = false := by simp
  simp only [firedItems, fired]
  rfl

/-- Settles O37: the checks of R46, then the two outcomes that take nothing of the position. -/
theorem positionReportIsNotUsedOrRejected : Obligations.PositionReportIsNotUsedOrRejected := by
  intro s rq a passes s'
  refine ⟨fun bad => ask_no passes (positionReport_refused bad), fun route past => ⟨fun none => ?_, ?_⟩, ?_⟩
  · have quality : readQuality a.quality = some .none := by rw [none]; rfl
    exact exec_positionReport passes quality route past takeReport_notUsed
  · intro given held beyond zu
    obtain ⟨q, quality, taken⟩ : ∃ q, readQuality a.quality = some q ∧ q ≠ .none := by
      rcases given with given | given <;> rw [given]
      · exact ⟨.coarse, rfl, by decide⟩
      · exact ⟨.fine, rfl, by decide⟩
    exact exec_positionReport passes quality route past (takeReport_rejected taken held beyond)
  · intro o before after
    rw [reportItems, firedItems_eq, ← List.append_assoc]
    simp only [items, itemsFrom, item, byte_eq, optBytes_candidate]
    cases o <;> cases after.candidate <;> rfl

/-- Settles O38: the record and the fault of R55 are those of the statement, and each decision is one of `enterAtOnce`
or `confirm`. -/
theorem acceptedReportDecidesZone : Obligations.AcceptedReportDecidesZone := by
  intro s rq a q passes route past quality given c zu written s' done tested near count stays counts changed changes
  have faulted :
      zoneFault a.a.toNat a.x.toInt (acceptPosition a.a.toNat a.x.toInt q a.fixTime (s.got rq.port)) = s' := by
    have accepted : acceptPosition a.a.toNat a.x.toInt q a.fixTime (s.got rq.port) = written := rfl
    rw [accepted]
    cases first : firstMatch s.zu.table a.a.toNat a.x.toInt with
    | none => simp only [s', first]; exact zoneFault_unmatched (s := written) first
    | some d =>
      cases present : s.zu.table[d].present with
      | true => simp only [s', first, present]; exact zoneFault_present (s := written) first present
      | false => simp only [s', first, present]; exact zoneFault_absent (s := written) first present
  have record : s'.zu = zu := by rw [← faulted, zoneFault_zu]; rfl
  have zone : s'.zu.zoneIx = s.zu.zoneIx := by rw [record]
  have needed : s'.zu.confirmCount = s.zu.confirmCount := by rw [record]
  have counted : confirmCountOf s' c = count := by rw [confirmCountOf, record]
  have moves (other : c ≠ s.zu.zoneIx) : c ≠ s'.zu.zoneIx := by rwa [zone]
  have stay : setCandidate none 0 s' = stays := by rw [setCandidate, record]
  have counting : setCandidate (some c) (confirmCountOf s' c) s' = counts := by rw [counted, setCandidate, record]
  have changing : setCandidate none 0 (zoneChange c s') = changes := rfl
  have answers (t : State) (near : s.zu.pos.state = .lost
      ∨ max a.a.toNat s.zu.pos.a - min a.a.toNat s.zu.pos.a ≤ s.zu.maxStep)
      (accepts : acceptReport a.a.toNat a.x.toInt q a.fixTime (s.got rq.port) = t) : done t :=
    exec_positionReport passes quality route past (accepts ▸ takeReport_used given near)
  refine ⟨fun lost => ?_, fun near => ?_⟩
  · have decides (t : State) (decision : enterAtOnce c s' = t) : done t :=
      answers t (.inl lost) ((acceptReport_first (s := s.got rq.port) lost).trans (by rw [faulted]; exact decision))
    exact ⟨fun same => decides stays ((enterAtOnce_same (same.trans zone.symm)).trans stay),
      fun other => decides changes ((enterAtOnce_other (moves other)).trans changing)⟩
  · obtain ⟨held, close⟩ := near
    have decides (t : State) (decision : confirm c s' = t) : done (tested t) :=
      answers _ (.inr close) ((acceptReport_later (s := s.got rq.port) held).trans
        (by rw [faulted]; exact congrArg tested decision))
    exact ⟨fun same => decides stays ((confirm_same (same.trans zone.symm)).trans stay),
      fun other below => decides counts ((confirm_counts (moves other) (by rwa [counted, needed])).trans counting),
      fun other reached => decides changes
        ((confirm_confirmed (moves other) (by rwa [counted, needed])).trans changing)⟩

end Sys2Proof.Machine
end

section
/-! Waypoint comparators (R62 to R64). -/

namespace Sys2Proof.Machine

/-! ### Values of a list, by code (R186) -/

theorem readWaypointId_iff (b : Byte) (i : WaypointId) : readWaypointId b = some i ↔ b.toNat = i.code := by
  unfold readWaypointId
  rcases h : b.toNat with _ | _ | n <;> cases i <;> simp [WaypointId.code]

theorem readHeading_iff (b : Byte) (x : Heading) : readHeading b = some x ↔ b.toNat = x.code := by
  unfold readHeading
  rcases h : b.toNat with _ | _ | n <;> cases x <;> simp [Heading.code]

theorem readAction_iff (b : Byte) (x : WaypointAction) : readAction b = some x ↔ b.toNat = x.code := by
  unfold readAction
  rcases h : b.toNat with _ | _ | n <;> cases x <;> simp [WaypointAction.code]

theorem WaypointId.code_le (i : WaypointId) : i.code ≤ 1 := by cases i <;> decide
theorem Heading.code_le (x : Heading) : x.code ≤ 1 := by cases x <;> decide
theorem WaypointAction.code_le (x : WaypointAction) : x.code ≤ 1 := by cases x <;> decide

/-! ### A comparator that is tested (R63, R64) -/

/-- The two positions straddle the value in the comparator's direction (R63). -/
def Waypoint.Straddled (w : Waypoint) (before after : Nat) : Prop :=
  (w.heading = .increasing ∧ before < w.value ∧ w.value ≤ after)
  ∨ (w.heading = .decreasing ∧ w.value < before ∧ after ≤ w.value)

theorem Waypoint.fires_iff (w : Waypoint) (before after : Nat) :
    w.fires before after = true ↔ w.armed = true ∧ w.Straddled before after := by
  unfold Waypoint.fires Waypoint.Straddled
  cases w.heading <;> simp

/-- WAYPOINT is raised and the comparator disarmed (R63). -/
def fireWaypoint (i : WaypointId) (s : State) : State :=
  (raise .waypoint (some (.waypoint i)) s).setWaypoint i { s.zu.waypoint i with armed := false }

@[simp] theorem setWaypoint_su (s : State) (i : WaypointId) (w : Waypoint) : (s.setWaypoint i w).su = s.su := by
  cases i <;> rfl

@[simp] theorem fireWaypoint_su (i : WaypointId) (s : State) : (fireWaypoint i s).su = s.su := by
  rw [fireWaypoint, setWaypoint_su, raise_su]

section
variable {s : State} {i : WaypointId} {before after : Nat}

theorem testWaypoint_still (still : ¬ (s.zu.waypoint i).fires before after = true) :
    testWaypoint i before after s = s := if_neg still

theorem testWaypoint_notify (fires : (s.zu.waypoint i).fires before after = true)
    (action : (s.zu.waypoint i).action = .notify) : testWaypoint i before after s = fireWaypoint i s := by
  simp only [testWaypoint, if_pos fires, action, fireWaypoint]

/-- A COMMIT firing is a moment of trigger WAYPOINT (R64). -/
theorem testWaypoint_commit (fires : (s.zu.waypoint i).fires before after = true)
    (action : (s.zu.waypoint i).action = .commit) :
    testWaypoint i before after s = triggerMoment .waypoint (fireWaypoint i s) := by
  simp only [testWaypoint, if_pos fires, action, fireWaypoint]

end

/-! ### A moment of a trigger (R140) -/

section
variable {s : State} {t : Trigger}

theorem triggerMoment_reaches {st : Stage} (pending : s.su.stage = some st) (trigger : st.trigger = t)
    (untriggered : st.condition = .untriggered) : triggerMoment t s = tellCs (fireTrigger s) := by
  simp [triggerMoment, pending, steerIf, trigger, untriggered]

theorem triggerMoment_passes_by
    (other : ∀ st, s.su.stage = some st → st.trigger ≠ t ∨ st.condition ≠ .untriggered) : triggerMoment t s = s := by
  unfold triggerMoment
  split
  · next st pending =>
    have no : (st.trigger == t && st.condition == .untriggered) = false := by
      simpa [imp_iff_not_or] using other st pending
    rw [no]; rfl
  · rfl

end

/-! ### Arm and Disarm Waypoint (R62) -/

section
variable {s : State} {a : WaypointArgs}

theorem armWaypoint_taken {i : WaypointId} {h : Heading} {act : WaypointAction}
    (comparator : a.comparator.toNat = i.code) (direction : a.direction.toNat = h.code)
    (action : a.action.toNat = act.code) (route : a.value.toNat ≤ 1048575) :
    armWaypoint a s = (.ok [], s.setWaypoint i ⟨a.value.toNat, h, act, true⟩) := by
  simp only [armWaypoint, (readWaypointId_iff _ _).mpr comparator, (readHeading_iff _ _).mpr direction,
    (readAction_iff _ _).mpr action, if_neg (Nat.not_lt.mpr route)]

theorem armWaypoint_refused
    (bad : 1 < a.comparator.toNat ∨ 1048575 < a.value.toNat ∨ 1 < a.direction.toNat ∨ 1 < a.action.toNat) :
    armWaypoint a s = (.refuse .badArgument, s) := by
  unfold armWaypoint
  split
  · next i h act comparator direction action =>
    rw [readWaypointId_iff] at comparator
    rw [readHeading_iff] at direction
    rw [readAction_iff] at action
    have := i.code_le
    have := h.code_le
    have := act.code_le
    have beyond : a.value.toNat > 1048575 := by omega
    rw [if_pos beyond]; rfl
  · rfl

theorem disarmWaypoint_taken {i : WaypointId} {c : Byte} (comparator : c.toNat = i.code) : disarmWaypoint c s
    = (.ok (items [yesNo (s.zu.waypoint i).armed]), s.setWaypoint i { s.zu.waypoint i with armed := false }) := by
  simp only [disarmWaypoint, (readWaypointId_iff _ _).mpr comparator]

theorem disarmWaypoint_refused {c : Byte} (beyond : 1 < c.toNat) :
    disarmWaypoint c s = (.refuse .badArgument, s) := by
  simp only [disarmWaypoint, read_beyond readWaypointId_iff WaypointId.code_le beyond, refused_eq]

end

/-- Settles O39: the cases of a test, then the two requests. -/
theorem waypointsArmAndFire : Obligations.WaypointsArmAndFire := by
  refine ⟨fun s i before after => ?_, fun s rq i h act v c comparator => ⟨fun passes => ?_, fun passes => ?_⟩,
    fun s rq a passes bad => ask_no passes (armWaypoint_refused bad)⟩
  · intro w straddles fired
    have fires (armed : w.armed = true) (at_ : straddles) : (s.zu.waypoint i).fires before after = true :=
      (w.fires_iff before after).mpr ⟨armed, at_⟩
    refine ⟨fun still => testWaypoint_still (mt (w.fires_iff before after).mp still),
      fun armed at_ action => testWaypoint_notify (fires armed at_) action, fun armed at_ action other => ?_,
      fun armed at_ action pending => ?_⟩
    · rw [testWaypoint_commit (fires armed at_) action]
      exact triggerMoment_passes_by (by rwa [fireWaypoint_su])
    · obtain ⟨st, pending, trigger, untriggered⟩ := pending
      rw [testWaypoint_commit (fires armed at_) action]
      exact triggerMoment_reaches (by rw [fireWaypoint_su, pending]) trigger untriggered
  · have direction : (BitVec.ofNat 8 h.code).toNat = h.code := by cases h <;> rfl
    have action : (BitVec.ofNat 8 act.code).toNat = act.code := by cases act <;> rfl
    exact ⟨fun route => ask_ok passes (armWaypoint_taken comparator direction action route),
      fun beyond => ask_no passes (armWaypoint_refused (.inr (.inl beyond)))⟩
  · exact ⟨ask_ok passes (disarmWaypoint_taken comparator),
      fun b beyond => ask_no passes (disarmWaypoint_refused beyond)⟩

end Sys2Proof.Machine
end

section
/-! Write Zone, Reload Zone and Open Attach (R53, R59, R61, R75, R76). -/

namespace Sys2Proof.Machine

/-! ### Values of a list, by code (R186) -/

theorem readYesNo_iff (b : Byte) (x : Bool) : readYesNo b = some x ↔ b.toNat = if x = true then 0 else 1 := by
  unfold readYesNo
  rcases h : b.toNat with _ | _ | n <;> cases x <;> simp

theorem readZoneKind_iff (b : Byte) (x : ZoneKind) : readZoneKind b = some x ↔ b.toNat = x.code := by
  unfold readZoneKind
  rcases h : b.toNat with _ | _ | _ | n <;> cases x <;> simp [ZoneKind.code]

theorem readPermit_iff (b : Byte) (x : Permit) : readPermit b = some x ↔ b.toNat = x.code := by
  unfold readPermit
  rcases h : b.toNat with _ | _ | _ | n <;> cases x <;> simp [Permit.code]

theorem readEntryKind_iff (b : Byte) (x : EntryKind) : readEntryKind b = some x ↔ b.toNat = x.code := by
  unfold readEntryKind
  rcases h : b.toNat with _ | _ | n <;> cases x <;> simp [EntryKind.code]

theorem ZoneKind.code_le (x : ZoneKind) : x.code ≤ 2 := by cases x <;> decide
theorem Permit.code_le (x : Permit) : x.code ≤ 2 := by cases x <;> decide
theorem EntryKind.code_le (x : EntryKind) : x.code ≤ 1 := by cases x <;> decide

/-- A set is read when every member is in range: those named, ascending. -/
theorem readSet_eq_some {n : Nat} (bs : List Byte) (xs : List (Fin n)) : readSet n bs = some xs ↔
    (∀ b ∈ bs, b.toNat < n) ∧ xs = (List.finRange n).filter fun i => bs.any fun b => b.toNat == i.val := by
  unfold readSet
  by_cases all : ∀ b ∈ bs, b.toNat < n
  · rw [if_pos (by simpa using all), Option.some_inj]
    exact ⟨fun e => ⟨all, e.symm⟩, fun h => h.2.symm⟩
  · rw [if_neg (by simpa using all)]
    exact ⟨fun h => (nomatch h), fun h => absurd h.1 all⟩

/-! ### The descriptor a Write Zone gives (R53, R59) -/

/-- The arguments are within the ranges of R53, and descriptor `z` is made of them, each enumeration by its code. -/
structure SpellsZone (a : ZoneArgs) (z : Zone) : Prop where
  present : a.present.toNat = if z.present = true then 0 else 1
  start : a.start.toNat = z.start
  length : a.length.toNat = z.length
  crossLimit : a.crossLimit.toNat = z.crossLimit
  kind : a.kind.toNat = z.kind.code
  realm : a.realm.toNat = z.realm.val
  permit : a.permit.toNat = z.permit.code
  entryKind : a.entryKind.toNat = z.entryKind.code
  admission : a.admission.toNat = z.admission
  rates : a.rates = z.rates
  linkMask : z.linkMask = (List.finRange 8).filter fun k => a.linkMask.any fun b => b.toNat == k.val
  start_le : z.start ≤ 1048575
  length_pos : 1 ≤ z.length
  length_le : z.length ≤ 1048576
  crossLimit_le : z.crossLimit ≤ 32767
  admission_pos : 1 ≤ z.admission
  admission_le : z.admission ≤ 8
  links_few : a.linkMask.length ≤ 8
  links_lt : ∀ b ∈ a.linkMask, b.toNat < 8

theorem readZoneFields_of_spells {a : ZoneArgs} {z : Zone} (spells : SpellsZone a z) : readZoneFields a = some z := by
  obtain ⟨present, start, length, crossLimit, kind, realm, permit, entryKind, admission, rates, linkMask, start_le,
    length_pos, length_le, crossLimit_le, admission_pos, admission_le, links_few, links_lt⟩ := spells
  have mask := (readSet_eq_some a.linkMask z.linkMask).mpr ⟨links_lt, linkMask⟩
  simp only [readZoneFields, (readYesNo_iff _ _).mpr present, (readZoneKind_iff _ _).mpr kind,
    (inRange_eq_some z.realm).mpr realm, (readPermit_iff _ _).mpr permit, (readEntryKind_iff _ _).mpr entryKind, mask,
    start, length, crossLimit, admission, rates]
  exact if_pos ⟨links_few, start_le, length_pos, length_le, crossLimit_le, admission_pos, admission_le⟩

theorem spells_of_readZoneFields {a : ZoneArgs} {z : Zone} (read : readZoneFields a = some z) : SpellsZone a z := by
  unfold readZoneFields at read
  split at read
  · next present kind realm permit entryKind mask =>
    split at read
    · next ranges =>
      obtain ⟨links_few, start_le, length_pos, length_le, crossLimit_le, admission_pos, admission_le⟩ := ranges
      cases read
      obtain ⟨links_lt, linkMask⟩ := (readSet_eq_some _ _).mp mask
      exact ⟨(readYesNo_iff _ _).mp present, rfl, rfl, rfl, (readZoneKind_iff _ _).mp kind,
        (inRange_eq_some _).mp realm, (readPermit_iff _ _).mp permit, (readEntryKind_iff _ _).mp entryKind, rfl, rfl,
        linkMask, start_le, length_pos, length_le, crossLimit_le, admission_pos, admission_le, links_few, links_lt⟩
    · cases read
  · cases read

/-! ### Write Zone (R59) -/

section
variable {s : State} {a : ZoneArgs}

theorem writeZone_taken {d : ZoneIx} {z : Zone} (index : a.index.toNat = d.val) (kept : d ≠ 0 ∨ z.present = true)
    (spells : SpellsZone a z) : writeZone a s = (.ok (items [yesNo (d == s.zu.zoneIx)]),
      { s with zu := { s.zu with table := s.zu.table.set d z } }) := by
  have no : ¬ (d = 0 ∧ z.present = false) := by
    rintro ⟨zero, absent⟩
    exact kept.elim (· zero) fun present => Bool.false_ne_true (absent.symm.trans present)
  simp only [writeZone, (inRange_eq_some d).mpr index, readZoneFields_of_spells spells, if_neg no]

/-- A Write Zone is refused past the table, with fields that spell no descriptor, or for descriptor 0 absent. -/
theorem writeZone_refused
    (bad : ∀ (d : ZoneIx) (z : Zone), a.index.toNat = d.val → SpellsZone a z → d = 0 ∧ z.present = false) :
    writeZone a s = (.refuse .badArgument, s) := by
  unfold writeZone
  split
  · next d z index fields =>
    rw [if_pos (bad d z ((inRange_eq_some d).mp index) (spells_of_readZoneFields fields))]; rfl
  · rfl

/-- Of what R59 refuses, fields that spell a descriptor can only be descriptor 0 absent: the rest is outside R53. -/
theorem SpellsZone.zero_absent_of_outside {z : Zone} {d : ZoneIx} (spells : SpellsZone a z) (index : a.index.toNat = d.val)
    (bad : 8 < a.linkMask.length ∨ 63 < a.index.toNat ∨ 1048575 < a.start.toNat ∨ a.length = 0
      ∨ 1048576 < a.length.toNat ∨ 32767 < a.crossLimit.toNat ∨ 15 < a.realm.toNat ∨ a.admission = 0
      ∨ 8 < a.admission.toNat ∨ (∃ b ∈ a.linkMask, 7 < b.toNat) ∨ 1 < a.present.toNat ∨ 2 < a.kind.toNat
      ∨ 2 < a.permit.toNat ∨ 1 < a.entryKind.toNat ∨ (a.index = 0 ∧ a.present = 1)) :
    a.index.toNat = 0 ∧ a.present.toNat = 1 := by
  obtain ⟨present, start, length, crossLimit, kind, realm, permit, entryKind, admission, -, -, start_le,
    length_pos, length_le, crossLimit_le, admission_pos, admission_le, links_few, links_lt⟩ := spells
  have links : ¬ ∃ b ∈ a.linkMask, 7 < b.toNat := by
    rintro ⟨b, mem, beyond⟩
    have := links_lt b mem
    omega
  have := d.isLt
  have := z.realm.isLt
  have := z.kind.code_le
  have := z.permit.code_le
  have := z.entryKind.code_le
  have present_le : a.present.toNat ≤ 1 := by rw [present]; split <;> omega
  simp only [links, false_or, ← BitVec.toNat_inj, BitVec.ofNat_eq_ofNat, BitVec.toNat_ofNat, Nat.zero_mod,
    Nat.one_mod] at bad
  omega

end

/-! ### Reload Zone and Open Attach (R61, R75) -/

section
variable {s : State}

theorem reloadZone_present (present : s.zu.table[s.zu.zoneIx].present = true) : reloadZone s
    = (.ok [item 1 (byte s.zu.zoneIx.val), item 2 (beBytes 2 (s.zu.gen + 1).toNat)], zoneChange s.zu.zoneIx s) := by
  simp only [reloadZone, if_pos present, zoneChange_zu]
  rfl

theorem reloadZone_absent (absent : s.zu.table[s.zu.zoneIx].present = false) :
    reloadZone s = (.refuse .notPresent, s) := by
  simp only [reloadZone, absent, Bool.false_eq_true, if_false, refused_eq]

theorem openAttach_closed (closed : s.zu.gate = .closed) : openAttach s
    = (.ok [item 1 (byte 1)], round { s with zu := { s.zu with gate := .open } }) := by
  simp only [openAttach, closed]
  rfl

theorem openAttach_open (isOpen : s.zu.gate = .open) : openAttach s = (.ok [item 1 (byte 0)], s) := by
  simp only [openAttach, isOpen]
  rfl

end

/-- Settles O40: Write Zone by what its fields spell, the others by their two cases. -/
theorem zoneRequestsAct : Obligations.ZoneRequestsAct := by
  refine ⟨?_, fun s rq passes => ⟨fun present => ?_, fun absent => ?_⟩,
    fun s rq passes => ⟨fun closed => ?_, fun isOpen => ?_⟩⟩
  · intro s rq a d z passes no
    refine ⟨?_, fun bad => ask_no passes (writeZone_refused fun e y index spells => ?_)⟩
    · intro index kept present start start_le length length_pos length_le crossLimit crossLimit_le kind realm permit
        entryKind admission admission_pos admission_le rates links_few links_le linkMask
      have spells : SpellsZone a z :=
        ⟨by rw [present]; split <;> rfl, start, length, crossLimit, by rw [kind]; cases z.kind <;> rfl, realm,
          by rw [permit]; cases z.permit <;> rfl, by rw [entryKind]; cases z.entryKind <;> rfl, admission, rates,
          linkMask, start_le, length_pos, length_le, crossLimit_le, admission_pos, admission_le, links_few,
          fun b mem => Nat.lt_succ_of_le (links_le b mem)⟩
      exact ask_ok passes (writeZone_taken (s := s.got rq.port) index kept spells)
    · obtain ⟨zero, absent⟩ := spells.zero_absent_of_outside index bad
      exact ⟨Fin.ext (index.symm.trans zero), by simpa [absent] using spells.present⟩
  · exact ask_ok passes (reloadZone_present (s := s.got rq.port) present)
  · exact ask_no passes (reloadZone_absent (s := s.got rq.port) absent)
  · exact ask_ok passes (openAttach_closed (s := s.got rq.port) closed)
  · exact ask_ok passes (openAttach_open (s := s.got rq.port) isOpen)

end Sys2Proof.Machine
end

section
/-! Barring failures and the bearer notices they send (R42, R70). -/

namespace Sys2Proof.Machine

section
variable (s : State) (i : CtxIx)

/-! ### One barring failure, and the next in its generation (R70) -/

theorem barringFailure_notified {s : State} {i : CtxIx} (notified : (s.ctx i).notifiedGen = s.zu.gen) :
    barringFailure i s = s := by
  rcases barringFailure_cases s i with ⟨-, e⟩ | ⟨unnotified, -⟩
  · exact e
  · exact absurd notified unnotified

theorem barringFailure_notifies {s : State} {i : CtxIx} (unnotified : (s.ctx i).notifiedGen ≠ s.zu.gen) :
    barringFailure i s = sendBearerNotice i { s.ctx i with notifiedGen := s.zu.gen }
      (.barred s.zu.zone.realm s.zu.gen) (s.setCtx i { s.ctx i with notifiedGen := s.zu.gen }) := by
  rcases barringFailure_cases s i with ⟨notified, -⟩ | ⟨-, e⟩
  · exact absurd notified unnotified
  · exact e

@[simp] theorem barringFailure_zu : (barringFailure i s).zu = s.zu := by
  rcases barringFailure_cases s i with ⟨-, e⟩ | ⟨-, e⟩ <;> rw [e]
  rw [sendBearerNotice_zu, State.setCtx_zu]

@[simp] theorem barringFailure_notifiedGen : ((barringFailure i s).ctx i).notifiedGen = s.zu.gen := by
  rcases barringFailure_cases s i with ⟨notified, e⟩ | ⟨-, e⟩ <;> rw [e]
  · exact notified
  · rw [sendBearerNotice_ctx, State.setCtx_ctx, if_pos rfl]

/-- After a barring failure its context is notified in the generation, which the failure keeps. -/
@[simp] theorem barringFailure_idem : barringFailure i (barringFailure i s) = barringFailure i s :=
  barringFailure_notified (by rw [barringFailure_notifiedGen, barringFailure_zu])

/-! ### A notice by the state of the serving unit's entry (R42) -/

variable (c : Context) (n : BearerNotice)

theorem sendBearerNotice_unused (unused : (s.ru c.servingRu).state = .unused) : sendBearerNotice i c n s = s := by
  rcases sendBearerNotice_cases s i c n with ⟨-, e⟩ | ⟨configured, -⟩
  · exact e
  · exact absurd unused configured

theorem sendBearerNotice_configured (configured : (s.ru c.servingRu).state ≠ .unused) :
    sendBearerNotice i c n s = offerControl (.cell (s.ru c.servingRu).port)
      { dst := (s.ru c.servingRu).addr, body := .bearerNotice n c.bearerId i c.incarnation } s := by
  rcases sendBearerNotice_cases s i c n with ⟨unused, -⟩ | ⟨-, e⟩
  · exact absurd unused configured
  · exact e

end

/-- Settles O15: a failure by whether its generation is notified, then a notice by whether its entry is UNUSED. -/
theorem barringFailureNotifiesOnce : Obligations.BarringFailureNotifiesOnce :=
  ⟨fun s i => ⟨barringFailure_notified, fun unnotified =>
      ⟨barringFailure_notifies unnotified, barringFailure_notifiedGen s i, barringFailure_idem s i⟩⟩,
    fun s i c n => ⟨sendBearerNotice_unused s i c n, sendBearerNotice_configured s i c n⟩⟩

end Sys2Proof.Machine
end

section
/-! The charge of a frame and of a run of frames (R82 to R85). -/

namespace Sys2Proof.Machine

/-- Whole CU and remainder make up the chargeable bytes at the weighted rate and the old remainder (R84). -/
theorem chargeOf_exact (b l rate m f : Nat) :
    256000000 * (chargeOf b l rate m f).cost + (chargeOf b l rate m f).remainder
      = (b - min b l) * (rate * m) + f :=
  Nat.div_add_mod _ chargeDivisor

theorem chargeOf_remainder_lt (b l rate m f : Nat) : (chargeOf b l rate m f).remainder < 256000000 :=
  Nat.mod_lt _ (by decide)

/-- The largest frame at the largest rate, multiplier and remainder costs 2,357 CU (R84). -/
theorem chargeOf_cost_le {b rate m f : Nat} (l : Nat) (payload : b ≤ 9000) (top : rate ≤ 65535) (weight : m ≤ 1023)
    (carried : f < 256000000) : (chargeOf b l rate m f).cost ≤ 2357 := by
  have weighted : (b - min b l) * (rate * m) ≤ 9000 * (65535 * 1023) :=
    Nat.mul_le_mul ((Nat.sub_le _ _).trans payload) (Nat.mul_le_mul top weight)
  have exact := chargeOf_exact b l rate m f
  omega

/-- Charge and remainder of a run so far, after one frame more without allowance (R85). -/
def chargeNext (rate m : Nat) (total : Nat × Nat) (b : Nat) : Nat × Nat :=
  (total.1 + (chargeOf b 0 rate m total.2).cost, (chargeOf b 0 rate m total.2).remainder)

/-- Over a run of frames at one rate the charges and the last remainder make up what the first remainder and the
bytes come to (R85). -/
theorem foldl_chargeNext_exact (rate m : Nat) (bs : List Nat) (total : Nat × Nat) :
    256000000 * (bs.foldl (chargeNext rate m) total).1 + (bs.foldl (chargeNext rate m) total).2
      = bs.sum * (rate * m) + (256000000 * total.1 + total.2) := by
  induction bs generalizing total with
  | nil => simp
  | cons b bs ih =>
    have frame : 256000000 * (chargeOf b 0 rate m total.2).cost + (chargeOf b 0 rate m total.2).remainder
        = b * (rate * m) + total.2 := by simpa using chargeOf_exact b 0 rate m total.2
    rw [List.foldl_cons, ih, List.sum_cons, Nat.add_mul]
    simp only [chargeNext]
    omega

/-- Settles O55: division with remainder, then induction on the run of frames. -/
theorem chargeIsExact : Obligations.ChargeIsExact := by
  refine ⟨fun b l rate m f => ⟨rfl, chargeOf_exact b l rate m f, chargeOf_remainder_lt b l rate m f,
    chargeOf_cost_le l⟩, fun bs rate m f => ?_⟩
  exact (foldl_chargeNext_exact rate m bs (0, f)).trans (by simp)

end Sys2Proof.Machine
end

section
/-! Top Up (R93, R94). -/

namespace Sys2Proof.Machine

section
variable {i : CtxIx} {c : Context} {s : State} {m : BitVec 64} {l : BitVec 32}

theorem topUpNamed_postpaid (postpaid : c.account = .postpaid) : topUpNamed m l i c s = (.refuse .wrongState, s) := by
  simp [topUpNamed, postpaid]

variable (open_ : c.state ≠ .closing) (prepaid : c.account = .prepaid)
include open_ prepaid

theorem topUpNamed_nothing (money : m = 0) (allowance : l = 0) :
    topUpNamed m l i c s = (.refuse .badArgument, s) := by
  simp [topUpNamed, open_, prepaid, money, allowance]

variable (given : m ≠ 0 ∨ l ≠ 0)
include given

/-- Past its first three checks a Top Up is one of the amounts (R93, R94). -/
theorem topUpNamed_of_given : topUpNamed m l i c s
    = if moneyMax < m.toNat then (.refuse .overLimit, s)
      else if moneyMax < c.balance + m.toNat then (.refuse .overLimit, s)
      else if allowanceMax < c.allowance + l.toNat then (.refuse .overLimit, s)
      else
        let d := c.topUp m.toNat l.toNat
        (.ok (items [beInt64 d.balance, beBytes 4 d.allowance, yesNo d.exhausted, yesNo d.low]), s.setCtx i d) := by
  have amounts : ¬ (m = 0 ∧ l = 0) := not_and_or.mpr given
  rw [topUpNamed, if_neg (by simpa using open_), if_neg (by simp [prepaid]), if_neg amounts]
  rfl

theorem topUpNamed_overLimit (beyond : 9999999999 < m.toNat ∨ 9999999999 < c.balance + m.toNat
      ∨ 4294967295 < c.allowance + l.toNat) : topUpNamed m l i c s = (.refuse .overLimit, s) := by
  have money : moneyMax = 9999999999 := rfl
  have allowance : allowanceMax = 4294967295 := rfl
  rw [topUpNamed_of_given open_ prepaid given]
  split
  · rfl
  split
  · rfl
  · exact if_pos (by omega)

theorem topUpNamed_adds (money : m.toNat ≤ 9999999999) (balance : c.balance + m.toNat ≤ 9999999999)
    (allowance : c.allowance + l.toNat ≤ 4294967295) : topUpNamed m l i c s
      = (.ok (items [beInt64 (c.topUp m.toNat l.toNat).balance, beBytes 4 (c.topUp m.toNat l.toNat).allowance,
            yesNo (c.topUp m.toNat l.toNat).exhausted, yesNo (c.topUp m.toNat l.toNat).low]),
          s.setCtx i (c.topUp m.toNat l.toNat)) := by
  have moneyLimit : moneyMax = 9999999999 := rfl
  have allowanceLimit : allowanceMax = 4294967295 := rfl
  rw [topUpNamed_of_given open_ prepaid given, if_neg (by omega), if_neg (by omega), if_neg (by omega)]

end

/-- Settles O31: the checks of `topUpNamed` in order, then the record it writes. -/
theorem topUpAddsMoneyAndAllowance : Obligations.TopUpAddsMoneyAndAllowance := by
  intro s rq n i m l passes names open_ c no
  have taken : topUp n m l (s.got rq.port) = topUpNamed m l i c (s.got rq.port) := named_of_names _ _ (names.got _)
  refine ⟨fun postpaid => ?_, fun prepaid money allowance => ?_, fun prepaid given beyond => ?_,
    fun prepaid given money balance allowance => ?_⟩
  · exact ask_no passes (taken.trans (topUpNamed_postpaid postpaid))
  · exact ask_no passes (taken.trans (topUpNamed_nothing open_ prepaid money allowance))
  · exact ask_no passes (taken.trans (topUpNamed_overLimit open_ prepaid given beyond))
  · exact ask_ok passes (taken.trans (topUpNamed_adds open_ prepaid given money balance allowance))

end Sys2Proof.Machine
end

section
/-! Metering: the checks of R80 in order, and the interval a BEARER entry is metered under (R81, R98, R101). -/

namespace Sys2Proof.Machine

/-! ### The checks of R80 -/

section
variable {s : State} {u : UserEntry} {d : Dir} {m : Multiplier}

/-- An entry that a check refuses is answered with its reason, and nothing else happens but at a barring failure. -/
theorem meter_of_refused {r : DropReason} (check : meterCheck s u = some r) (other : r ≠ .roamBarred) :
    meter u d m s = (some r, s) := by
  unfold meter
  split
  · next barred => exact absurd (Option.some.inj (check.symm.trans barred)) other
  · next barred => rw [← check, barred]
  · next passed => exact absurd (check.symm.trans passed) (Option.some_ne_none r)

theorem meter_stale (stale : u.incarnation ≠ (s.ctx u.ctx).incarnation) :
    meter u d m s = (some .staleContext, s) :=
  meter_of_refused (by simp [meterCheck, stale]) (by decide)

variable (current : u.incarnation = (s.ctx u.ctx).incarnation)
include current

theorem meter_signal (kind : u.frame.kind = .signal)
    (carries : (s.ctx u.ctx).state = .active ∨ (s.ctx u.ctx).state = .suspended) : meter u d m s = (none, s) := by
  have passed : meterCheck s u = none := by simp [meterCheck, current, kind, carries]
  simp [meter, passed, kind]

theorem meter_signal_notActive (kind : u.frame.kind = .signal)
    (idle : (s.ctx u.ctx).state = .free ∨ (s.ctx u.ctx).state = .closing) :
    meter u d m s = (some .notActive, s) := by
  refine meter_of_refused ?_ (by decide)
  rcases idle with idle | idle <;> simp [meterCheck, current, kind, idle]

variable (kind : u.frame.kind = .bearer)
include kind

theorem meter_bearer_notActive (inactive : (s.ctx u.ctx).state ≠ .active) :
    meter u d m s = (some .notActive, s) :=
  meter_of_refused (by simp [meterCheck, current, kind, inactive]) (by decide)

variable (active : (s.ctx u.ctx).state = .active)
include active

theorem meter_bearer_barred (barred : passesRealm s.zu.zone.realm (s.ctx u.ctx) = false) :
    meter u d m s = (some .roamBarred, barringFailure u.ctx s) := by
  have check : meterCheck s u = some .roamBarred := by simp [meterCheck, current, kind, active, barred]
  simp [meter, check]

variable (realm : passesRealm s.zu.zone.realm (s.ctx u.ctx) = true)
include realm

theorem meter_bearer_exhausted (prepaid : (s.ctx u.ctx).account = .prepaid)
    (exhausted : (s.ctx u.ctx).exhausted = true) : meter u d m s = (some .exhausted, s) :=
  meter_of_refused (by simp [meterCheck, current, kind, active, realm, Context.spent, prepaid, exhausted]) (by decide)

/-- A BEARER entry that passes R80 goes on to the stages of metering. -/
theorem meter_bearer (funds : (s.ctx u.ctx).account = .postpaid ∨ (s.ctx u.ctx).exhausted = false) :
    meter u d m s = meterBearer u d m s := by
  have unspent : (s.ctx u.ctx).spent = false := by
    rcases funds with h | h <;> simp [Context.spent, h]
  have passed : meterCheck s u = none := by simp [meterCheck, current, kind, active, realm, unspent]
  simp [meter, passed, kind]

end

/-! ### The interval key (R81, R98, R101) -/

section
variable {s t : State} {i : CtxIx} {iv : Interval}

theorem key_eq_currentKey_iff {c : Context} : iv.key = currentKey s c
    ↔ iv.period = s.ur.period ∧ iv.zoneGen = s.zu.gen ∧ iv.plan = c.plan := by
  simp [Interval.key, currentKey]

theorem keyStep_opens (none : (s.ctx i).openIv = none) : keyStep i s = some (openInterval i s) := by
  simp [keyStep, none]

/-- An open interval of the current key stays open. -/
theorem keyStep_stays (opened : (s.ctx i).openIv = some iv) (key : iv.key = currentKey s (s.ctx i)) :
    keyStep i s = some s := by
  simp [keyStep, opened, key]

/-- The close of an interval of another key comes before the new one is opened. -/
theorem keyStep_closes (opened : (s.ctx i).openIv = some iv) (key : iv.key ≠ currentKey s (s.ctx i))
    (closed : closeInterval i iv s = some t) : keyStep i s = some (openInterval i t) := by
  simp [keyStep, opened, key, closed]

theorem keyStep_cannot (opened : (s.ctx i).openIv = some iv) (key : iv.key ≠ currentKey s (s.ctx i))
    (closed : closeInterval i iv s = none) : keyStep i s = none := by
  simp [keyStep, opened, key, closed]

/-- An interval just opened is of the current key. -/
theorem keyStep_openInterval : keyStep i (openInterval i s) = some (openInterval i s) :=
  keyStep_stays (iv := freshInterval s (s.ctx i)) (by simp [openInterval]) (by
    rw [key_eq_currentKey_iff]; simp [openInterval, freshInterval])

/-- A new interval is opened in the record whose last one entered the URQ. -/
theorem openInterval_urqEnter_dropOpen (r : Record) : openInterval i (urqEnter r (dropOpen i s))
    = urqEnter r (s.setCtx i { s.ctx i with openIv := some (freshInterval s (s.ctx i)) }) := by
  have closed : (urqEnter r (dropOpen i s)).ctx i = { s.ctx i with openIv := none } := by simp [dropOpen]
  have fresh : freshInterval (urqEnter r (dropOpen i s)) { s.ctx i with openIv := none }
      = freshInterval s (s.ctx i) := by simp [freshInterval, dropOpen, State.now]
  rw [openInterval, closed, fresh, ← urqEnter_setCtx, dropOpen, State.setCtx_setCtx]

/-- A new interval is opened in the record whose last one became the awaiting interval. -/
theorem openInterval_toAwaiting_dropOpen (r : Record) : openInterval i (toAwaiting i r (dropOpen i s))
    = { s.setCtx i { s.ctx i with openIv := some (freshInterval s (s.ctx i)), awaiting := some r } with
        ur := { s.ur with awaiting := s.ur.awaiting ++ [i] } } := by
  have closed : (toAwaiting i r (dropOpen i s)).ctx i = { s.ctx i with openIv := none, awaiting := some r } := by
    show ((_ : State).setCtx i _).ctx i = _
    simp [dropOpen]
  rw [openInterval, closed, toAwaiting_dropOpen_setCtx]
  rfl

end

/-! ### Metering under the key (R81) -/

section
variable {s t : State} {u : UserEntry} {d : Dir} {m : Multiplier}

/-- What the checks of R80 pass, they pass after the key step as well. -/
structure PassesMetering (s : State) (u : UserEntry) : Prop where
  current : u.incarnation = (s.ctx u.ctx).incarnation
  kind : u.frame.kind = .bearer
  active : (s.ctx u.ctx).state = .active
  realm : passesRealm s.zu.zone.realm (s.ctx u.ctx) = true
  funds : (s.ctx u.ctx).account = .postpaid ∨ (s.ctx u.ctx).exhausted = false

theorem PassesMetering.meter_eq (h : PassesMetering s u) : meter u d m s = meterBearer u d m s :=
  meter_bearer h.current h.kind h.active h.realm h.funds

/-- A record that differs in its intervals alone passes where the zone is the same. -/
theorem PassesMetering.of_intervals (h : PassesMetering s u) (zu : t.zu = s.zu) {iv : Option Interval}
    {r : Option Record} (ctx : t.ctx u.ctx = { s.ctx u.ctx with openIv := iv, awaiting := r }) :
    PassesMetering t u := by
  obtain ⟨current, kind, active, realm, funds⟩ := h
  refine ⟨?_, kind, ?_, ?_, ?_⟩ <;> rw [ctx]
  · exact current
  · exact active
  · rw [zu]; exact realm
  · exact funds

/-- An entry whose key step opens an interval is metered under that interval. -/
theorem PassesMetering.meter_after (h : PassesMetering s u) (key : keyStep u.ctx s = some (openInterval u.ctx t))
    (after : PassesMetering (openInterval u.ctx t) u) :
    meter u d m s = meter u d m (openInterval u.ctx t) := by
  rw [h.meter_eq, after.meter_eq, meterBearer, meterBearer, key, keyStep_openInterval]

theorem PassesMetering.meter_backlog (h : PassesMetering s u) (key : keyStep u.ctx s = none) :
    meter u d m s = (some .backlog, raise .recordBacklog (some (.context u.ctx)) s) := by
  rw [h.meter_eq, meterBearer, key]; rfl

theorem PassesMetering.meter_opens (h : PassesMetering s u) (none : (s.ctx u.ctx).openIv = none) :
    meter u d m s
      = meter u d m (s.setCtx u.ctx { s.ctx u.ctx with openIv := some (freshInterval s (s.ctx u.ctx)) }) :=
  h.meter_after (keyStep_opens none) (h.of_intervals rfl (by rw [openInterval, State.setCtx_ctx, if_pos rfl]))

variable {iv : Interval} (h : PassesMetering s u) (opened : (s.ctx u.ctx).openIv = some iv)
  (key : iv.key ≠ currentKey s (s.ctx u.ctx))
include h opened key

theorem PassesMetering.meter_closes_urq (room : s.ur.urq.length < 256) (empty : s.ur.awaiting = []) :
    meter u d m s = meter u d m (urqEnter (recordOf .interval u.ctx (s.ctx u.ctx) iv)
      (s.setCtx u.ctx { s.ctx u.ctx with openIv := some (freshInterval s (s.ctx u.ctx)) })) := by
  rw [← openInterval_urqEnter_dropOpen]
  refine h.meter_after (keyStep_closes opened key (closeInterval_urq room empty)) ?_
  rw [openInterval_urqEnter_dropOpen]
  exact h.of_intervals rfl (by rw [urqEnter_ctx, State.setCtx_ctx, if_pos rfl])

theorem PassesMetering.meter_closes_slot (full : 256 ≤ s.ur.urq.length ∨ s.ur.awaiting ≠ [])
    (slot : (s.ctx u.ctx).awaiting = none) :
    let r := recordOf .interval u.ctx (s.ctx u.ctx) iv
    meter u d m s = meter u d m
      { s.setCtx u.ctx { s.ctx u.ctx with openIv := some (freshInterval s (s.ctx u.ctx)), awaiting := some r } with
        ur := { s.ur with awaiting := s.ur.awaiting ++ [u.ctx] } } := by
  intro r
  rw [← openInterval_toAwaiting_dropOpen]
  refine h.meter_after (keyStep_closes opened key (closeInterval_slot full slot)) ?_
  rw [openInterval_toAwaiting_dropOpen]
  exact h.of_intervals rfl ((State.setCtx_ctx s _ _ _).trans (if_pos rfl))

theorem PassesMetering.meter_cannot (full : 256 ≤ s.ur.urq.length ∨ s.ur.awaiting ≠ [])
    (occupied : (s.ctx u.ctx).awaiting ≠ none) :
    meter u d m s = (some .backlog, raise .recordBacklog (some (.context u.ctx)) s) :=
  h.meter_backlog (keyStep_cannot opened key (closeInterval_cannot full occupied))

end

/-- Settles O53: the checks of R80 in their order, then the three ways of the key step. -/
theorem meteringChecksThenOpensInterval : Obligations.MeteringChecksThenOpensInterval := by
  intro s u d m c
  refine ⟨meter_stale, fun current kind => ⟨meter_signal current kind, meter_signal_notActive current kind⟩,
    fun current kind => ⟨meter_bearer_notActive current kind, meter_bearer_barred current kind,
      meter_bearer_exhausted current kind, ?_⟩⟩
  intro active realm funds fresh
  have passes : PassesMetering s u := ⟨current, kind, active, realm, funds⟩
  refine ⟨passes.meter_opens, ?_⟩
  intro iv opened other r
  have key : iv.key ≠ currentKey s c := fun same => other (key_eq_currentKey_iff.mp same)
  have record : recordOf .interval u.ctx c iv = r := recordOf_interval u.ctx c iv
  refine ⟨fun room empty => ?_, fun full slot => ?_, passes.meter_cannot opened key⟩
  · rw [← record]; exact passes.meter_closes_urq opened key room empty
  · rw [← record]; exact passes.meter_closes_slot opened key full slot

end Sys2Proof.Machine
end

section
/-! The charge of a metered frame, with its events and notices (R87 to R92). -/

namespace Sys2Proof.Machine

/-! ### The stages on a record that was written: what they notify, and what they write -/

section
variable (s : State) (i : CtxIx) (c : Context)

/-- The event and the notice of an exhausted quota (R87, R89). -/
def exhaustedNotice (s : State) : State :=
  sendBearerNotice i c (.exhausted c.balance) (raise .quotaExhausted (some (.context i)) s)

/-- The event and the notice of a low balance (R90). -/
def lowNotice (s : State) : State :=
  sendBearerNotice i c (.lowBalance c.balance) (raise .quotaLow (some (.context i)) s)

@[simp] theorem exhaustedNotice_ctx (j : CtxIx) : (exhaustedNotice i c s).ctx j = s.ctx j := by
  simp [exhaustedNotice]

@[simp] theorem lowNotice_ctx (j : CtxIx) : (lowNotice i c s).ctx j = s.ctx j := by simp [lowNotice]

/-- The event of an exhausted quota is pending and names the context (R178). -/
theorem exhaustedNotice_event : ((exhaustedNotice i c s).event .quotaExhausted).pending = true
    ∧ ((exhaustedNotice i c s).event .quotaExhausted).detail = some (.context i) := by
  simp [exhaustedNotice]

theorem lowNotice_event : ((lowNotice i c s).event .quotaLow).pending = true
    ∧ ((lowNotice i c s).event .quotaLow).detail = some (.context i) := by
  simp [lowNotice]

theorem lowNotice_event_exhausted :
    (lowNotice i c s).event .quotaExhausted = s.event .quotaExhausted := by
  simp [lowNotice]

/-- The notices read no context record. -/
theorem exhaustedNotice_setCtx (j : CtxIx) (x : Context) :
    exhaustedNotice i c (s.setCtx j x) = (exhaustedNotice i c s).setCtx j x := by
  rw [exhaustedNotice, raise_setCtx, sendBearerNotice_setCtx]; rfl

theorem lowNotice_setCtx (j : CtxIx) (x : Context) :
    lowNotice i c (s.setCtx j x) = (lowNotice i c s).setCtx j x := by
  rw [lowNotice, raise_setCtx, sendBearerNotice_setCtx]; rfl

theorem exhaust_setCtx :
    exhaust i (s.setCtx i c) = (exhaustedNotice i c s).setCtx i { c with exhausted := true } := by
  rw [exhaust, State.setCtx_ctx, if_pos rfl, State.setCtx_setCtx, raise_setCtx, sendBearerNotice_setCtx]
  rfl

/-- The notices take of the record what identifies its context, and the balance (R42). -/
theorem exhaustedNotice_congr {x : Context} (ru : c.servingRu = x.servingRu) (bearer : c.bearerId = x.bearerId)
    (incarnation : c.incarnation = x.incarnation) (balance : c.balance = x.balance) :
    exhaustedNotice i c s = exhaustedNotice i x s := by
  rw [exhaustedNotice, balance]; exact sendBearerNotice_congr _ i _ ru bearer incarnation

theorem lowNotice_congr {x : Context} (ru : c.servingRu = x.servingRu) (bearer : c.bearerId = x.bearerId)
    (incarnation : c.incarnation = x.incarnation) (balance : c.balance = x.balance) :
    lowNotice i c s = lowNotice i x s := by
  rw [lowNotice, balance]; exact sendBearerNotice_congr _ i _ ru bearer incarnation

/-- What the two tests of a PREPAID record raise and send, in their order (R89, R90). -/
def quotaNotices (s : State) : State :=
  let told := if c.balance ≤ 0 then exhaustedNotice i c s else s
  if c.low = false ∧ c.balance < c.lowThreshold then lowNotice i c told else told

/-- The marks that the two tests leave in a record whose exhausted mark was clear (R89, R90). -/
def Context.marked (c : Context) : Context :=
  { c with exhausted := decide (c.balance ≤ 0), low := c.low || decide (c.balance < c.lowThreshold) }

@[simp] theorem quotaNotices_ctx (j : CtxIx) : (quotaNotices i c s).ctx j = s.ctx j := by
  simp only [quotaNotices]
  split <;> split <;> simp

@[simp] theorem quotaNotices_now : (quotaNotices i c s).now = s.now := by
  simp only [quotaNotices, State.now]
  split <;> split <;> simp [exhaustedNotice, lowNotice]

theorem quotaNotices_setCtx (j : CtxIx) (x : Context) :
    quotaNotices i c (s.setCtx j x) = (quotaNotices i c s).setCtx j x := by
  simp only [quotaNotices]
  split <;> split <;> simp only [exhaustedNotice_setCtx, lowNotice_setCtx]

/-- The notices as those of another record of the context with the same balance. -/
theorem quotaNotices_of_same {x : Context} (ru : c.servingRu = x.servingRu) (bearer : c.bearerId = x.bearerId)
    (incarnation : c.incarnation = x.incarnation) (balance : c.balance = x.balance) :
    quotaNotices i c s
      = let told := if x.balance ≤ 0 then exhaustedNotice i x s else s
        if c.low = false ∧ x.balance < c.lowThreshold then lowNotice i x told else told := by
  simp only [quotaNotices, exhaustedNotice_congr _ i c ru bearer incarnation balance,
    lowNotice_congr _ i c ru bearer incarnation balance, balance]

theorem quotaNotices_quiet (left : 0 < c.balance) (warned : c.low = true ∨ c.lowThreshold ≤ c.balance) :
    quotaNotices i c s = s := by
  have quiet : ¬ (c.low = false ∧ c.balance < c.lowThreshold) := by
    rintro ⟨low, below⟩
    rcases warned with marked | above
    · exact absurd (low.symm.trans marked) (by decide)
    · omega
  simp only [quotaNotices, if_neg quiet, if_neg (not_le.mpr left)]

theorem quotaNotices_exhausted (empty : c.balance ≤ 0) :
    ((quotaNotices i c s).event .quotaExhausted).pending = true
    ∧ ((quotaNotices i c s).event .quotaExhausted).detail = some (.context i) := by
  simp only [quotaNotices, if_pos empty]
  split
  · rw [lowNotice_event_exhausted]; exact exhaustedNotice_event s i c
  · exact exhaustedNotice_event s i c

theorem quotaNotices_low (clear : c.low = false) (below : c.balance < c.lowThreshold) :
    ((quotaNotices i c s).event .quotaLow).pending = true
    ∧ ((quotaNotices i c s).event .quotaLow).detail = some (.context i) := by
  simp only [quotaNotices, if_pos (And.intro clear below)]
  exact lowNotice_event _ i c

/-- The exhausted test of a record with the mark clear (R89). -/
theorem exhaustedTest_setCtx (clear : c.exhausted = false) : exhaustedTest i (s.setCtx i c)
    = (if c.balance ≤ 0 then exhaustedNotice i c s else s).setCtx i
        { c with exhausted := decide (c.balance ≤ 0) } := by
  rw [exhaustedTest, State.setCtx_ctx, if_pos rfl]
  by_cases empty : c.balance ≤ 0
  · simp [empty, exhaust_setCtx]
  · simp [empty, ← clear]

/-- The low test (R90). -/
theorem lowTest_setCtx : lowTest i (s.setCtx i c)
    = (if c.low = false ∧ c.balance < c.lowThreshold then lowNotice i c s else s).setCtx i
        { c with low := c.low || decide (c.balance < c.lowThreshold) } := by
  simp only [lowTest, State.setCtx_ctx, if_true]
  by_cases warns : c.balance < c.lowThreshold ∧ c.low = false
  · rw [if_pos warns, if_pos warns.symm, State.setCtx_setCtx, raise_setCtx, sendBearerNotice_setCtx]
    simp only [warns.1, decide_true, Bool.or_true]
    rfl
  · have marked : (c.low || decide (c.balance < c.lowThreshold)) = c.low := by
      cases low : c.low with
      | true => rfl
      | false => simpa [low] using warns
    rw [if_neg warns, if_neg (warns ∘ And.symm), marked]

/-- The tests after the apply stage of a PREPAID record (R89, R90). -/
theorem testsAfter_prepaid (prepaid : c.account = .prepaid) (clear : c.exhausted = false) :
    testsAfter i (s.setCtx i c) = (quotaNotices i c s).setCtx i c.marked := by
  rw [testsAfter, State.setCtx_ctx, if_pos rfl, prepaid]
  exact (congrArg (lowTest i) (exhaustedTest_setCtx s i c clear)).trans (lowTest_setCtx _ i _)

/-- There is none for a POSTPAID record (R91). -/
theorem testsAfter_postpaid (postpaid : c.account = .postpaid) : testsAfter i (s.setCtx i c) = s.setCtx i c := by
  rw [testsAfter, State.setCtx_ctx, if_pos rfl, postpaid]

theorem accumulate_setCtx (d : Dir) (payload : Nat) (ch : Charge) : accumulate i d payload ch (s.setCtx i c)
    = s.setCtx i { c with openIv := c.openIv.map fun iv => iv.accumulate d payload ch s.now } := by
  rw [accumulate, State.setCtx_ctx, if_pos rfl, State.setCtx_setCtx]
  rfl

end

/-! ### The apply stage (R88 to R92) -/

/-- A frame in an interval, its direction told apart by tests (R92). -/
theorem Interval.accumulate_eq (iv : Interval) (d : Dir) (b : Nat) (ch : Charge) (now : Time) :
    iv.accumulate d b ch now
      = { iv with
          up := if d = .uplink then add64 iv.up (BitVec.ofNat 64 b) else iv.up
          down := if d = .downlink then add64 iv.down (BitVec.ofNat 64 b) else iv.down
          free := add64 iv.free (BitVec.ofNat 64 ch.free)
          frames := add64 iv.frames 1
          charge := add64 iv.charge (BitVec.ofNat 64 ch.cost), last := now } := by
  cases d <;> rfl

section
variable {s : State} {i : CtxIx} (d : Dir) (b : Nat) (ch : Charge)

/-- A POSTPAID record gives up allowance, takes the remainder and has the frame (R91, R92). -/
theorem applyCharge_postpaid (postpaid : (s.ctx i).account = .postpaid) : applyCharge i d b ch s
    = s.setCtx i { (s.ctx i) with
        allowance := (s.ctx i).allowance - ch.free, remainder := ch.remainder
        openIv := (s.ctx i).openIv.map fun iv => iv.accumulate d b ch s.now } := by
  rw [applyCharge, testsAfter_postpaid _ _ ((s.ctx i).apply ch) postpaid, accumulate_setCtx]
  simp [Context.apply, postpaid]

/-- A PREPAID record gives up allowance and balance, is tested and has the frame (R88 to R92). -/
theorem applyCharge_prepaid (prepaid : (s.ctx i).account = .prepaid) (clear : (s.ctx i).exhausted = false) :
    applyCharge i d b ch s
      = (quotaNotices i ((s.ctx i).apply ch) s).setCtx i { ((s.ctx i).apply ch).marked with
          openIv := (s.ctx i).openIv.map fun iv => iv.accumulate d b ch s.now } := by
  rw [applyCharge, testsAfter_prepaid _ _ ((s.ctx i).apply ch) prepaid clear, accumulate_setCtx, quotaNotices_now]
  rfl

end

/-! ### A frame under the key of its open interval (R81, R87) -/

section
variable {s : State} {u : UserEntry} {d : Dir} {m : Multiplier} {iv : Interval} (h : PassesMetering s u)
  (opened : (s.ctx u.ctx).openIv = some iv) (key : iv.key = currentKey s (s.ctx u.ctx))
include h opened key

/-- The quota refuses the frame (R87). -/
theorem PassesMetering.meter_quota
    (refuses : quotaRefuses (s.ctx u.ctx) (chargeFor s (s.ctx u.ctx) u.frame.payload.length m) = true) :
    meter u d m s = (some .quota, exhaust u.ctx s) := by
  rw [h.meter_eq, meterBearer, keyStep_stays opened key]
  exact if_pos refuses

/-- The quota lets the frame pass, and it is charged. -/
theorem PassesMetering.meter_charges
    (allows : quotaRefuses (s.ctx u.ctx) (chargeFor s (s.ctx u.ctx) u.frame.payload.length m) = false) :
    meter u d m s = (none, applyCharge u.ctx d u.frame.payload.length
      (chargeFor s (s.ctx u.ctx) u.frame.payload.length m) s) := by
  rw [h.meter_eq, meterBearer, keyStep_stays opened key]
  exact if_neg (by rw [allows]; decide)

end

/-- Settles O54: the quota, then the apply stage of a POSTPAID and of a PREPAID record. -/
theorem frameIsCharged : Obligations.FrameIsCharged := by
  intro s u d m iv c b ch iv' c' current kind active realm opened period gen plan
  have key : iv.key = currentKey s c := key_eq_currentKey_iff.mpr ⟨period, gen, plan⟩
  have passes (funds) : PassesMetering s u := ⟨current, kind, active, realm, funds⟩
  have frame : c.openIv.map (fun iv => iv.accumulate d b ch s.now) = some iv' := by
    rw [opened]; exact congrArg some (iv.accumulate_eq d b ch s.now)
  refine ⟨fun postpaid => ?_, ?_, ?_⟩
  · have allows : quotaRefuses c ch = false := by simp [quotaRefuses, postpaid]
    have applied := applyCharge_postpaid d b ch postpaid
    rw [frame] at applied
    exact ((passes (.inl postpaid)).meter_charges opened key allows).trans (congrArg (Prod.mk none) applied)
  · intro prepaid clear mode above e
    have refuses : quotaRefuses c ch = true := by simp [quotaRefuses, prepaid, mode, above]
    exact (passes (.inr clear)).meter_quota opened key refuses
  · intro prepaid clear within left c''
    have allows : quotaRefuses c ch = false := by
      rcases within with mode | within
      · simp [quotaRefuses, mode]
      · simp [quotaRefuses, within]
    have balance : (c.apply ch).balance = left := by simp [Context.apply, prepaid, left]
    have record : ({ (c.apply ch).marked with openIv := some iv' } : Context) = c'' := by
      simp [Context.marked, Context.apply, prepaid, c'', c', left]
    have metered : meter u d m s = (none, (quotaNotices u.ctx (c.apply ch) s).setCtx u.ctx c'') := by
      have applied := applyCharge_prepaid d b ch prepaid clear
      rw [frame] at applied
      exact ((passes (.inr clear)).meter_charges opened key allows).trans
        (congrArg (Prod.mk none) (applied.trans (congrArg _ record)))
    rw [metered]
    refine ⟨fun funds warned => ?_, ?_, rfl, fun j => ?_, fun empty => ?_, fun unmarked below => ?_⟩
    · rw [quotaNotices_quiet _ _ _ (balance ▸ funds) (balance ▸ warned)]
    · intro exhausts warns
      rw [← quotaNotices_setCtx, quotaNotices_of_same _ _ (c.apply ch) (x := c'') rfl rfl rfl balance]
      rfl
    · simp [eq_comm]
    · exact quotaNotices_exhausted s u.ctx _ (balance ▸ empty)
    · exact quotaNotices_low s u.ctx _ unmarked (balance ▸ below)

end Sys2Proof.Machine
end

section
/-! The accounts and the frames that wait (R4, R79, R84, R88): what an invariant of both speaks of, and that the
operations on the queues keep it. -/

namespace Sys2Proof.Machine

/-! ### What the invariant is about -/

/-- What the accounts and the frames that wait are read from: the context records, the egress queues, the hold
queue. -/
structure Accounts where
  contexts : Vector Context 4096
  queue : Port → List Entry
  hold : List UserEntry

/-- The accounts and the frames that wait in a state. -/
def State.accounts (s : State) : Accounts := ⟨s.contexts, fun p => (s.port p).queue, s.cs.hold⟩

variable {s t : State}

/-- A frame of an entry has at most 9,000 payload bytes (R4). -/
def UserEntry.Fits (e : UserEntry) : Prop := e.frame.payload.length ≤ 9000

/-- A change of anything else keeps the accounts sound. -/
theorem AccountsSound.same (h : AccountsSound s) (e : t.accounts = s.accounts) : AccountsSound t := by
  have contexts : t.contexts = s.contexts := congrArg Accounts.contexts e
  have queue : ∀ p, (t.port p).queue = (s.port p).queue := congrFun (congrArg Accounts.queue e)
  have hold : t.cs.hold = s.cs.hold := congrArg Accounts.hold e
  simp only [AccountsSound, Waits, ctx_of_contexts contexts, queue, hold]
  exact h

/-- A fold keeps the accounts sound when each of its steps does. -/
theorem AccountsSound.after_foldl {α : Type} {f : State → α → State} (h : AccountsSound s)
    (step : ∀ s a, AccountsSound s → AccountsSound (f s a)) (xs : List α) : AccountsSound (xs.foldl f s) :=
  List.foldlRecOn xs f h fun s hs a _ => step s a hs

/-- A sound record is written. -/
theorem AccountsSound.after_setCtx (h : AccountsSound s) {i : CtxIx} {c : Context} (sound : c.Sound) :
    AccountsSound (s.setCtx i c) := by
  refine ⟨fun j => ?_, h.2⟩
  rw [State.setCtx_ctx]
  split
  · exact sound
  · exact h.1 j

/-- The context records are as they were, and every frame that waits did or fits. -/
theorem AccountsSound.of_waits (h : AccountsSound s) (contexts : t.contexts = s.contexts)
    (waits : ∀ e, Waits t e → Waits s e ∨ e.Fits) : AccountsSound t := by
  refine ⟨fun i => ctx_of_contexts contexts i ▸ h.1 i, fun e he => ?_⟩
  rcases waits e he with old | fits
  · exact h.2 e old
  · exact fits

/-! ### Egress queues (R14, R15) -/

theorem AccountsSound.after_setPort (h : AccountsSound s) {p : Port} {x : PortState}
    (queue : x.queue = (s.port p).queue) : AccountsSound (s.setPort p x) := by
  refine h.of_waits rfl fun e he => .inl ?_
  rcases he with hold | ⟨q, y, hy, user⟩
  · exact .inl hold
  · rw [State.setPort_port] at hy
    split at hy
    · next same => subst same; exact .inr ⟨p, y, queue ▸ hy, user⟩
    · exact .inr ⟨q, y, hy, user⟩

/-- A queue is written whose user entries waited there or fit. -/
theorem AccountsSound.after_setQueue (h : AccountsSound s) {p : Port} {q : List Entry}
    (old : ∀ x ∈ q, x ∈ (s.port p).queue ∨ ∀ e, x.body.user = some e → e.Fits) : AccountsSound (s.setQueue p q) := by
  refine h.of_waits rfl fun e he => ?_
  rcases he with hold | ⟨r, x, hx, user⟩
  · exact .inl (.inl hold)
  · rw [State.setQueue_port] at hx
    split at hx
    · rcases old x hx with waited | fits
      · exact .inl (.inr ⟨p, x, waited, user⟩)
      · exact .inr (fits e user)
    · exact .inl (.inr ⟨r, x, hx, user⟩)

/-- Entries leave an egress queue. -/
theorem AccountsSound.after_leave (h : AccountsSound s) {p : Port} {q : List Entry}
    (sub : q.Sublist (s.port p).queue) : AccountsSound (s.setQueue p q) :=
  h.after_setQueue fun _ hx => .inl (sub.subset hx)

theorem AccountsSound.after_place (h : AccountsSound s) {p : Port} {b : EntryBody}
    (fits : ∀ e, b.user = some e → e.Fits) : AccountsSound (place p b s) := by
  refine h.after_setQueue fun x hx => ?_
  rcases List.mem_append.mp hx with hx | hx
  · exact .inl hx
  · rw [List.mem_singleton.mp hx]; exact .inr fits

/-- A control entry takes its place, that of a user entry, or none (R15). -/
theorem AccountsSound.after_offerControl (h : AccountsSound s) {p : Port} {c : Control} :
    AccountsSound (offerControl p c s) := by
  have control : ∀ e, (EntryBody.control c).user = some e → e.Fits := by simp [EntryBody.user]
  rcases offerControl_cases s p c with ⟨-, e⟩ | ⟨-, x, q, displaced, e⟩ | ⟨-, -, e⟩ <;> rw [e]
  · exact h.after_place control
  · obtain ⟨pre, post, queue, rfl, -⟩ := displacedEntry_split _ _ _ displaced
    have left : AccountsSound (s.setQueue p (pre ++ post)) := h.after_leave (by rw [queue]; simp)
    exact (left.same (by rfl)).after_place control
  · have dropped := queues_controlDropped c (drop .egressFull (Entry.dir p ⟨.control c, s.now⟩) s)
    refine h.of_waits (by simp) fun e he => .inl ?_
    have queue : ∀ q, _ = _ := congrFun (congrArg Queues.queue dropped)
    have hold : _ = _ := congrArg Queues.hold dropped
    simp only [State.queues] at queue hold
    simpa only [Waits, queue, hold, drop_port, drop_cs] using he

/-! ### Events, notices, responses, heartbeats -/

theorem AccountsSound.after_raise (h : AccountsSound s) {k : EventKind} {d : Option Detail} :
    AccountsSound (raise k d s) := by
  by_cases noticed : s.me.noticeFloor < (s.event k).level ∧ s.me.noticeDest.isSome = true
  · obtain ⟨⟨p, a⟩, dest⟩ := Option.isSome_iff_exists.mp noticed.2
    rw [raise_noticed s k d p a dest noticed.1]
    exact (h.same (by rfl)).after_offerControl
  · rw [raise_unnoticed s k d noticed]
    exact h.same rfl

theorem AccountsSound.after_sendBearerNotice (h : AccountsSound s) {i : CtxIx} {c : Context} {n : BearerNotice} :
    AccountsSound (sendBearerNotice i c n s) := by
  rcases sendBearerNotice_cases s i c n with ⟨-, e⟩ | ⟨-, e⟩ <;> rw [e]
  · exact h
  · exact h.after_offerControl

theorem AccountsSound.after_respond (h : AccountsSound s) {rq : Request} {code : Byte} {r : Reply} :
    AccountsSound (respond rq code r s) := h.after_offerControl

theorem AccountsSound.after_sendHeartbeat (h : AccountsSound s) {r : RuIx} : AccountsSound (sendHeartbeat r s) := by
  simp only [sendHeartbeat]
  split
  · exact h
  · exact (h.same (by rfl)).after_offerControl

theorem AccountsSound.after_round (h : AccountsSound s) : AccountsSound (round s) :=
  h.after_foldl (fun _ _ h => h.after_sendHeartbeat) _

theorem AccountsSound.after_recomputeLevel (h : AccountsSound s) : AccountsSound (recomputeLevel s) := by
  rcases recomputeLevel_cases s with ⟨-, e⟩ | ⟨-, e⟩ <;> rw [e]
  · exact h
  · have raised : AccountsSound (raise .serviceLevel (some (.level (levelOf s)))
        { s with cs := { s.cs with level := levelOf s } }) := (h.same (by rfl)).after_raise
    exact raised.same rfl

theorem AccountsSound.after_csHandover (h : AccountsSound s) {gate : Bool} {switched : Option (Option LinkIx)} :
    AccountsSound (csHandover gate switched s) := by
  have timer : AccountsSound (match switched with
      | none => s
      | some new => graceAtSwitch new s) := by
    rcases switched with _ | _ | k
    · exact h
    · exact h.same rfl
    · exact h.same rfl
  rcases csHandover_cases s gate switched with e | e <;> rw [e]
  · exact timer.after_recomputeLevel.after_round
  · exact timer.after_recomputeLevel

/-! ### The hold queue and moves (R151, R154 to R156) -/

/-- A hold queue is written whose entries waited there or fit. -/
theorem AccountsSound.after_setHold (h : AccountsSound s) {g : List UserEntry}
    (old : ∀ e ∈ g, e ∈ s.cs.hold ∨ e.Fits) : AccountsSound (s.setHold g) := by
  refine h.of_waits rfl fun e he => ?_
  rcases he with hold | queued
  · exact (old e hold).imp_left .inl
  · exact .inl (.inr queued)

theorem AccountsSound.after_holdJoin (h : AccountsSound s) {e : UserEntry} (fits : e.Fits) :
    AccountsSound (holdJoin e s) := by
  rcases holdJoin_cases s e with ⟨-, eq⟩ | ⟨-, eq⟩ <;> rw [eq]
  · refine h.after_setHold fun x hx => ?_
    rcases List.mem_append.mp hx with hx | hx
    · exact .inl hx
    · rw [List.mem_singleton.mp hx]; exact .inr fits
  · exact (h.same (by rfl)).after_raise

theorem AccountsSound.after_returnBatch (h : AccountsSound s) {es : List UserEntry} (fit : ∀ e ∈ es, e.Fits) :
    AccountsSound (returnBatch es s) := by
  obtain ⟨m, -, -, -, e⟩ := returnBatch_spec s es
  have held : AccountsSound (s.setHold ((es.take m).foldl (fun h e => insertByIntake e h) s.cs.hold)) := by
    refine h.after_setHold fun x hx => ?_
    rcases List.mem_append.mp ((foldl_insertByIntake_perm _ _).subset hx) with hx | hx
    · exact .inr (fit x (List.mem_of_mem_take hx))
    · exact .inl hx
  rw [e]
  exact held.same rfl

theorem AccountsSound.after_moveTo (h : AccountsSound s) {new : LinkIx} {shut : Bool} {es : List UserEntry}
    (fit : ∀ e ∈ es, e.Fits) : AccountsSound (moveTo new shut es s) := by
  induction es generalizing s shut with
  | nil => exact h
  | cons e es ih =>
    obtain ⟨first, rest⟩ := List.forall_mem_cons.mp fit
    rw [moveTo]
    split
    · exact ih (h.after_place fun x hx => by cases hx; exact first) rest
    · split
      · refine ih (h.after_setHold fun x hx => ?_) rest
        rcases List.mem_cons.mp ((insertByIntake_perm e _).subset hx) with rfl | hx
        · exact .inr first
        · exact .inl hx
      · exact ih (h.same (by rfl)) rest

theorem AccountsSound.after_moveEntries (h : AccountsSound s) {k : LinkIx} : AccountsSound (moveEntries k s) := by
  have fit : ∀ e ∈ entriesOf k s, e.Fits := fun e he => h.2 e (waits_of_mem_entriesOf he)
  have out : AccountsSound (takeOut k s) :=
    h.after_foldl (fun _ _ h => h.after_leave List.filter_sublist) _
  simp only [moveEntries]
  split
  · exact out.after_moveTo fit
  · exact out.after_returnBatch fit

end Sys2Proof.Machine
end

section
/-! Steering, zones and links keep the accounts sound: they change no context record, and move, drop or send what
waits (R46 to R64, R117 to R151). -/

namespace Sys2Proof.Machine

variable {s : State}

/-! ### Switches, link changes and zone changes (R144, R147) -/

theorem AccountsSound.after_offerMarker (h : AccountsSound s) {old new : Option LinkIx} {cause : SwitchCause} :
    AccountsSound (offerMarker old new cause s) := by
  cases new with
  | none => exact h
  | some k => exact h.after_offerControl

theorem AccountsSound.after_settleOld (h : AccountsSound s) {old : Option LinkIx} {cause : SwitchCause} :
    AccountsSound (settleOld old cause s) := by
  unfold settleOld
  split
  · exact h
  · split
    · exact h.after_moveEntries
    · exact h.same rfl

theorem AccountsSound.after_raiseSwitch (h : AccountsSound s) {old new : Option LinkIx} {cause : SwitchCause} :
    AccountsSound (raiseSwitch old new cause s) := by
  cases new with
  | none => exact h.after_raise.after_raise
  | some k => exact h.after_raise

theorem AccountsSound.after_makeSwitch (h : AccountsSound s) {cause : SwitchCause} {new : Option LinkIx}
    {write : Su → Su} : AccountsSound (makeSwitch cause new write s) := by
  have marked : AccountsSound (offerMarker s.active new cause
      { s with su := { undrain new (write s.su) with
          switchNumber := (undrain new (write s.su)).switchNumber + 1 } }) := (h.same (by rfl)).after_offerMarker
  exact (marked.after_settleOld (old := s.active) (cause := cause)).after_raiseSwitch.same rfl

theorem AccountsSound.after_recoveryTest (h : AccountsSound s) : AccountsSound (recoveryTest s).state := by
  unfold recoveryTest
  split
  · exact h
  · split
    · exact h.after_makeSwitch
    · split
      · exact h.after_makeSwitch
      · exact h

theorem AccountsSound.after_commitWaiting (h : AccountsSound s) : AccountsSound (commitWaiting s).state := by
  unfold commitWaiting
  split
  · split
    · exact h.after_makeSwitch
    · exact h
  · exact h

theorem AccountsSound.after_fireTrigger (h : AccountsSound s) : AccountsSound (fireTrigger s).state := by
  unfold fireTrigger
  split
  · exact h.after_makeSwitch
  · exact h.same rfl

/-- A row of R144 keeps the accounts sound when SU's handling does. -/
theorem AccountsSound.after_steerIf (h : AccountsSound s) {c : Bool} {f : State → Steered}
    (steered : AccountsSound (f s).state) : AccountsSound (steerIf c f s) := by
  unfold steerIf tellCs
  split
  · split
    · exact steered
    · exact steered.after_csHandover
  · exact h

theorem AccountsSound.after_floorRow (h : AccountsSound s) {k : LinkIx} : AccountsSound (floorRow k s) := by
  unfold floorRow
  split
  · exact h.same rfl
  · exact h

theorem AccountsSound.after_drainRow (h : AccountsSound s) {k : LinkIx} : AccountsSound (drainRow k s) := by
  unfold drainRow
  split
  · exact (h.same (by rfl)).after_moveEntries
  · exact h

theorem AccountsSound.after_suLinkChanged (h : AccountsSound s) {k : LinkIx} : AccountsSound (suLinkChanged k s) := by
  have failed : AccountsSound (failoverRow k s) := h.after_steerIf h.after_makeSwitch
  have drained := (failed.after_floorRow (k := k)).after_drainRow (k := k)
  have staged : AccountsSound (stageRow k _) := drained.after_steerIf drained.after_makeSwitch
  exact staged.after_steerIf staged.after_recoveryTest

theorem AccountsSound.after_suZoneChanged (h : AccountsSound s) : AccountsSound (suZoneChanged s).state := by
  unfold suZoneChanged
  split
  · split
    · exact h.after_commitWaiting
    · split
      · exact h.after_commitWaiting
      · exact h.after_makeSwitch
  · split
    · exact h.after_commitWaiting
    · exact h.after_recoveryTest

theorem AccountsSound.after_triggerMoment (h : AccountsSound s) {t : Trigger} : AccountsSound (triggerMoment t s) := by
  unfold triggerMoment
  split
  · exact h.after_steerIf h.after_fireTrigger
  · exact h

theorem AccountsSound.after_enterZone (h : AccountsSound s) {d : ZoneIx} : AccountsSound (enterZone d s) := by
  have raised : AccountsSound (raise .zoneChange (some (.zone d (s.zu.gen + 1)))
      { s with zu := { s.zu with zoneIx := d, zone := s.zu.table[d], gen := s.zu.gen + 1 } }) :=
          (h.same (by rfl)).after_raise
  exact raised.same rfl

theorem AccountsSound.after_zoneChange (h : AccountsSound s) {d : ZoneIx} : AccountsSound (zoneChange d s) :=
  h.after_enterZone.after_suZoneChanged.after_csHandover

theorem AccountsSound.after_healthEvent (h : AccountsSound s) {k : LinkIx} {before after : Health} :
    AccountsSound (healthEvent k before after s) := by
  unfold healthEvent
  split
  · exact h
  · split
    · exact (h.same (by rfl)).after_raise
    · exact h.after_raise

theorem AccountsSound.after_changeHealth (h : AccountsSound s) {k : LinkIx} {x : Health} :
    AccountsSound (changeHealth k x s) := by
  simp only [changeHealth]
  split
  · exact h
  · exact (h.same (by rfl)).after_healthEvent.after_suLinkChanged

/-! ### Links (R122 to R132) -/

theorem AccountsSound.after_loseOutstanding (h : AccountsSound s) {k : LinkIx} :
    AccountsSound (loseOutstanding k s) := by
  unfold loseOutstanding
  split
  · exact h
  · exact (h.same (by rfl)).after_changeHealth

theorem AccountsSound.after_buildProbe (h : AccountsSound s) {k : LinkIx} : AccountsSound (buildProbe k s) := by
  simp only [buildProbe]
  split
  · exact (h.same (by rfl)).after_offerControl
  · exact h.same rfl

theorem AccountsSound.after_probeTime (h : AccountsSound s) {k : LinkIx} : AccountsSound (probeTime k s) := by
  unfold probeTime
  split
  · exact h
  · exact h
  · split
    · exact (h.after_loseOutstanding.after_buildProbe (k := k)).same rfl
    · exact h

theorem AccountsSound.after_echoIn (h : AccountsSound s) {port : Fin 4} {a n : Num16} :
    AccountsSound (echoIn port a n s) := by
  unfold echoIn
  split
  · exact h.same rfl
  · simp only [echoOf]
    split
    · exact h.same rfl
    · split
      · exact (h.same (by rfl)).after_changeHealth
      · exact h.same rfl

theorem AccountsSound.after_coldOnCarrierLoss (h : AccountsSound s) {p : Port} :
    AccountsSound (coldOnCarrierLoss p s) := by
  unfold coldOnCarrierLoss
  split
  · exact h.same rfl
  · exact h

theorem AccountsSound.after_setCarrier (h : AccountsSound s) {p : Port} {up : Bool} :
    AccountsSound (s.setCarrier p up) := h.after_setPort rfl

theorem AccountsSound.after_carrierLost (h : AccountsSound s) {port : Fin 4} {k : LinkIx} :
    AccountsSound (carrierLost port s k) := by
  simp only [carrierLost]
  split
  · split
    · exact h.same rfl
    · exact (h.same (by rfl)).after_changeHealth
  · exact h

theorem AccountsSound.after_shoreCarrierDown (h : AccountsSound s) {port : Fin 4} :
    AccountsSound (shoreCarrierDown port s) := by
  unfold shoreCarrierDown
  split
  · dsimp only
    split
    · exact h.after_setCarrier
    · exact h.after_setCarrier.after_coldOnCarrierLoss.after_foldl (fun _ _ h => h.after_carrierLost) _
  · exact h

theorem AccountsSound.after_cellCarrierChange (h : AccountsSound s) {port : Fin 4} {up : Bool} :
    AccountsSound (cellCarrierChange port up s) := by
  simp only [cellCarrierChange]
  split
  · exact h.after_setCarrier.after_coldOnCarrierLoss
  · exact h.after_setCarrier

end Sys2Proof.Machine
end

section
/-! Context records within their ranges (R26, R30 to R35, R79, R84, R88, R93). -/

namespace Sys2Proof.Machine

/-! ### A record that is written (R79) -/

section
variable {c : Context}

theorem Context.sound_freeAt (n : Num16) : (Context.freeAt n).Sound := by
  simp [Context.Sound, Context.freeAt]

/-- A held record stays sound in another state. -/
theorem Context.Sound.withState (h : c.Sound) (held : c.state ≠ .free) (x : CtxState) :
    ({ c with state := x } : Context).Sound := by
  obtain ⟨remainder, allowance, lower, upper, threshold, postpaid, funds⟩ := h
  exact ⟨remainder, allowance, lower, upper, threshold, postpaid, fun prepaid _ => funds prepaid held⟩

theorem Context.Sound.exhaust (h : c.Sound) (prepaid : c.account = .prepaid) :
    ({ c with exhausted := true } : Context).Sound := by
  obtain ⟨remainder, allowance, lower, upper, threshold, -, -⟩ := h
  exact ⟨remainder, allowance, lower, upper, threshold, fun postpaid => by simp [prepaid] at postpaid, by simp⟩

/-- A POSTPAID record after the apply stage (R91). -/
theorem Context.Sound.charge_postpaid (h : c.Sound) (postpaid : c.account = .postpaid) {ch : Charge}
    (remainder : ch.remainder < 256000000) :
    ({ c with allowance := c.allowance - ch.free, remainder := ch.remainder } : Context).Sound := by
  obtain ⟨-, allowance, lower, upper, threshold, clear, -⟩ := h
  exact ⟨remainder, (Nat.sub_le _ _).trans allowance, lower, upper, threshold, clear,
    fun prepaid => by simp [postpaid] at prepaid⟩

/-- A PREPAID record that is not exhausted is charged at most 2,357 CU, and marked where no balance is left
(R84, R88, R89). -/
theorem Context.Sound.charge_prepaid (h : c.Sound) (held : c.state ≠ .free) (prepaid : c.account = .prepaid)
    (clear : c.exhausted = false) {ch : Charge} (remainder : ch.remainder < 256000000) (cost : ch.cost ≤ 2357) :
    (c.apply ch).marked.Sound := by
  obtain ⟨-, allowance, -, upper, threshold, -, positive⟩ := h
  have funds := positive prepaid held clear
  have balance : (c.apply ch).balance = c.balance - ch.cost := by simp [Context.apply, prepaid]
  refine ⟨remainder, (Nat.sub_le _ _).trans allowance, ?_, ?_, threshold, fun postpaid => ?_, fun _ _ clear => ?_⟩
  · show -2356 ≤ (c.apply ch).balance
    omega
  · show (c.apply ch).balance ≤ 9999999999
    omega
  · exact absurd (prepaid.symm.trans postpaid) (by decide)
  · exact not_le.mp (of_decide_eq_false clear)

/-- A Top Up within its limits (R93, R94). -/
theorem Context.Sound.topUp (h : c.Sound) (held : c.state ≠ .free) (prepaid : c.account = .prepaid) {m l : Nat}
    (balance : c.balance + m ≤ 9999999999) (allowance : c.allowance + l ≤ 4294967295) : (c.topUp m l).Sound := by
  obtain ⟨remainder, -, lower, -, threshold, -, funds⟩ := h
  refine ⟨remainder, allowance, ?_, balance, threshold, fun postpaid => ?_, fun _ _ clear => ?_⟩
  · show -2356 ≤ c.balance + m
    omega
  · exact absurd (prepaid.symm.trans postpaid) (by decide)
  · show 0 < c.balance + m
    rcases Bool.and_eq_false_iff.mp (show (c.exhausted && decide (c.balance + m ≤ 0)) = false from clear) with
      clear | left
    · have := funds prepaid held clear
      omega
    · exact not_le.mp (of_decide_eq_false left)

/-- A Modify Context that gives a POSTPAID record neither threshold nor limit mode, and none a threshold beyond its
limit (R32). -/
theorem Context.Sound.modify (h : c.Sound) {a : ModifyArgs} {v : ModifyValues} (values : modifyValues a = some v)
    (allowed : ¬ GivenForPostpaid c a) (within : ¬ ThresholdBeyond a) :
    (c.modify v (a.lowThreshold.map BitVec.toNat)).Sound := by
  obtain ⟨remainder, allowance, lower, upper, threshold, postpaid, funds⟩ := h
  obtain ⟨-, -, -, -, mode, -⟩ := (modifyValues_iff a v).mp values
  rw [Context.modify_eq]
  refine ⟨remainder, allowance, lower, upper, ?_, fun account => ?_, funds⟩
  · cases given : a.lowThreshold with
    | none => exact threshold
    | some t => exact not_lt.mp fun beyond => within ⟨t, given, beyond⟩
  · obtain ⟨noThreshold, noMode⟩ := not_or.mp (not_and.mp allowed account)
    rw [not_not] at noThreshold noMode
    have unset : v.limitMode = none := by simpa [noMode] using mode
    obtain ⟨balance, zero, stopBefore, exhausted, low⟩ := postpaid account
    simp [noThreshold, unset, balance, zero, stopBefore, exhausted, low]

/-- A new record of arguments that pass R30 (R31). -/
theorem newContext_sound {a : CreateArgs} {v : CreateValues} (values : createValues a = some v)
    (amounts : AmountsPass a v) (n gen : Num16) : (newContext n gen a v).Sound := by
  obtain ⟨-, -, -, -, -, -, -, -, -, mode⟩ := (createValues_iff a v).mp values
  have allowance : a.allowance.toNat ≤ 4294967295 := Nat.le_of_lt_succ a.allowance.isLt
  rw [newContext_eq]
  cases account : v.account with
  | prepaid =>
    obtain ⟨positive, upper, threshold⟩ := amounts account
    refine ⟨(by decide : 0 < 256000000), allowance, ?_, upper, threshold, by simp, fun _ _ _ => ?_⟩
    · show -2356 ≤ a.balance.toInt
      omega
    · show 0 < a.balance.toInt
      omega
  | postpaid =>
    simp [Context.Sound, mode account, allowance]

end

end Sys2Proof.Machine
end

section
/-! Metering, records and requests keep the accounts sound (R29 to R40, R70, R80 to R109). -/

namespace Sys2Proof.Machine

variable {s t : State}

/-- A record that differs in what no tariff rule reads is written. -/
theorem AccountsSound.after_setCtx_of (h : AccountsSound s) {i : CtxIx} {c : Context}
    (kept : (s.ctx i).Sound → c.Sound) : AccountsSound (s.setCtx i c) := h.after_setCtx (kept (h.1 i))

/-! ### Records of usage (R100 to R111) -/

theorem AccountsSound.after_urqEnter (h : AccountsSound s) {r : Record} : AccountsSound (urqEnter r s) := h.same rfl

theorem AccountsSound.after_dropOpen (h : AccountsSound s) {i : CtxIx} : AccountsSound (dropOpen i s) :=
  h.after_setCtx_of id

theorem AccountsSound.after_toAwaiting (h : AccountsSound s) {i : CtxIx} {r : Record} :
    AccountsSound (toAwaiting i r s) := by
  have written : AccountsSound (s.setCtx i { s.ctx i with awaiting := some r }) := h.after_setCtx_of id
  exact written.same rfl

theorem AccountsSound.after_closeInterval (h : AccountsSound s) {i : CtxIx} {iv : Interval}
    (closed : closeInterval i iv s = some t) : AccountsSound t := by
  rcases closeInterval_cases s i iv with ⟨-, -, e⟩ | ⟨-, -, e⟩ | ⟨-, -, e⟩ <;> rw [e] at closed <;> cases closed
  · exact h.after_dropOpen.after_urqEnter
  · exact h.after_dropOpen.after_toAwaiting

/-- The close of an interval changes the intervals of its record alone (R101). -/
theorem closeInterval_ctx {i : CtxIx} {iv : Interval} (closed : closeInterval i iv s = some t) :
    ∃ r, t.ctx i = { s.ctx i with openIv := none, awaiting := r } := by
  rcases closeInterval_cases s i iv with ⟨-, -, e⟩ | ⟨-, -, e⟩ | ⟨-, -, e⟩ <;> rw [e] at closed <;> cases closed
  · exact ⟨(s.ctx i).awaiting, by simp [dropOpen]⟩
  · refine ⟨some (recordOf .interval i (s.ctx i) iv), ?_⟩
    show ((_ : State).setCtx i _).ctx i = _
    simp [dropOpen]

theorem AccountsSound.after_enterAwaiting (h : AccountsSound s) {i : CtxIx} : AccountsSound (enterAwaiting s i) := by
  unfold enterAwaiting
  split
  · exact h
  · refine (h.after_setCtx_of fun sound => ?_).after_urqEnter
    split
    · exact Context.sound_freeAt _
    · exact sound

theorem AccountsSound.after_drainAwaiting (h : AccountsSound s) {n : Nat} : AccountsSound (drainAwaiting n s) := by
  have listed : AccountsSound (s.setAwaiting (s.ur.awaiting.drop n)) := h.same rfl
  rw [drainAwaiting_eq]
  exact listed.after_foldl (fun _ _ h => h.after_enterAwaiting) _

theorem AccountsSound.after_placeSummary (h : AccountsSound s) {p : Num32} : AccountsSound (placeSummary p s) := by
  have raised : AccountsSound (raise .periodClosed (some (.period p)) { s with ur := summarized p s.ur }) :=
    (h.same (by rfl)).after_raise
  rw [placeSummary_eq]
  exact raised.same rfl

theorem AccountsSound.after_periodSummary (h : AccountsSound s) : AccountsSound (periodSummary s) := by
  unfold periodSummary
  split
  · split
    · exact h.after_placeSummary
    · exact h
  · exact h

theorem AccountsSound.after_resumeSweep (h : AccountsSound s) : AccountsSound (resumeSweep s) := by
  unfold resumeSweep
  split
  · exact h.same rfl
  · exact h

theorem AccountsSound.after_giveOut (h : AccountsSound s) {k : Nat} : AccountsSound (giveOut k s) := by
  unfold giveOut
  split
  · exact h.after_placeSummary.after_drainAwaiting
  · exact h.after_drainAwaiting

theorem AccountsSound.after_usageCompleted (h : AccountsSound s) : AccountsSound (usageCompleted s) := by
  unfold usageCompleted
  split
  · exact h
  · exact (h.same (by rfl)).after_giveOut.after_resumeSweep

theorem AccountsSound.after_usageFrameBuild (h : AccountsSound s) : AccountsSound (usageFrameBuild s) := by
  unfold usageFrameBuild
  split
  · dsimp only
    split
    · exact (h.same (by rfl)).after_offerControl
    · exact h
  · exact h

theorem AccountsSound.after_visit (h : AccountsSound s) : AccountsSound (visit s) := by
  unfold visit
  split
  · exact h.same rfl
  · split
    · exact h.same rfl
    · split
      · exact h.after_dropOpen.same rfl
      · exact h.same rfl

theorem AccountsSound.after_sweepVisit (h : AccountsSound s) : AccountsSound (sweepVisit s) := by
  simp only [sweepVisit]
  split
  · exact h.after_resumeSweep.after_visit
  · exact h.after_resumeSweep

theorem AccountsSound.after_placeFinal (h : AccountsSound s) {i : CtxIx} (held : (s.ctx i).state ≠ .free) :
    AccountsSound (placeFinal i s) := by
  unfold placeFinal
  split
  · exact h.after_urqEnter.after_setCtx (Context.sound_freeAt _)
  · have awaits : AccountsSound (toAwaiting i (finalRecord i s) s) := h.after_toAwaiting
    have state : ((toAwaiting i (finalRecord i s) s).ctx i).state = (s.ctx i).state := by
      show (((s.setCtx i _)).ctx i).state = _
      simp
    exact awaits.after_setCtx_of fun sound => sound.withState (state ▸ held) .closing

/-! ### Metering (R70, R80 to R92) -/

theorem AccountsSound.after_barringFailure (h : AccountsSound s) {i : CtxIx} : AccountsSound (barringFailure i s) := by
  rcases barringFailure_cases s i with ⟨-, e⟩ | ⟨-, e⟩ <;> rw [e]
  · exact h
  · have written : AccountsSound (s.setCtx i { s.ctx i with notifiedGen := s.zu.gen }) := h.after_setCtx_of id
    exact written.after_sendBearerNotice

theorem AccountsSound.after_exhaust (h : AccountsSound s) {i : CtxIx} (prepaid : (s.ctx i).account = .prepaid) :
    AccountsSound (exhaust i s) :=
  (h.after_setCtx_of fun sound => sound.exhaust prepaid).after_raise.after_sendBearerNotice

theorem AccountsSound.after_quotaNotices (h : AccountsSound s) {i : CtxIx} {c : Context} :
    AccountsSound (quotaNotices i c s) := by
  have told : AccountsSound (if c.balance ≤ 0 then exhaustedNotice i c s else s) := by
    split
    · exact h.after_raise.after_sendBearerNotice
    · exact h
  simp only [quotaNotices]
  split
  · exact told.after_raise.after_sendBearerNotice
  · exact told

theorem AccountsSound.after_keyStep (h : AccountsSound s) {i : CtxIx} (key : keyStep i s = some t) :
    AccountsSound t := by
  unfold keyStep at key
  split at key
  · cases key; exact h.after_setCtx_of id
  · split at key
    · cases key; exact h
    · split at key
      · cases key
      · next u closed => cases key; exact (h.after_closeInterval closed).after_setCtx_of id

/-- The key step changes the intervals of its record alone (R81). -/
theorem keyStep_ctx {i : CtxIx} (key : keyStep i s = some t) :
    ∃ iv r, t.ctx i = { s.ctx i with openIv := iv, awaiting := r } := by
  unfold keyStep at key
  split at key
  · cases key; exact ⟨some (freshInterval s (s.ctx i)), (s.ctx i).awaiting, by simp [openInterval]⟩
  · split at key
    · cases key; exact ⟨(s.ctx i).openIv, (s.ctx i).awaiting, rfl⟩
    · split at key
      · cases key
      · next u closed =>
        cases key
        obtain ⟨r, record⟩ := closeInterval_ctx closed
        exact ⟨some (freshInterval u (u.ctx i)), r, by simp [openInterval, record]⟩

/-- A frame is charged to a record with funds (R88). -/
theorem AccountsSound.after_applyCharge (h : AccountsSound s) {i : CtxIx} {d : Dir} {b : Nat} {ch : Charge}
    (held : (s.ctx i).state ≠ .free) (funds : (s.ctx i).account = .postpaid ∨ (s.ctx i).exhausted = false)
    (remainder : ch.remainder < 256000000) (cost : ch.cost ≤ 2357) : AccountsSound (applyCharge i d b ch s) := by
  cases account : (s.ctx i).account with
  | postpaid =>
    rw [applyCharge_postpaid d b ch account]
    exact h.after_setCtx ((h.1 i).charge_postpaid account remainder)
  | prepaid =>
    have clear := funds.resolve_left (by simp [account])
    rw [applyCharge_prepaid d b ch account clear]
    exact h.after_quotaNotices.after_setCtx ((h.1 i).charge_prepaid held account clear remainder cost)

/-- What R80 passes as a BEARER frame is of an ACTIVE context with funds. -/
theorem passesMetering_of_check {u : UserEntry} (kind : u.frame.kind = .bearer) (check : meterCheck s u = none) :
    PassesMetering s u := by
  simp only [meterCheck, kind] at check
  split at check
  · cases check
  split at check
  · cases check
  split at check
  · cases check
  split at check
  · cases check
  next current active realm funds =>
  refine ⟨by simpa using current, kind, by simpa using active, by simpa using realm, ?_⟩
  cases account : (s.ctx u.ctx).account with
  | postpaid => exact .inl rfl
  | prepaid => exact .inr (by simpa [Context.spent, account] using funds)

theorem AccountsSound.after_meterBearer (h : AccountsSound s) {u : UserEntry} {d : Dir} {m : Multiplier}
    (passes : PassesMetering s u) (fits : u.Fits) : AccountsSound (meterBearer u d m s).2 := by
  unfold meterBearer
  split
  · exact h.after_raise
  · next t key =>
    have keyed := h.after_keyStep key
    obtain ⟨iv, r, record⟩ := keyStep_ctx key
    have state : (t.ctx u.ctx).state ≠ .free := by rw [record, passes.active]; decide
    have funds : (t.ctx u.ctx).account = .postpaid ∨ (t.ctx u.ctx).exhausted = false := by
      rw [record]; exact passes.funds
    dsimp only
    split
    · next refuses =>
      have prepaid : (t.ctx u.ctx).account = .prepaid := by
        simp only [quotaRefuses, Bool.and_eq_true, beq_iff_eq] at refuses
        exact refuses.1.1
      exact keyed.after_exhaust prepaid
    · obtain ⟨carried, -⟩ := keyed.1 u.ctx
      have cost := chargeOf_cost_le (t.ctx u.ctx).allowance fits
        (Nat.le_of_lt_succ (t.zu.zone.rates[(t.ctx u.ctx).plan]).isLt) (Nat.le_of_lt_succ m.isLt) carried
      exact keyed.after_applyCharge state funds (chargeOf_remainder_lt _ _ _ _ _) cost

theorem AccountsSound.after_meter (h : AccountsSound s) {u : UserEntry} {d : Dir} {m : Multiplier} (fits : u.Fits) :
    AccountsSound (meter u d m s).2 := by
  unfold meter
  split
  · exact h.after_barringFailure
  · exact h
  · next passed =>
    split
    · exact h
    · next kind => exact h.after_meterBearer (passesMetering_of_check kind passed) fits

end Sys2Proof.Machine
end

section
/-! Every frame, request and step keeps the accounts sound (R79, R84, R88). -/

namespace Sys2Proof.Machine

variable {s t : State}

/-! ### The traffic path (R8 to R18) -/

theorem AccountsSound.after_routeUplink (h : AccountsSound s) {e : UserEntry} (fits : e.Fits) :
    AccountsSound (routeUplink e s) := by
  unfold routeUplink
  split
  · split
    · exact h.after_place fun x hx => by cases hx; exact fits
    · exact h.after_holdJoin fits
  · exact h.after_holdJoin fits

theorem AccountsSound.after_routeDownlink (h : AccountsSound s) {e : UserEntry} {m : Multiplier} (fits : e.Fits) :
    AccountsSound (routeDownlink e m s) := by
  simp only [routeDownlink]
  split
  · split
    · exact h.after_place fun x hx => by cases hx; exact fits
    · exact h.same rfl
  · exact h.same rfl

theorem AccountsSound.after_carry (h : AccountsSound s) {src : Source} {i : CtxIx} {f : BearerFrame}
    (fits : f.payload.length ≤ 9000) : AccountsSound (carry src i f s) := by
  cases src with
  | uplink r =>
    have followed : AccountsSound (followRu i r s) := h.after_setCtx_of id
    exact followed.after_routeUplink fits
  | downlink m => exact h.after_routeDownlink fits

theorem AccountsSound.after_admitFrame (h : AccountsSound s) {src : Source} {f : BearerFrame}
    (fits : f.payload.length ≤ 9000) : AccountsSound (admitFrame src f s) := by
  unfold admitFrame
  split
  · exact h.same rfl
  · split
    · exact (h.same (by rfl)).after_barringFailure
    · exact h.same rfl
    · unfold signalFailure
      split
      · split
        · exact (h.after_carry fits).after_barringFailure
        · exact h.after_carry fits
      · exact h.after_carry fits

/-- A frame that passes check 6 of R4 fits. -/
theorem payload_le_of_bearerOk {f : BearerFrame} (ok : bearerOk f = true) : f.payload.length ≤ 9000 :=
  of_decide_eq_true (Bool.and_eq_true_iff.mp ok).2

theorem AccountsSound.after_bearerIn (h : AccountsSound s) {port : Fin 4} {src : Addr} {f : BearerFrame} :
    AccountsSound (bearerIn port src f s) := by
  unfold bearerIn
  split
  · exact h.same rfl
  · next ok =>
    split
    · exact h.same rfl
    · exact h.after_admitFrame (payload_le_of_bearerOk (by simpa using ok))

theorem AccountsSound.after_linkFrameIn (h : AccountsSound s) {port : Fin 4} {a : Num16} {f : BearerFrame} :
    AccountsSound (linkFrameIn port a f s) := by
  unfold linkFrameIn
  split
  · exact h.same rfl
  · next ok =>
    split
    · exact h.same rfl
    · exact h.after_admitFrame (payload_le_of_bearerOk (by simpa using ok))

theorem AccountsSound.after_radioStatusIn (h : AccountsSound s) {port : Fin 4} {src : Addr} {n : BitVec 16} :
    AccountsSound (radioStatusIn port src n s) := by
  unfold radioStatusIn
  split
  · exact h.same rfl
  · simp only [radioStatusOf]
    split
    · exact (h.same (by rfl)).after_sendHeartbeat
    · exact h.same rfl

theorem AccountsSound.after_transmit (h : AccountsSound s) {p : Port} {dst : Addr} {c : Carried} :
    AccountsSound (transmit p dst c s) := h.after_setPort rfl

/-- A selected entry that fits is metered and leaves, or is dropped (R17, R18). -/
theorem AccountsSound.after_offerSelected (h : AccountsSound s) {p : Port} {b : EntryBody}
    (fits : ∀ e, b.user = some e → e.Fits) : AccountsSound (offerSelected p b s) := by
  unfold offerSelected
  split
  · exact h.after_transmit
  · next u k =>
    have metered := h.after_meter (d := .uplink) (m := transmissionMultiplier s (.up u k)) (fits u rfl)
    split
    · next outcome => rw [outcome] at metered; exact metered.same rfl
    · next outcome => rw [outcome] at metered; exact (metered.same (by rfl)).after_transmit
  · next u m dst =>
    have metered := h.after_meter (d := .downlink) (m := transmissionMultiplier s (.down u m dst)) (fits u rfl)
    split
    · next outcome => rw [outcome] at metered; exact metered.same rfl
    · next outcome => rw [outcome] at metered; exact metered.after_transmit

theorem AccountsSound.after_entrySelection (h : AccountsSound s) {p : Port} : AccountsSound (entrySelection p s) := by
  unfold entrySelection
  split
  · split
    · next e q selected =>
      obtain ⟨pre, post, queue, rfl, -⟩ := takeFirst_split _ _ _ _ selected
      have left : AccountsSound (s.setQueue p (pre ++ post)) := h.after_leave (by rw [queue]; simp)
      exact left.after_offerSelected fun u user => h.2 u (.inr ⟨p, e, by rw [queue]; simp, user⟩)
    · exact h
  · exact h

theorem AccountsSound.after_transmissionCompletion (h : AccountsSound s) {p : Port} :
    AccountsSound (transmissionCompletion p s) := by
  unfold transmissionCompletion
  split
  · exact h
  · have freed : AccountsSound
        (s.setPort p { s.port p with sending := none, transmitted := (s.port p).transmitted + 1 }) :=
      h.after_setPort rfl
    unfold reportCompletion
    split
    · exact freed.after_usageCompleted
    · exact freed.same rfl
    · exact freed.same rfl
    · exact freed

theorem AccountsSound.after_holdDrainMove (h : AccountsSound s) : AccountsSound (holdDrainMove s) := by
  unfold holdDrainMove
  split
  · next k e es _ hold =>
    have left : AccountsSound (s.setHold es) := h.after_setHold fun x hx => .inl (by rw [hold]; simp [hx])
    have fits : e.Fits := h.2 e (.inl (by rw [hold]; simp))
    split
    · split
      · exact left.same rfl
      · exact left.after_place fun x hx => by cases hx; exact fits
    · exact h
  · exact h

/-! ### Clock, coverage and position steps (R24, R50, R51, R157 to R168) -/

theorem AccountsSound.after_epochBoundary (h : AccountsSound s) : AccountsSound (epochBoundary s) := by
  unfold epochBoundary
  split
  · have aged : AccountsSound (s.setHold (s.cs.hold.dropWhile (nextEpoch s).tooOld)) :=
      h.after_setHold fun e he => .inl ((List.dropWhile_sublist _).subset he)
    have boundary : AccountsSound (ageHold (nextEpoch s)) := aged.same rfl
    exact boundary.after_triggerMoment
  · exact h

theorem AccountsSound.after_staleDeadline (h : AccountsSound s) : AccountsSound (staleDeadline s) := by
  unfold staleDeadline
  split
  · split
    · exact (h.same (by rfl)).after_raise
    · exact h
  · exact h

theorem AccountsSound.after_setCandidate (h : AccountsSound s) {c : Option ZoneIx} {n : Nat} :
    AccountsSound (setCandidate c n s) := h.same rfl

theorem AccountsSound.after_lostDeadline (h : AccountsSound s) : AccountsSound (lostDeadline s) := by
  unfold lostDeadline
  split
  · split
    · exact (h.same (by rfl)).after_raise.after_setCandidate.after_zoneChange
    · exact h
  · exact h

theorem AccountsSound.after_graceExpiry (h : AccountsSound s) : AccountsSound (graceExpiry s) := by
  unfold graceExpiry
  split
  · exact h
  · split
    · dsimp only
      split
      · exact (h.same (by rfl)).after_recomputeLevel.after_round
      · exact h.same rfl
    · exact h

theorem AccountsSound.after_setNextHeartbeat (h : AccountsSound s) {t : Time} :
    AccountsSound { s with cs := { s.cs with nextHeartbeat := t } } := h.same rfl

theorem AccountsSound.after_heartbeatTime (h : AccountsSound s) : AccountsSound (heartbeatTime s) := by
  unfold heartbeatTime
  split
  · exact h.after_round.after_setNextHeartbeat
  · exact h

theorem AccountsSound.after_livenessDeadline (h : AccountsSound s) {r : RuIx} :
    AccountsSound (livenessDeadline r s) := by
  simp only [livenessDeadline]
  split
  · split
    · exact (h.same (by rfl)).after_raise
    · exact h
  · exact h

theorem AccountsSound.after_placeEndMarker (h : AccountsSound s) {k : LinkIx} : AccountsSound (placeEndMarker k s) := by
  unfold placeEndMarker
  split
  · exact h
  · exact (h.same (by rfl)).after_offerControl

/-- A part in which nothing waits has sound accounts where its records are as they were. -/
theorem AccountsSound.of_empty (h : AccountsSound s) (contexts : t.contexts = s.contexts)
    (queue : ∀ p, (t.port p).queue = []) (hold : t.cs.hold = []) : AccountsSound t := by
  refine h.of_waits contexts fun e he => ?_
  rcases he with he | ⟨p, x, hx, -⟩
  · rw [hold] at he; cases he
  · rw [queue] at hx; cases hx

/-- The assertion of the reset input discards every frame (R183). -/
theorem AccountsSound.after_resetInputAsserted (h : AccountsSound s) : AccountsSound (resetInputAsserted s) :=
  h.of_empty rfl (fun p => by simp [State.port, resetInputAsserted, PortState.held]) rfl

/-- A cold reset leaves FREE records and no frame, or does nothing (R183). -/
theorem AccountsSound.after_coldReset (h : AccountsSound s) {cause : ColdCause} :
    AccountsSound (coldReset cause s) := by
  have cold (b : Bool) : AccountsSound (coldState b s) := by
    refine ⟨fun i => ?_, fun e he => ?_⟩
    · have record : (coldState b s).ctx i = Context.freeAt 0 := by simp [State.ctx, coldState, State.reset]
      rw [record]; exact Context.sound_freeAt 0
    · rcases he with he | ⟨p, x, hx, -⟩
      · cases he
      · simp [State.port, coldState, PortState.afterCold, PortState.cold] at hx
  unfold coldReset
  split
  · exact cold _
  · split
    · exact cold _
    · exact h
  · split
    · exact cold _
    · exact h

/-! ### What the requests do (R29 to R184) -/

/-- A request that names a context keeps the accounts sound when its own rule does on a held one (R29). -/
theorem AccountsSound.after_named (h : AccountsSound s) {n : CtxName} {f : CtxIx → Context → State → Reply × State}
    (rule : ∀ i, (s.ctx i).state ≠ .free → AccountsSound (f i (s.ctx i) s).2) : AccountsSound (named n f s).2 := by
  rcases named_cases s n f with ⟨-, e⟩ | ⟨i, -, ⟨-, e⟩ | ⟨⟨-, held, -⟩, e⟩⟩ <;> rw [e]
  · exact h
  · exact h
  · exact rule i held

theorem AccountsSound.after_createContext (h : AccountsSound s) {a : CreateArgs} :
    AccountsSound (createContext a s).2 := by
  unfold createContext
  split
  · exact h
  next v values =>
  split
  · exact h
  next within =>
  split
  · exact h
  next positive =>
  split
  · exact h
  split
  · exact h
  split
  · exact h
  · refine h.after_setCtx (newContext_sound values (fun prepaid => ?_) _ _)
    rw [createOverLimit_iff] at within
    have above : ¬ a.balance.toInt < 1 := by simpa [prepaid] using positive
    have within := not_or.mp (not_and.mp within prepaid)
    omega

theorem AccountsSound.after_modifyContext (h : AccountsSound s) {n : CtxName} {a : ModifyArgs} :
    AccountsSound (modifyContext n a s).2 := by
  refine h.after_named fun i held => ?_
  simp only [modifyNamed]
  split
  · exact h
  split
  · exact h
  next allowed =>
  split
  · exact h
  next v values =>
  split
  · exact h
  next within =>
  rw [givenForPostpaid_iff] at allowed
  rw [thresholdBeyond_iff] at within
  split
  · exact h.after_raise
  · next t closed =>
    have kept : AccountsSound t ∧ (t.ctx i).account = (s.ctx i).account := by
      unfold closeForPlan at closed
      split at closed
      · cases closed; exact ⟨h, rfl⟩
      · obtain ⟨r, record⟩ := closeInterval_ctx closed
        exact ⟨h.after_closeInterval closed, by rw [record]⟩
    obtain ⟨sound, account⟩ := kept
    refine sound.after_setCtx_of fun record => record.modify values (fun given => allowed ?_) within
    exact ⟨account ▸ given.1, given.2⟩

theorem AccountsSound.after_suspendContext (h : AccountsSound s) {n : CtxName} :
    AccountsSound (suspendContext n s).2 := by
  refine h.after_named fun i held => ?_
  simp only [suspendNamed]
  split
  · exact h
  · exact (h.after_setCtx ((h.1 i).withState held .suspended)).after_sendBearerNotice

theorem AccountsSound.after_resumeContext (h : AccountsSound s) {n : CtxName} :
    AccountsSound (resumeContext n s).2 := by
  refine h.after_named fun i held => ?_
  simp only [resumeNamed]
  split
  · exact h
  · exact (h.after_setCtx ((h.1 i).withState held .active)).after_sendBearerNotice

theorem AccountsSound.after_topUp (h : AccountsSound s) {n : CtxName} {m : BitVec 64} {l : BitVec 32} :
    AccountsSound (topUp n m l s).2 := by
  refine h.after_named fun i held => ?_
  simp only [topUpNamed]
  split
  · exact h
  split
  · exact h
  next prepaid =>
  split
  · exact h
  split
  · exact h
  split
  · exact h
  next balance =>
  split
  · exact h
  · next allowance =>
    have account : (s.ctx i).account = .prepaid := by
      cases x : (s.ctx i).account with
      | prepaid => rfl
      | postpaid => simp [x] at prepaid
    exact h.after_setCtx ((h.1 i).topUp held account (not_lt.mp balance) (not_lt.mp allowance))

theorem AccountsSound.after_releaseContext (h : AccountsSound s) {n : CtxName} :
    AccountsSound (releaseContext n s).2 := by
  refine h.after_named fun i held => ?_
  simp only [releaseNamed]
  split
  · exact h
  split
  · exact h.after_raise
  · exact (h.after_placeFinal held).after_sendBearerNotice

theorem AccountsSound.after_findContext (h : AccountsSound s) {b : Num32} : AccountsSound (findContext b s).2 := by
  unfold findContext
  split
  · exact h
  · split <;> exact h

theorem AccountsSound.after_readContext (h : AccountsSound s) {i : Num16} : AccountsSound (readContext i s).2 := by
  unfold readContext; split <;> exact h

theorem AccountsSound.after_readZone (h : AccountsSound s) {i : Byte} : AccountsSound (readZone i s).2 := by
  unfold readZone
  split
  · exact h
  · split <;> exact h

theorem AccountsSound.after_readLink (h : AccountsSound s) {i : Byte} : AccountsSound (readLink i s).2 := by
  unfold readLink; split <;> exact h

theorem AccountsSound.after_readRadioUnit (h : AccountsSound s) {i : Byte} : AccountsSound (readRadioUnit i s).2 := by
  unfold readRadioUnit; split <;> exact h

theorem AccountsSound.after_closePeriod (h : AccountsSound s) : AccountsSound (closePeriod s).2 := by
  unfold closePeriod; split <;> exact h.same rfl

theorem AccountsSound.after_zoneFault (h : AccountsSound s) {a : Nat} {x : Int} : AccountsSound (zoneFault a x s) := by
  unfold zoneFault
  split
  · split
    · exact h
    · exact h.after_raise
  · exact h

theorem AccountsSound.after_confirm (h : AccountsSound s) {c : ZoneIx} : AccountsSound (confirm c s) := by
  unfold confirm
  split
  · exact h.after_setCandidate
  split
  · exact h.after_zoneChange.after_setCandidate
  · exact h.after_setCandidate

theorem AccountsSound.after_enterAtOnce (h : AccountsSound s) {c : ZoneIx} : AccountsSound (enterAtOnce c s) := by
  unfold enterAtOnce
  split
  · exact h.after_setCandidate
  · exact h.after_zoneChange.after_setCandidate

theorem AccountsSound.after_setWaypoint (h : AccountsSound s) {i : WaypointId} {w : Waypoint} :
    AccountsSound (s.setWaypoint i w) := by
  cases i <;> exact h.same rfl

theorem AccountsSound.after_testWaypoint (h : AccountsSound s) {i : WaypointId} {before after : Nat} :
    AccountsSound (testWaypoint i before after s) := by
  simp only [testWaypoint]
  split
  · split
    · exact h.after_raise.after_setWaypoint.after_triggerMoment
    · exact h.after_raise.after_setWaypoint
  · exact h

theorem AccountsSound.after_acceptReport (h : AccountsSound s) {a : Nat} {x : Int} {q : Quality} {fix : Time} :
    AccountsSound (acceptReport a x q fix s) := by
  have faulted : AccountsSound (zoneFault a x (acceptPosition a x q fix s)) := (h.same (by rfl)).after_zoneFault
  simp only [acceptReport]
  split
  · exact faulted.after_enterAtOnce
  · exact faulted.after_confirm.after_testWaypoint.after_testWaypoint

theorem AccountsSound.after_positionReport (h : AccountsSound s) {a : PositionArgs} :
    AccountsSound (positionReport a s).2 := by
  unfold positionReport
  split
  · split
    · exact h
    · dsimp only [takeReport]
      split
      · exact h
      · split
        · exact h.same rfl
        · exact h.after_acceptReport
  · exact h

theorem AccountsSound.after_writeZone (h : AccountsSound s) {a : ZoneArgs} : AccountsSound (writeZone a s).2 := by
  unfold writeZone
  split
  · split <;> exact h.same rfl
  · exact h

theorem AccountsSound.after_reloadZone (h : AccountsSound s) : AccountsSound (reloadZone s).2 := by
  unfold reloadZone
  split
  · exact h.after_zoneChange
  · exact h

theorem AccountsSound.after_armWaypoint (h : AccountsSound s) {a : WaypointArgs} :
    AccountsSound (armWaypoint a s).2 := by
  unfold armWaypoint
  split
  · split
    · exact h
    · exact h.after_setWaypoint
  · exact h

theorem AccountsSound.after_disarmWaypoint (h : AccountsSound s) {c : Byte} :
    AccountsSound (disarmWaypoint c s).2 := by
  unfold disarmWaypoint
  split
  · exact h
  · exact h.after_setWaypoint

theorem AccountsSound.after_writeLink (h : AccountsSound s) {a : LinkArgs} : AccountsSound (writeLink a s).2 := by
  unfold writeLink
  split
  · exact (h.same (by rfl)).after_healthEvent.after_suLinkChanged
  · exact h

theorem AccountsSound.after_stageLink (h : AccountsSound s) {k t : Byte} : AccountsSound (stageLink k t s).2 := by
  unfold stageLink
  split
  · next k t _ _ =>
    split
    · exact h
    · have triggered : AccountsSound (triggerMoment .now (writeStage k t s)) := (h.same (by rfl)).after_triggerMoment
      exact triggered.after_steerIf triggered.after_recoveryTest
  · exact h

theorem AccountsSound.after_cancelStage (h : AccountsSound s) : AccountsSound (cancelStage s).2 := by
  unfold cancelStage; split <;> exact h.same rfl

theorem AccountsSound.after_setFailoverOrder (h : AccountsSound s) {order : List Byte} :
    AccountsSound (setFailoverOrder order s).2 := by
  unfold setFailoverOrder
  split
  · exact h
  split
  · exact h
  · next ks _ =>
    have listed : AccountsSound { s with su := { s.su with order := ks } } := h.same rfl
    exact listed.after_steerIf listed.after_recoveryTest

theorem AccountsSound.after_writeRadioUnit (h : AccountsSound s) {a : RuArgs} :
    AccountsSound (writeRadioUnit a s).2 := by
  unfold writeRadioUnit; split <;> exact h.same rfl

theorem AccountsSound.after_setFloor (h : AccountsSound s) {f : Byte} : AccountsSound (setFloor f s).2 := by
  unfold setFloor; split <;> exact h.same rfl

theorem AccountsSound.after_recomputeFloor (h : AccountsSound s) : AccountsSound (recomputeFloor s) := h.same rfl

theorem AccountsSound.after_openAttach (h : AccountsSound s) : AccountsSound (openAttach s).2 := by
  have opened : AccountsSound { s with zu := { s.zu with gate := .open } } := h.same rfl
  unfold openAttach
  split
  · exact h
  · dsimp only; exact opened.after_round

theorem AccountsSound.after_configure (h : AccountsSound s) {a : ConfigureArgs} : AccountsSound (configure a s).2 := by
  unfold configure
  split
  · exact h
  · dsimp only
    split <;> exact h.same rfl

theorem AccountsSound.after_clearEvents (h : AccountsSound s) {kinds : List Byte} :
    AccountsSound (clearEvents kinds s).2 := by
  unfold clearEvents
  split
  · exact h
  · split <;> exact h.same rfl

theorem AccountsSound.after_warmTraffic (h : AccountsSound s) : AccountsSound (warmTraffic s) :=
  h.of_empty rfl (fun p => by simp [State.port, warmTraffic, PortState.warm]) rfl

theorem AccountsSound.after_warmZone (h : AccountsSound s) : AccountsSound (warmZone s) :=
  (h.after_enterZone (d := 0)).after_suZoneChanged.after_recomputeLevel.after_recomputeFloor.after_round

/-- A warm reset empties the egress queues and the hold queue, and keeps the records (R184). -/
theorem AccountsSound.after_resetWarm (h : AccountsSound s) : AccountsSound (resetWarm s).2 := by
  have counted : AccountsSound (warmEvents s) := h.same rfl
  unfold resetWarm warmReset
  dsimp only
  exact counted.after_warmTraffic.after_warmZone

theorem AccountsSound.after_reset (h : AccountsSound s) {p : Port} {kind : Byte} :
    AccountsSound (reset p kind s).2 := by
  unfold reset
  split
  · exact h.same rfl
  · exact h.after_resetWarm
  · exact h

/-- Every command that a code can name keeps the accounts sound. -/
theorem AccountsSound.after_bodyOf (h : AccountsSound s) {p : Port} {xs : List Item} {cmd : Command} :
    AccountsSound (bodyOf p xs cmd s).2 := by
  cases cmd with
  | readStatus | readCounters => exact h
  | readEvents => exact h.same rfl
  | readContext => exact h.after_readContext
  | findContext => exact h.after_findContext
  | readZone => exact h.after_readZone
  | readLink => exact h.after_readLink
  | readRadioUnit => exact h.after_readRadioUnit
  | createContext => exact h.after_createContext
  | modifyContext => exact h.after_modifyContext
  | suspendContext => exact h.after_suspendContext
  | resumeContext => exact h.after_resumeContext
  | topUp => exact h.after_topUp
  | releaseContext => exact h.after_releaseContext
  | closePeriod => exact h.after_closePeriod
  | positionReport => exact h.after_positionReport
  | writeZone => exact h.after_writeZone
  | reloadZone => exact h.after_reloadZone
  | armWaypoint => exact h.after_armWaypoint
  | disarmWaypoint => exact h.after_disarmWaypoint
  | writeLink => exact h.after_writeLink
  | stageLink => exact h.after_stageLink
  | cancelStage => exact h.after_cancelStage
  | setFailoverOrder => exact h.after_setFailoverOrder
  | writeRadioUnit => exact h.after_writeRadioUnit
  | setFloor => exact h.after_setFloor
  | openAttach => exact h.after_openAttach
  | configure => exact h.after_configure
  | clearEvents => exact h.after_clearEvents
  | reset => exact h.after_reset

/-! ### A request or frame that arrives (R1, R5, R22, R173) -/

theorem AccountsSound.after_arrive (h : AccountsSound s) {p : Port} {f : State → State}
    (taken : ∀ t, AccountsSound t → AccountsSound (f t)) : AccountsSound (arrive p f s) := by
  by_cases receives : Receives s p
  · rw [arrive_of_receives s f receives]
    exact taken _ (h.after_setPort rfl)
  · rw [arrive_of_not_receives s f receives]; exact h

theorem AccountsSound.after_handle (h : AccountsSound s) {rq : Request} {cmd : Command}
    {body : State → Reply × State} (rule : AccountsSound (body s).2) : AccountsSound (handle rq cmd body s) := by
  simp only [handle]
  split
  · exact h.after_respond
  split
  · exact h.after_respond
  split
  · exact h.after_respond
  · exact rule.after_respond

theorem AccountsSound.after_ask (h : AccountsSound s) {rq : Request} {cmd : Command} {body : State → Reply × State}
    (rule : ∀ t, AccountsSound t → AccountsSound (body t).2) : AccountsSound (ask rq cmd body s) := by
  refine h.after_arrive fun t h => ?_
  unfold admitRequest
  split
  · exact h.same rfl
  · exact h.after_handle (rule t h)

theorem AccountsSound.after_admitted (h : AccountsSound s) {rq : Request} {code : Byte} {xs : List Item} :
    AccountsSound (admitRequest rq (meRequest rq code xs) s) := by
  unfold admitRequest
  split
  · exact h.same rfl
  · unfold meRequest
    split
    · exact h.after_respond
    · exact h.after_handle h.after_bodyOf

theorem AccountsSound.after_takeIn (h : AccountsSound s) {p : Port} {bs : List Byte} :
    AccountsSound (takeIn p bs s) := by
  unfold takeIn
  split
  · exact h.same rfl
  · unfold passOn
    split
    · exact h.after_bearerIn
    · exact h.after_radioStatusIn
    · exact h.after_linkFrameIn
    · exact h.after_echoIn
    · exact h.after_admitted
    · exact h.same rfl

theorem AccountsSound.after_unlessHeld (h : AccountsSound s) {f : State → State} (step : AccountsSound (f s)) :
    AccountsSound (unlessHeld f s) := by
  unfold unlessHeld
  split
  · exact h
  · exact step

/-! ### Every command -/

theorem AccountsSound.after_exec (h : AccountsSound s) {i : Instr} (e : exec i s = .next t) : AccountsSound t := by
  cases i with
  | badFrame => cases e; exact h.after_arrive fun _ h => h.after_takeIn
  | bearerUplinkIntake => cases e; exact h.after_arrive fun _ h => h.after_bearerIn
  | linkFrameIntake => cases e; exact h.after_arrive fun _ h => h.after_linkFrameIn
  | echo => cases e; exact h.after_arrive fun _ h => h.after_echoIn
  | radioStatus => cases e; exact h.after_arrive fun _ h => h.after_radioStatusIn
  | badCommand => cases e; exact h.after_arrive fun _ h => h.after_admitted
  | readStatus | readCounters => cases e; exact h.after_ask fun _ h => h
  | readEvents | resetCold => cases e; exact h.after_ask fun _ h => h.same rfl
  | readContext => cases e; exact h.after_ask fun _ h => h.after_readContext
  | findContext => cases e; exact h.after_ask fun _ h => h.after_findContext
  | readZone => cases e; exact h.after_ask fun _ h => h.after_readZone
  | readLink => cases e; exact h.after_ask fun _ h => h.after_readLink
  | readRadioUnit => cases e; exact h.after_ask fun _ h => h.after_readRadioUnit
  | createContext => cases e; exact h.after_ask fun _ h => h.after_createContext
  | modifyContext => cases e; exact h.after_ask fun _ h => h.after_modifyContext
  | suspendContext => cases e; exact h.after_ask fun _ h => h.after_suspendContext
  | resumeContext => cases e; exact h.after_ask fun _ h => h.after_resumeContext
  | topUp => cases e; exact h.after_ask fun _ h => h.after_topUp
  | releaseContext => cases e; exact h.after_ask fun _ h => h.after_releaseContext
  | closePeriod => cases e; exact h.after_ask fun _ h => h.after_closePeriod
  | positionReport => cases e; exact h.after_ask fun _ h => h.after_positionReport
  | writeZone => cases e; exact h.after_ask fun _ h => h.after_writeZone
  | reloadZone => cases e; exact h.after_ask fun _ h => h.after_reloadZone
  | armWaypoint => cases e; exact h.after_ask fun _ h => h.after_armWaypoint
  | disarmWaypoint => cases e; exact h.after_ask fun _ h => h.after_disarmWaypoint
  | writeLink => cases e; exact h.after_ask fun _ h => h.after_writeLink
  | stageLink => cases e; exact h.after_ask fun _ h => h.after_stageLink
  | cancelStage => cases e; exact h.after_ask fun _ h => h.after_cancelStage
  | setFailoverOrder => cases e; exact h.after_ask fun _ h => h.after_setFailoverOrder
  | writeRadioUnit => cases e; exact h.after_ask fun _ h => h.after_writeRadioUnit
  | setFloor => cases e; exact h.after_ask fun _ h => h.after_setFloor
  | openAttach => cases e; exact h.after_ask fun _ h => h.after_openAttach
  | configure => cases e; exact h.after_ask fun _ h => h.after_configure
  | clearEvents => cases e; exact h.after_ask fun _ h => h.after_clearEvents
  | resetWarm => cases e; exact h.after_ask (body := resetWarm) fun _ h => h.after_resetWarm
  | coldReset => cases e; exact h.after_coldReset
  | epochBoundary => cases e; exact h.after_unlessHeld h.after_epochBoundary
  | staleDeadline => cases e; exact h.after_unlessHeld h.after_staleDeadline
  | lostDeadline => cases e; exact h.after_unlessHeld h.after_lostDeadline
  | probeTime => cases e; exact h.after_unlessHeld h.after_probeTime
  | graceExpiry => cases e; exact h.after_unlessHeld h.after_graceExpiry
  | heartbeatTime => cases e; exact h.after_unlessHeld h.after_heartbeatTime
  | livenessDeadline => cases e; exact h.after_unlessHeld h.after_livenessDeadline
  | shoreCarrierDown => cases e; exact h.after_shoreCarrierDown
  | shoreCarrierUp => cases e; exact h.after_setCarrier
  | cellCarrierChange => cases e; exact h.after_cellCarrierChange
  | entrySelection => cases e; exact h.after_unlessHeld h.after_entrySelection
  | transmissionCompletion => cases e; exact h.after_unlessHeld h.after_transmissionCompletion
  | usageFrameBuild => cases e; exact h.after_unlessHeld h.after_usageFrameBuild
  | holdDrainMove => cases e; exact h.after_unlessHeld h.after_holdDrainMove
  | sweepVisit => cases e; exact h.after_unlessHeld h.after_sweepVisit
  | periodSummary => cases e; exact h.after_unlessHeld h.after_periodSummary
  | endMarker => cases e; exact h.after_unlessHeld h.after_placeEndMarker
  | resetInputAsserted => cases e; exact h.after_resetInputAsserted

theorem AccountsSound.after_idle (h : AccountsSound s) : AccountsSound (idle s) := by
  unfold idle
  split
  · exact h
  · split <;> exact h.same rfl

/-- Settles O4: every command keeps the accounts sound (`AccountsSound.after_exec`), and an idle step changes
none. -/
theorem stepKeepsAccountsSound : Obligations.StepKeepsAccountsSound := by
  intro s t sound e
  unfold step at e
  split at e
  · cases e; exact sound.after_idle
  · next i is _ =>
    have waiting : AccountsSound (s.withPending is) := sound.same rfl
    exact waiting.after_exec e

end Sys2Proof.Machine
end

section
/-! The commands that leave UR, or its awaiting list, as it was. -/

namespace Sys2Proof.Machine

variable (s : State)

/-! ### Links (R117 to R132) -/

@[simp] theorem evaluate_ur (k : LinkIx) (o : ProbeOutcome) : (evaluate k o s).ur = s.ur := by
  simp [evaluate]

@[simp] theorem loseOutstanding_ur (k : LinkIx) : (loseOutstanding k s).ur = s.ur := by
  unfold loseOutstanding; split <;> simp

@[simp] theorem buildProbe_ur (k : LinkIx) : (buildProbe k s).ur = s.ur := by
  simp only [buildProbe]; split <;> simp

@[simp] theorem probeTime_ur (k : LinkIx) : (probeTime k s).ur = s.ur := by
  unfold probeTime
  split
  · rfl
  · rfl
  · split <;> simp

@[simp] theorem echoOf_ur (k : LinkIx) (n : Num16) : (echoOf k n s).ur = s.ur := by
  simp only [echoOf]
  split
  · simp
  · split <;> simp

@[simp] theorem echoIn_ur (port : Fin 4) (a n : Num16) : (echoIn port a n s).ur = s.ur := by
  unfold echoIn; split <;> simp

@[simp] theorem coldOnCarrierLoss_ur (p : Port) : (coldOnCarrierLoss p s).ur = s.ur := by
  unfold coldOnCarrierLoss; split <;> rfl

@[simp] theorem carrierLost_ur (port : Fin 4) (k : LinkIx) :
    (carrierLost port s k).ur = s.ur := by
  simp only [carrierLost]
  split
  · split <;> simp
  · rfl

@[simp] theorem shoreCarrierDown_ur (port : Fin 4) : (shoreCarrierDown port s).ur = s.ur := by
  unfold shoreCarrierDown
  split
  · dsimp only
    split
    · rfl
    · rw [foldl_keeps (·.ur) _ (carrierLost_ur · port)]; simp
  · rfl

@[simp] theorem cellCarrierChange_ur (port : Fin 4) (up : Bool) :
    (cellCarrierChange port up s).ur = s.ur := by
  simp only [cellCarrierChange]; split <;> simp

/-! ### Coverage, the clock and the queues (R18 to R24, R50, R51, R149, R157 to R168) -/

@[simp] theorem holdJoin_ur (e : UserEntry) : (holdJoin e s).ur = s.ur := by
  rcases holdJoin_cases s e with ⟨-, h⟩ | ⟨-, h⟩ <;> simp [h]

@[simp] theorem radioStatusIn_ur (port : Fin 4) (src : Addr) (n : BitVec 16) :
    (radioStatusIn port src n s).ur = s.ur := by
  unfold radioStatusIn
  split
  · rfl
  · simp only [radioStatusOf]; split <;> simp

@[simp] theorem transmit_ur (p : Port) (dst : Addr) (c : Carried) :
    (transmit p dst c s).ur = s.ur := rfl

@[simp] theorem holdDrainMove_ur : (holdDrainMove s).ur = s.ur := by
  unfold holdDrainMove
  split
  · split
    · split <;> simp
    · rfl
  · rfl

@[simp] theorem epochBoundary_ur : (epochBoundary s).ur = s.ur := by
  unfold epochBoundary
  split
  · rw [triggerMoment_ur]; rfl
  · rfl

@[simp] theorem staleDeadline_ur : (staleDeadline s).ur = s.ur := by
  unfold staleDeadline
  split
  · split <;> simp
  · rfl

@[simp] theorem lostDeadline_ur : (lostDeadline s).ur = s.ur := by
  unfold lostDeadline
  split
  · split
    · simp [setCandidate]
    · rfl
  · rfl

@[simp] theorem graceExpiry_ur : (graceExpiry s).ur = s.ur := by
  unfold graceExpiry
  split
  · rfl
  · split
    · dsimp only; split <;> simp
    · rfl

@[simp] theorem heartbeatTime_ur : (heartbeatTime s).ur = s.ur := by
  unfold heartbeatTime; split <;> simp

@[simp] theorem livenessDeadline_ur (r : RuIx) : (livenessDeadline r s).ur = s.ur := by
  simp only [livenessDeadline]
  split
  · split <;> simp
  · rfl

@[simp] theorem placeEndMarker_ur (k : LinkIx) : (placeEndMarker k s).ur = s.ur := by
  unfold placeEndMarker; split <;> simp

/-! ### Requests that only report (R36, R37, R60, R121, R169) -/

@[simp] theorem findContext_ur (b : Num32) : (findContext b s).2.ur = s.ur := by
  unfold findContext
  split
  · rfl
  · split <;> rfl

@[simp] theorem readContext_ur (n : Num16) : (readContext n s).2.ur = s.ur := by
  unfold readContext; split <;> rfl

@[simp] theorem readZone_ur (n : Byte) : (readZone n s).2.ur = s.ur := by
  unfold readZone
  split
  · rfl
  · split <;> rfl

@[simp] theorem readLink_ur (n : Byte) : (readLink n s).2.ur = s.ur := by
  unfold readLink; split <;> rfl

@[simp] theorem readRadioUnit_ur (n : Byte) : (readRadioUnit n s).2.ur = s.ur := by
  unfold readRadioUnit; split <;> rfl

/-! ### Position and zones (R46 to R64, R75) -/

@[simp] theorem setCandidate_ur (c : Option ZoneIx) (n : Nat) :
    (setCandidate c n s).ur = s.ur := rfl

@[simp] theorem zoneFault_ur (a : Nat) (x : Int) : (zoneFault a x s).ur = s.ur := by
  unfold zoneFault
  split
  · split <;> simp
  · rfl

@[simp] theorem confirm_ur (c : ZoneIx) : (confirm c s).ur = s.ur := by
  unfold confirm
  split
  · rfl
  · split <;> simp

@[simp] theorem enterAtOnce_ur (c : ZoneIx) : (enterAtOnce c s).ur = s.ur := by
  unfold enterAtOnce; split <;> simp

@[simp] theorem setWaypoint_ur (i : WaypointId) (w : Waypoint) :
    (s.setWaypoint i w).ur = s.ur := by cases i <;> rfl

@[simp] theorem testWaypoint_ur (i : WaypointId) (before after : Nat) :
    (testWaypoint i before after s).ur = s.ur := by
  simp only [testWaypoint]
  split
  · split <;> simp
  · rfl

@[simp] theorem acceptReport_ur (a : Nat) (x : Int) (q : Quality) (fix : Time) :
    (acceptReport a x q fix s).ur = s.ur := by
  simp only [acceptReport]
  split <;> simp [acceptPosition]

@[simp] theorem positionReport_ur (a : PositionArgs) : (positionReport a s).2.ur = s.ur := by
  unfold positionReport
  split
  · split
    · rfl
    · dsimp only [takeReport]
      split
      · rfl
      · split <;> simp
  · rfl

@[simp] theorem writeZone_ur (a : ZoneArgs) : (writeZone a s).2.ur = s.ur := by
  unfold writeZone
  split
  · split <;> rfl
  · rfl

@[simp] theorem reloadZone_ur : (reloadZone s).2.ur = s.ur := by
  unfold reloadZone; split <;> simp

@[simp] theorem armWaypoint_ur (a : WaypointArgs) : (armWaypoint a s).2.ur = s.ur := by
  unfold armWaypoint
  split
  · split <;> simp
  · rfl

@[simp] theorem disarmWaypoint_ur (c : Byte) : (disarmWaypoint c s).2.ur = s.ur := by
  unfold disarmWaypoint; split <;> simp

@[simp] theorem openAttach_ur : (openAttach s).2.ur = s.ur := by
  unfold openAttach; split <;> simp

/-! ### Links, steering, radio units and settings (R119, R139 to R143, R164, R167, R181) -/

@[simp] theorem writeLink_ur (a : LinkArgs) : (writeLink a s).2.ur = s.ur := by
  unfold writeLink; split <;> simp

@[simp] theorem steerIf_recoveryTest_ur (b : Bool) : (steerIf b recoveryTest s).ur = s.ur :=
  steerIf_keeps s (·.ur) _ _ (fun g w s => csHandover_ur s g w) (recoveryTest_ur s)

@[simp] theorem stageLink_ur (k t : Byte) : (stageLink k t s).2.ur = s.ur := by
  unfold stageLink
  split
  · split <;> simp [writeStage]
  · rfl

@[simp] theorem cancelStage_ur : (cancelStage s).2.ur = s.ur := by
  unfold cancelStage; split <;> rfl

@[simp] theorem setFailoverOrder_ur (order : List Byte) :
    (setFailoverOrder order s).2.ur = s.ur := by
  unfold setFailoverOrder
  split
  · rfl
  · split <;> simp

@[simp] theorem writeRadioUnit_ur (a : RuArgs) : (writeRadioUnit a s).2.ur = s.ur := by
  unfold writeRadioUnit; split <;> rfl

@[simp] theorem setFloor_ur (f : Byte) : (setFloor f s).2.ur = s.ur := by
  unfold setFloor; split <;> rfl

@[simp] theorem clearEvents_ur (kinds : List Byte) : (clearEvents kinds s).2.ur = s.ur := by
  unfold clearEvents
  split
  · rfl
  · split <;> rfl

/-! ### The traffic path (R12, R13, R42, R70, R89, R90) -/

@[simp] theorem routeUplink_ur (e : UserEntry) : (routeUplink e s).ur = s.ur := by
  unfold routeUplink
  split
  · split <;> simp
  · simp

@[simp] theorem routeDownlink_ur (e : UserEntry) (m : Multiplier) : (routeDownlink e m s).ur = s.ur := by
  simp only [routeDownlink]
  split
  · split <;> simp
  · simp

/-! ### UR's own steps and settings write other fields than the awaiting list (R105, R108, R110, R111, R116, R175) -/

@[simp] theorem usageFrameBuild_awaiting : (usageFrameBuild s).ur.awaiting = s.ur.awaiting := by
  unfold usageFrameBuild
  split
  · dsimp only; split <;> simp
  · rfl

@[simp] theorem placeSummary_awaiting (p : Num32) : (placeSummary p s).ur.awaiting = s.ur.awaiting := by
  rw [placeSummary_eq]; simp [summarized]

@[simp] theorem periodSummary_awaiting : (periodSummary s).ur.awaiting = s.ur.awaiting := by
  unfold periodSummary
  split
  · split <;> simp
  · rfl

@[simp] theorem resumeSweep_awaiting : (resumeSweep s).ur.awaiting = s.ur.awaiting := by
  unfold resumeSweep; split <;> rfl

@[simp] theorem closePeriod_awaiting : (closePeriod s).2.ur.awaiting = s.ur.awaiting := by
  unfold closePeriod; split <;> rfl

@[simp] theorem configure_awaiting (a : ConfigureArgs) : (configure a s).2.ur.awaiting = s.ur.awaiting := by
  simp only [configure]
  split
  · rfl
  · split <;> rfl

@[simp] theorem resetWarm_awaiting : (resetWarm s).2.ur.awaiting = s.ur.awaiting := by
  unfold resetWarm
  dsimp only
  rw [warmReset_ur]; rfl

@[simp] theorem reset_awaiting (p : Port) (kind : Byte) : (reset p kind s).2.ur.awaiting = s.ur.awaiting := by
  unfold reset
  split
  · rfl
  · exact resetWarm_awaiting s
  · rfl

end Sys2Proof.Machine
end

section
/-! The awaiting list stays exact (R39, R97): what the invariant asks of one record, and that writing a record,
joining the list and leaving it keep it. -/

namespace Sys2Proof.Machine

/-! ### The invariant, record by record -/

/-- What R39 and R97 ask of a record by itself: a FREE one has no awaiting interval, a CLOSING one has one and no
open interval. -/
structure Context.Settled (c : Context) : Prop where
  free : c.state = .free → c.awaiting = none
  closing : c.state = .closing → c.awaiting.isSome = true ∧ c.openIv = none

theorem Context.Settled.of_freeAt (n : Num16) : (Context.freeAt n).Settled := ⟨fun _ => rfl, nofun⟩

/-- An ACTIVE or SUSPENDED record is settled whatever its intervals. -/
theorem Context.Settled.of_open {c : Context} (held : c.state ≠ .free) (open_ : c.state ≠ .closing) : c.Settled :=
  ⟨fun free => absurd free held, fun closing => absurd closing open_⟩

theorem Context.Settled.dropOpen {c : Context} (h : c.Settled) : { c with openIv := none }.Settled :=
  ⟨h.free, fun closing => ⟨(h.closing closing).1, rfl⟩⟩

variable {s t : State} {i : CtxIx} {c : Context}

theorem awaitingExact_iff : AwaitingExact s ↔ s.ur.awaiting.Nodup
    ∧ (∀ i, i ∈ s.ur.awaiting ↔ (s.ctx i).awaiting.isSome = true) ∧ ∀ i, (s.ctx i).Settled :=
  ⟨fun ⟨nodup, mem, free, closing⟩ => ⟨nodup, mem, fun i => ⟨free i, closing i⟩⟩,
    fun ⟨nodup, mem, settled⟩ => ⟨nodup, mem, fun i => (settled i).free, fun i => (settled i).closing⟩⟩

theorem AwaitingExact.nodup (h : AwaitingExact s) : s.ur.awaiting.Nodup := h.1

theorem AwaitingExact.mem_iff (h : AwaitingExact s) (i : CtxIx) :
    i ∈ s.ur.awaiting ↔ (s.ctx i).awaiting.isSome = true := h.2.1 i

theorem AwaitingExact.settled (h : AwaitingExact s) (i : CtxIx) : (s.ctx i).Settled := (awaitingExact_iff.mp h).2.2 i

/-- A change of anything but the context records and the awaiting list keeps it exact. -/
theorem AwaitingExact.same (h : AwaitingExact s) (contexts : t.contexts = s.contexts)
    (list : t.ur.awaiting = s.ur.awaiting) : AwaitingExact t := by
  simp only [AwaitingExact, ctx_of_contexts contexts, list]
  exact h

/-! ### Writing a record, joining the list, leaving it (R97, R101, R102) -/

/-- A settled record is written with the awaiting slot it had. -/
theorem AwaitingExact.after_setCtx (h : AwaitingExact s) (slot : c.awaiting = (s.ctx i).awaiting)
    (settled : c.Settled) : AwaitingExact (s.setCtx i c) := by
  refine awaitingExact_iff.mpr ⟨h.nodup, fun j => ?_, fun j => ?_⟩
  · rw [State.setCtx_ur, h.mem_iff, State.setCtx_ctx]
    split
    · next same => rw [slot, same]
    · rfl
  · rw [State.setCtx_ctx]
    split
    · exact settled
    · exact h.settled j

/-- A record is written whose state and intervals are as they were. -/
theorem AwaitingExact.after_mark (h : AwaitingExact s) (state : c.state = (s.ctx i).state)
    (slot : c.awaiting = (s.ctx i).awaiting) (opened : c.openIv = (s.ctx i).openIv) :
    AwaitingExact (s.setCtx i c) :=
  h.after_setCtx slot ⟨fun free => slot.trans ((h.settled i).free (state ▸ free)),
    fun closing => by rw [slot, opened]; exact (h.settled i).closing (state ▸ closing)⟩

theorem AwaitingExact.after_dropOpen (h : AwaitingExact s) : AwaitingExact (dropOpen i s) :=
  h.after_setCtx rfl (h.settled i).dropOpen

theorem AwaitingExact.after_urqEnter (h : AwaitingExact s) {r : Record} : AwaitingExact (urqEnter r s) :=
  h.same rfl (urqEnter_ur_awaiting s r)

/-- A context whose slot was empty takes an awaiting interval and joins the tail of the list (R101). -/
theorem AwaitingExact.after_join (h : AwaitingExact s) (empty : (s.ctx i).awaiting = none)
    (filled : c.awaiting.isSome = true) (settled : c.Settled) :
    AwaitingExact { s.setCtx i c with ur := { s.ur with awaiting := s.ur.awaiting ++ [i] } } := by
  have outside : i ∉ s.ur.awaiting := by simp [h.mem_iff, empty]
  refine awaitingExact_iff.mpr ⟨?_, fun j => ?_, fun j => ?_⟩
  · exact h.nodup.append (List.nodup_singleton i) (by simpa using outside)
  · change j ∈ s.ur.awaiting ++ [i] ↔ ((s.setCtx i c).ctx j).awaiting.isSome = true
    rw [List.mem_append, List.mem_singleton, State.setCtx_ctx, h.mem_iff]
    split
    · next same => simp [same, filled]
    · next other => simp [Ne.symm other]
  · change ((s.setCtx i c).ctx j).Settled
    rw [State.setCtx_ctx]
    split
    · exact settled
    · exact h.settled j

/-- The context at the head of the list leaves it with its slot empty (R102). -/
theorem AwaitingExact.after_leave (h : AwaitingExact s) {rest : List CtxIx} (list : s.ur.awaiting = i :: rest)
    (empty : c.awaiting = none) (settled : c.Settled) : AwaitingExact ((s.setAwaiting rest).setCtx i c) := by
  obtain ⟨outside, nodup⟩ := List.nodup_cons.mp (list ▸ h.nodup)
  refine awaitingExact_iff.mpr ⟨nodup, fun j => ?_, fun j => ?_⟩
  · change j ∈ rest ↔ _
    rw [State.setCtx_ctx]
    split
    · next same => subst same; simp [outside, empty]
    · next other => rw [setAwaiting_ctx, ← h.mem_iff, list, List.mem_cons, or_iff_right (Ne.symm other)]
  · rw [State.setCtx_ctx]
    split
    · exact settled
    · exact h.settled j

/-! ### The closing rule and the draining of the list (R101, R102, R104) -/

/-- A record goes to the awaiting slot of a context that is not FREE; a CLOSING one has no open interval. -/
theorem AwaitingExact.after_toAwaiting (h : AwaitingExact s) (held : (s.ctx i).state ≠ .free)
    (empty : (s.ctx i).awaiting = none) {r : Record} : AwaitingExact (toAwaiting i r s) :=
  h.after_join empty rfl
    ⟨fun free => absurd free held, fun closing => ⟨rfl, ((h.settled i).closing closing).2⟩⟩

theorem AwaitingExact.after_closeInterval (h : AwaitingExact s) (held : (s.ctx i).state ≠ .free) {iv : Interval}
    (closed : closeInterval i iv s = some t) : AwaitingExact t := by
  have record : (dropOpen i s).ctx i = { s.ctx i with openIv := none } := by simp [dropOpen]
  rcases closeInterval_cases s i iv with ⟨-, -, e⟩ | ⟨-, empty, e⟩ | ⟨-, -, e⟩ <;> rw [e] at closed <;> cases closed
  · exact h.after_dropOpen.after_urqEnter
  · exact h.after_dropOpen.after_toAwaiting (by rw [record]; exact held) (by rw [record]; exact empty)

/-- The head of the list enters the URQ: its slot becomes empty, and a CLOSING context FREE (R102). -/
theorem AwaitingExact.after_drainAwaitingHead (h : AwaitingExact s) : AwaitingExact (drainAwaitingHead s) := by
  cases list : s.ur.awaiting with
  | nil => simpa only [drainAwaitingHead, list] using h
  | cons i rest =>
    obtain ⟨r, awaits⟩ := Option.isSome_iff_exists.mp ((h.mem_iff i).mp (by simp [list]))
    have filled : ((s.setAwaiting rest).ctx i).awaiting = some r := awaits
    have held : (s.ctx i).state ≠ .free := fun free => by
      have := (h.settled i).free free
      rw [awaits] at this; cases this
    rw [drainAwaitingHead_eq s i rest list, enterAwaiting_some filled]
    refine AwaitingExact.after_urqEnter ?_
    split
    · exact h.after_leave list rfl (.of_freeAt _)
    · next open_ => exact h.after_leave list rfl (.of_open held open_)

theorem AwaitingExact.after_drainAwaiting (h : AwaitingExact s) {n : Nat} : AwaitingExact (drainAwaiting n s) := by
  induction n generalizing s with
  | zero => exact h
  | succ n ih =>
    rw [drainAwaiting]
    split
    · exact h
    · exact ih h.after_drainAwaitingHead

theorem AwaitingExact.after_giveOut (h : AwaitingExact s) {k : Nat} : AwaitingExact (giveOut k s) := by
  unfold giveOut
  split
  · exact (h.same (placeSummary_contexts _ _) (placeSummary_awaiting _ _)).after_drainAwaiting
  · exact h.after_drainAwaiting

theorem AwaitingExact.after_usageCompleted (h : AwaitingExact s) : AwaitingExact (usageCompleted s) := by
  unfold usageCompleted
  split
  · exact h
  · next k _ =>
    have left : AwaitingExact { s with ur := { s.ur with urq := s.ur.urq.drop k, outstanding := none } } :=
      h.same rfl rfl
    exact (left.after_giveOut (k := k)).same (resumeSweep_contexts _) (resumeSweep_awaiting _)

/-- A visit closes an open interval into the URQ, or changes neither records nor list (R109). -/
theorem AwaitingExact.after_visit (h : AwaitingExact s) : AwaitingExact (visit s) := by
  unfold visit
  split
  · exact h.same rfl rfl
  · split
    · exact h.same rfl rfl
    · split
      · exact h.after_dropOpen.after_urqEnter.same rfl rfl
      · exact h.same rfl rfl

theorem AwaitingExact.after_sweepVisit (h : AwaitingExact s) : AwaitingExact (sweepVisit s) := by
  have resumed : AwaitingExact (resumeSweep s) := h.same (resumeSweep_contexts s) (resumeSweep_awaiting s)
  simp only [sweepVisit]
  split
  · exact resumed.after_visit
  · exact resumed

end Sys2Proof.Machine
end

section
/-! Metering, traffic and requests keep the awaiting list exact (R8 to R18, R29 to R41, R68 to R70, R80 to R94). -/

namespace Sys2Proof.Machine

variable {s t : State} {i : CtxIx}

/-! ### Metering (R70, R80 to R92) -/

theorem AwaitingExact.after_raise (h : AwaitingExact s) {k : EventKind} {d : Option Detail} :
    AwaitingExact (raise k d s) := h.same (raise_contexts s k d) (by simp)

theorem AwaitingExact.after_sendBearerNotice (h : AwaitingExact s) {c : Context} {n : BearerNotice} :
    AwaitingExact (sendBearerNotice i c n s) := h.same (sendBearerNotice_contexts s i c n) (by simp)

theorem AwaitingExact.after_barringFailure (h : AwaitingExact s) : AwaitingExact (barringFailure i s) := by
  rcases barringFailure_cases s i with ⟨-, e⟩ | ⟨-, e⟩ <;> rw [e]
  · exact h
  · have marked : AwaitingExact (s.setCtx i { s.ctx i with notifiedGen := s.zu.gen }) := h.after_mark rfl rfl rfl
    exact marked.after_sendBearerNotice

theorem AwaitingExact.after_exhaust (h : AwaitingExact s) : AwaitingExact (exhaust i s) := by
  have marked : AwaitingExact (s.setCtx i { s.ctx i with exhausted := true }) := h.after_mark rfl rfl rfl
  exact marked.after_raise.after_sendBearerNotice

theorem AwaitingExact.after_lowTest (h : AwaitingExact s) : AwaitingExact (lowTest i s) := by
  simp only [lowTest]
  split
  · have marked : AwaitingExact (s.setCtx i { s.ctx i with low := true }) := h.after_mark rfl rfl rfl
    exact marked.after_raise.after_sendBearerNotice
  · exact h

theorem AwaitingExact.after_testsAfter (h : AwaitingExact s) : AwaitingExact (testsAfter i s) := by
  have tested : AwaitingExact (exhaustedTest i s) := by
    unfold exhaustedTest
    split
    · exact h.after_exhaust
    · exact h
  unfold testsAfter
  split
  · exact tested.after_lowTest
  · exact h

/-- A frame is accumulated into an open interval, and opens none (R92). -/
theorem AwaitingExact.after_accumulate (h : AwaitingExact s) {d : Dir} {b : Nat} {ch : Charge} :
    AwaitingExact (accumulate i d b ch s) := by
  refine h.after_setCtx rfl ⟨(h.settled i).free, fun closing => ?_⟩
  obtain ⟨filled, unopened⟩ := (h.settled i).closing closing
  exact ⟨filled, by simp [unopened]⟩

theorem AwaitingExact.after_applyCharge (h : AwaitingExact s) {d : Dir} {b : Nat} {ch : Charge} :
    AwaitingExact (applyCharge i d b ch s) := by
  have applied : AwaitingExact (s.setCtx i ((s.ctx i).apply ch)) := h.after_mark rfl rfl rfl
  exact applied.after_testsAfter.after_accumulate

/-- An interval is opened for an ACTIVE context alone (R81, R98). -/
theorem AwaitingExact.after_openInterval (h : AwaitingExact s) (active : (s.ctx i).state = .active) :
    AwaitingExact (openInterval i s) :=
  h.after_setCtx rfl (.of_open (by simp [active]) (by simp [active]))

theorem AwaitingExact.after_keyStep (h : AwaitingExact s) (active : (s.ctx i).state = .active)
    (key : keyStep i s = some t) : AwaitingExact t := by
  unfold keyStep at key
  split at key
  · cases key; exact h.after_openInterval active
  · split at key
    · cases key; exact h
    · split at key
      · cases key
      · next u closed =>
        cases key
        obtain ⟨r, record⟩ := closeInterval_ctx closed
        have closed := h.after_closeInterval (by simp [active]) closed
        exact closed.after_openInterval (by rw [record]; exact active)

theorem AwaitingExact.after_meterBearer (h : AwaitingExact s) {u : UserEntry} {d : Dir} {m : Multiplier}
    (active : (s.ctx u.ctx).state = .active) : AwaitingExact (meterBearer u d m s).2 := by
  unfold meterBearer
  split
  · exact h.after_raise
  · next t key =>
    have keyed := h.after_keyStep active key
    dsimp only
    split
    · exact keyed.after_exhaust
    · exact keyed.after_applyCharge

theorem AwaitingExact.after_meter (h : AwaitingExact s) {u : UserEntry} {d : Dir} {m : Multiplier} :
    AwaitingExact (meter u d m s).2 := by
  unfold meter
  split
  · exact h.after_barringFailure
  · exact h
  · next passed =>
    split
    · exact h
    · next kind => exact h.after_meterBearer (active_of_meterCheck kind (.inl passed))

/-! ### The traffic path (R8 to R18, R41, R68) -/

theorem AwaitingExact.after_carry (h : AwaitingExact s) {src : Source} {f : BearerFrame} :
    AwaitingExact (carry src i f s) := by
  cases src with
  | uplink r =>
    have followed : AwaitingExact (followRu i r s) := h.after_mark rfl rfl rfl
    exact followed.same (routeUplink_contexts _ _) (by simp [carry])
  | downlink m => exact h.same (routeDownlink_contexts _ _ _) (by simp [carry])

theorem AwaitingExact.after_admitFrame (h : AwaitingExact s) {src : Source} {f : BearerFrame} :
    AwaitingExact (admitFrame src f s) := by
  unfold admitFrame
  split
  · exact h.same rfl rfl
  · split
    · exact (h.same (by rfl) (by rfl)).after_barringFailure
    · exact h.same rfl rfl
    · unfold signalFailure
      split
      · split
        · exact h.after_carry.after_barringFailure
        · exact h.after_carry
      · exact h.after_carry

theorem AwaitingExact.after_bearerIn (h : AwaitingExact s) {port : Fin 4} {src : Addr} {f : BearerFrame} :
    AwaitingExact (bearerIn port src f s) := by
  unfold bearerIn
  split
  · exact h.same rfl rfl
  · split
    · exact h.same rfl rfl
    · exact h.after_admitFrame

theorem AwaitingExact.after_linkFrameIn (h : AwaitingExact s) {port : Fin 4} {a : Num16} {f : BearerFrame} :
    AwaitingExact (linkFrameIn port a f s) := by
  unfold linkFrameIn
  split
  · exact h.same rfl rfl
  · split
    · exact h.same rfl rfl
    · exact h.after_admitFrame

theorem AwaitingExact.after_offerSelected (h : AwaitingExact s) {p : Port} {b : EntryBody} :
    AwaitingExact (offerSelected p b s) := by
  unfold offerSelected
  split
  · exact h.same rfl rfl
  · next u k =>
    have metered := h.after_meter (u := u) (d := .uplink) (m := transmissionMultiplier s (.up u k))
    split <;> next outcome => rw [outcome] at metered; exact metered.same rfl rfl
  · next u m dst =>
    have metered := h.after_meter (u := u) (d := .downlink) (m := transmissionMultiplier s (.down u m dst))
    split <;> next outcome => rw [outcome] at metered; exact metered.same rfl rfl

theorem AwaitingExact.after_entrySelection (h : AwaitingExact s) {p : Port} :
    AwaitingExact (entrySelection p s) := by
  unfold entrySelection
  split
  · split
    · exact (h.same (by rfl) (by rfl)).after_offerSelected
    · exact h
  · exact h

theorem AwaitingExact.after_transmissionCompletion (h : AwaitingExact s) {p : Port} :
    AwaitingExact (transmissionCompletion p s) := by
  unfold transmissionCompletion
  split
  · exact h
  · unfold reportCompletion
    split
    · exact (h.same (by rfl) (by rfl)).after_usageCompleted
    · exact h.same rfl rfl
    · exact h.same rfl rfl
    · exact h.same rfl rfl

/-! ### Requests that change context records (R29 to R38, R93) -/

/-- A request that names a context keeps the list exact when its own rule does on a held one (R29). -/
theorem AwaitingExact.after_named (h : AwaitingExact s) {n : CtxName} {f : CtxIx → Context → State → Reply × State}
    (rule : ∀ i, (s.ctx i).state ≠ .free → AwaitingExact (f i (s.ctx i) s).2) : AwaitingExact (named n f s).2 := by
  rcases named_cases s n f with ⟨-, e⟩ | ⟨i, -, ⟨-, e⟩ | ⟨⟨-, held, -⟩, e⟩⟩ <;> rw [e]
  · exact h
  · exact h
  · exact rule i held

/-- A FREE context, which has no awaiting interval, becomes ACTIVE without one (R31). -/
theorem AwaitingExact.after_createContext (h : AwaitingExact s) {a : CreateArgs} :
    AwaitingExact (createContext a s).2 := by
  unfold createContext
  split
  · exact h
  split
  · exact h
  split
  · exact h
  split
  · exact h
  split
  · exact h
  split
  · exact h
  · next i found =>
    obtain ⟨free, -⟩ := (lowestFree_eq_some s i).mp found
    exact h.after_setCtx ((h.settled i).free free).symm (.of_open nofun nofun)

theorem AwaitingExact.after_modifyContext (h : AwaitingExact s) {n : CtxName} {a : ModifyArgs} :
    AwaitingExact (modifyContext n a s).2 := by
  refine h.after_named fun i held => ?_
  simp only [modifyNamed]
  split
  · exact h
  split
  · exact h
  split
  · exact h
  split
  · exact h
  split
  · exact h.after_raise
  · next t closed =>
    have kept : AwaitingExact t := by
      unfold closeForPlan at closed
      split at closed
      · cases closed; exact h
      · exact h.after_closeInterval held closed
    exact kept.after_mark rfl rfl rfl

theorem AwaitingExact.after_suspendContext (h : AwaitingExact s) {n : CtxName} :
    AwaitingExact (suspendContext n s).2 := by
  refine h.after_named fun i _ => ?_
  simp only [suspendNamed]
  split
  · exact h
  · have written : AwaitingExact (s.setCtx i { s.ctx i with state := .suspended }) :=
      h.after_setCtx rfl (.of_open nofun nofun)
    exact written.after_sendBearerNotice

theorem AwaitingExact.after_resumeContext (h : AwaitingExact s) {n : CtxName} :
    AwaitingExact (resumeContext n s).2 := by
  refine h.after_named fun i _ => ?_
  simp only [resumeNamed]
  split
  · exact h
  · have written : AwaitingExact (s.setCtx i { s.ctx i with state := .active }) :=
      h.after_setCtx rfl (.of_open nofun nofun)
    exact written.after_sendBearerNotice

theorem AwaitingExact.after_topUp (h : AwaitingExact s) {n : CtxName} {m : BitVec 64} {l : BitVec 32} :
    AwaitingExact (topUp n m l s).2 := by
  refine h.after_named fun i _ => ?_
  simp only [topUpNamed]
  split
  · exact h
  split
  · exact h
  split
  · exact h
  split
  · exact h
  split
  · exact h
  split
  · exact h
  · exact h.after_mark rfl rfl rfl

/-- The FINAL record enters the URQ and the context becomes FREE, or it takes the empty slot of a context that
becomes CLOSING and joins the list (R38, R39). -/
theorem AwaitingExact.after_placeFinal (h : AwaitingExact s) (slot : (s.ctx i).awaiting = none) :
    AwaitingExact (placeFinal i s) := by
  by_cases room : s.ur.urq.length < 256 ∧ s.ur.awaiting = []
  · rw [placeFinal_urq room.1 room.2]
    exact AwaitingExact.after_urqEnter (h.after_setCtx slot.symm (.of_freeAt _))
  · have full : 256 ≤ s.ur.urq.length ∨ s.ur.awaiting ≠ [] := (not_and_or.mp room).imp_left not_lt.mp
    rw [placeFinal_slot full slot]
    exact h.after_join slot rfl ⟨nofun, fun _ => ⟨rfl, rfl⟩⟩

theorem AwaitingExact.after_releaseContext (h : AwaitingExact s) {n : CtxName} :
    AwaitingExact (releaseContext n s).2 := by
  refine h.after_named fun i _ => ?_
  simp only [releaseNamed]
  split
  · exact h
  split
  · exact h.after_raise
  · next slot => exact (h.after_placeFinal (by simpa using slot)).after_sendBearerNotice

/-- Every command that a code can name keeps the list exact. -/
theorem AwaitingExact.after_bodyOf (h : AwaitingExact s) {p : Port} {xs : List Item} {cmd : Command} :
    AwaitingExact (bodyOf p xs cmd s).2 := by
  cases cmd with
  | createContext => exact h.after_createContext
  | modifyContext => exact h.after_modifyContext
  | suspendContext => exact h.after_suspendContext
  | resumeContext => exact h.after_resumeContext
  | topUp => exact h.after_topUp
  | releaseContext => exact h.after_releaseContext
  | readStatus | readEvents | readCounters => exact h.same rfl rfl
  | _ => exact h.same (by simp [bodyOf]) (by simp [bodyOf])

end Sys2Proof.Machine
end

section
/-! Every command and step keeps the awaiting list exact (R39, R97). -/

namespace Sys2Proof.Machine

variable {s t : State}

/-! ### A request or frame that arrives (R1, R5, R173) -/

theorem AwaitingExact.after_arrive (h : AwaitingExact s) {p : Port} {f : State → State}
    (taken : ∀ t, AwaitingExact t → AwaitingExact (f t)) : AwaitingExact (arrive p f s) := by
  by_cases receives : Receives s p
  · rw [arrive_of_receives s f receives]
    exact taken _ (h.same rfl rfl)
  · rw [arrive_of_not_receives s f receives]; exact h

theorem AwaitingExact.after_respond (h : AwaitingExact s) {rq : Request} {code : Byte} {r : Reply} :
    AwaitingExact (respond rq code r s) := h.same (respond_contexts s rq code r) (by simp)

theorem AwaitingExact.after_handle (h : AwaitingExact s) {rq : Request} {cmd : Command}
    {body : State → Reply × State} (rule : AwaitingExact (body s).2) : AwaitingExact (handle rq cmd body s) := by
  simp only [handle]
  split
  · exact h.after_respond
  split
  · exact h.after_respond
  split
  · exact h.after_respond
  · exact rule.after_respond

theorem AwaitingExact.after_ask (h : AwaitingExact s) {rq : Request} {cmd : Command} {body : State → Reply × State}
    (rule : ∀ t, AwaitingExact t → AwaitingExact (body t).2) : AwaitingExact (ask rq cmd body s) := by
  refine h.after_arrive fun t h => ?_
  unfold admitRequest
  split
  · exact h.same rfl rfl
  · exact h.after_handle (rule t h)

/-- A request whose rule changes neither records nor list. -/
theorem AwaitingExact.after_ask_frame (h : AwaitingExact s) {rq : Request} {cmd : Command}
    {body : State → Reply × State} (contexts : ∀ t, (body t).2.contexts = t.contexts)
    (list : ∀ t, (body t).2.ur.awaiting = t.ur.awaiting) : AwaitingExact (ask rq cmd body s) :=
  h.after_ask fun t h => h.same (contexts t) (list t)

theorem AwaitingExact.after_admitted (h : AwaitingExact s) {rq : Request} {code : Byte} {xs : List Item} :
    AwaitingExact (admitRequest rq (meRequest rq code xs) s) := by
  unfold admitRequest
  split
  · exact h.same rfl rfl
  · unfold meRequest
    split
    · exact h.after_respond
    · exact h.after_handle h.after_bodyOf

theorem AwaitingExact.after_takeIn (h : AwaitingExact s) {p : Port} {bs : List Byte} :
    AwaitingExact (takeIn p bs s) := by
  unfold takeIn
  split
  · exact h.same rfl rfl
  · unfold passOn
    split
    · exact h.after_bearerIn
    · exact h.same (radioStatusIn_contexts s _ _ _) (by simp)
    · exact h.after_linkFrameIn
    · exact h.same (echoIn_contexts s _ _ _) (by simp)
    · exact h.after_admitted
    · exact h.same rfl rfl

theorem AwaitingExact.after_unlessHeld (h : AwaitingExact s) {f : State → State} (step : AwaitingExact (f s)) :
    AwaitingExact (unlessHeld f s) := by
  unfold unlessHeld
  split
  · exact h
  · exact step

/-! ### Every command -/

/-- A cold part has FREE contexts and no awaiting list (R115, R183). -/
theorem awaitingExact_coldState (b : Bool) (s : State) : AwaitingExact (coldState b s) := by
  have clear (i : CtxIx) : (coldState b s).ctx i = Context.freeAt 0 := by
    simp [State.ctx, coldState, State.reset]
  refine awaitingExact_iff.mpr ⟨List.nodup_nil, fun i => ?_, fun i => ?_⟩
  · rw [clear]; exact iff_of_false List.not_mem_nil (by simp [Context.freeAt])
  · rw [clear]; exact .of_freeAt 0

theorem AwaitingExact.after_coldReset (h : AwaitingExact s) {c : ColdCause} : AwaitingExact (coldReset c s) := by
  unfold coldReset
  split
  · exact awaitingExact_coldState _ s
  · split
    · exact awaitingExact_coldState _ s
    · exact h
  · split
    · exact awaitingExact_coldState _ s
    · exact h

theorem AwaitingExact.after_exec (h : AwaitingExact s) {i : Instr} (e : exec i s = .next t) : AwaitingExact t := by
  cases i with
  | badFrame => cases e; exact h.after_arrive fun _ h => h.after_takeIn
  | bearerUplinkIntake => cases e; exact h.after_arrive fun _ h => h.after_bearerIn
  | linkFrameIntake => cases e; exact h.after_arrive fun _ h => h.after_linkFrameIn
  | echo | radioStatus => cases e; exact h.after_arrive fun _ h => h.same (by simp) (by simp)
  | badCommand => cases e; exact h.after_arrive fun _ h => h.after_admitted
  | createContext => cases e; exact h.after_ask fun _ h => h.after_createContext
  | modifyContext => cases e; exact h.after_ask fun _ h => h.after_modifyContext
  | suspendContext => cases e; exact h.after_ask fun _ h => h.after_suspendContext
  | resumeContext => cases e; exact h.after_ask fun _ h => h.after_resumeContext
  | topUp => cases e; exact h.after_ask fun _ h => h.after_topUp
  | releaseContext => cases e; exact h.after_ask fun _ h => h.after_releaseContext
  | readStatus | readEvents | readCounters | resetCold =>
    cases e; exact h.after_ask_frame (fun _ => rfl) fun _ => rfl
  | readContext | findContext | readZone | readLink | readRadioUnit | closePeriod | positionReport | writeZone
  | reloadZone | armWaypoint | disarmWaypoint | writeLink | stageLink | cancelStage | setFailoverOrder
  | writeRadioUnit | setFloor | openAttach | configure | clearEvents =>
    cases e; exact h.after_ask_frame (by simp) (by simp)
  | resetWarm => cases e; exact h.after_ask_frame (body := resetWarm) resetWarm_contexts resetWarm_awaiting
  | coldReset => cases e; exact h.after_coldReset
  | entrySelection => cases e; exact h.after_unlessHeld h.after_entrySelection
  | transmissionCompletion => cases e; exact h.after_unlessHeld h.after_transmissionCompletion
  | sweepVisit => cases e; exact h.after_unlessHeld h.after_sweepVisit
  | epochBoundary | staleDeadline | lostDeadline | probeTime | graceExpiry | heartbeatTime | livenessDeadline
  | usageFrameBuild | holdDrainMove | periodSummary | endMarker =>
    cases e; exact h.after_unlessHeld (h.same (by simp) (by simp))
  | shoreCarrierDown | cellCarrierChange => cases e; exact h.same (by simp) (by simp)
  | shoreCarrierUp | resetInputAsserted => cases e; exact h.same rfl rfl

theorem AwaitingExact.after_idle (h : AwaitingExact s) : AwaitingExact (idle s) := by
  unfold idle
  split
  · exact h
  · split <;> exact h.same rfl rfl

/-- Settles O6: every command keeps the list exact (`AwaitingExact.after_exec`), and an idle step changes neither
records nor list. Its clause on FREE records makes the premise on bearers unneeded. -/
theorem stepKeepsAwaitingExact : Obligations.StepKeepsAwaitingExact := by
  intro s t _ awaits e
  unfold step at e
  split at e
  · cases e; exact awaits.after_idle
  · next i is _ =>
    have waiting : AwaitingExact (s.withPending is) := awaits.same rfl rfl
    exact waiting.after_exec e

end Sys2Proof.Machine
end

section
/-! Usage frames, the URQ and the period summary (R103, R105, R111, R112). -/

namespace Sys2Proof.Machine

variable {s : State}

/-- A step of the part's own, taken while the reset input is not held. -/
theorem unlessHeld_next {f : State → State} {t : State} (free : s.resetHeld = false) (e : f s = t) :
    (.next (unlessHeld f s) : Host.Outcome State Fault Refusal) = .next t := by
  rw [unlessHeld_of_free s f free, e]

/-! ### Usage frames (R105) -/

/-- A usage frame that is due takes the records at the head of the URQ (R105). -/
theorem usageFrameBuild_of_due {p : Port} {a : Addr} (collector : s.ur.collector = some (p, a))
    (none : s.ur.outstanding = none) (nonempty : s.ur.urq ≠ []) (carrier : (s.port p).carrier = true)
    (room : (s.port p).queue.length < 512) :
    usageFrameBuild s = place p (.control { dst := a, body := .usage (s.ur.urq.take 16) })
      { s with ur := { s.ur with outstanding := some (min 16 s.ur.urq.length) } } := by
  have due : (!(s.ur.urq.take 16).isEmpty && (s.port p).carrier && s.hasRoom p) = true := by
    simp [nonempty, carrier, (s.hasRoom_iff p).mpr room]
  simp only [usageFrameBuild, collector, none, due, if_true, List.length_take]
  exact offerControl_room _ p _ room

/-- A usage frame that is not due is not built (R105, log entry 1). -/
theorem usageFrameBuild_of_not_due (h : ¬ Due s .usageFrameBuild) : usageFrameBuild s = s := by
  unfold usageFrameBuild
  split
  · next p a collector none =>
    refine if_neg fun due => h ?_
    simp only [Bool.and_eq_true, Bool.not_eq_true', List.isEmpty_eq_false_iff, State.hasRoom_iff] at due
    obtain ⟨⟨nonempty, carrier⟩, room⟩ := due
    exact ⟨none, fun empty => nonempty (by simp [empty]), p, a, collector, carrier, room⟩
  · rfl

/-- Settles O56: the frame that is due, and each condition of R105 that fails. -/
theorem usageFrameTakesHeadRecords : Obligations.UsageFrameTakesHeadRecords := by
  intro s free
  refine ⟨fun p a collector => ⟨fun none nonempty carrier room => ?_, fun fails => ?_⟩, fun unset => ?_⟩
  · exact unlessHeld_next free (usageFrameBuild_of_due collector none nonempty carrier room)
  · refine unlessHeld_next free (usageFrameBuild_of_not_due ?_)
    rintro ⟨none, nonempty, q, b, set, carrier, room⟩
    obtain ⟨rfl, -⟩ : p = q ∧ a = b := by simpa [collector] using set
    rcases fails with out | empty | down | full
    · exact out none
    · exact nonempty empty
    · simp [down] at carrier
    · omega
  · refine unlessHeld_next free (usageFrameBuild_of_not_due ?_)
    rintro ⟨-, -, q, b, set, -⟩
    simp [unset] at set

/-! ### Entering the URQ (R103, R112) -/

theorem countUp_of_lt {n : Num32} (h : n.toNat + 1 < 2 ^ 32) : countUp n = n + 1 := if_pos h

theorem add64_of_lt {a b : BitVec 64} (h : a.toNat + b.toNat < 2 ^ 64) : add64 a b = a + b := if_pos h

/-- One more record is counted and added up exactly while both sums are in their range (R112). -/
theorem Acc.add_of_lt {a : Acc} {charge : Total64} (count : a.count.toNat + 1 < 2 ^ 32)
    (total : a.charge.toNat + charge.toNat < 2 ^ 64) :
    a.add charge = { a with count := a.count + 1, charge := a.charge + charge } := by
  rw [Acc.add, countUp_of_lt count, add64_of_lt total]

theorem urqEnter_of_current {r : Record} (current : s.ur.accCurrent.period = r.period) : urqEnter r s
    = { s with ur := { s.ur with
        accCurrent := s.ur.accCurrent.add r.charge
        urq := s.ur.urq ++ [{ body := r, number := (s.ur.accCurrent.add r.charge).count }] } } := by
  simp [urqEnter, accOf, inCurrent, current]

theorem urqEnter_of_other {r : Record} (other : s.ur.accCurrent.period ≠ r.period) : urqEnter r s
    = { s with ur := { s.ur with
        accOther := s.ur.accOther.add r.charge
        urq := s.ur.urq ++ [{ body := r, number := (s.ur.accOther.add r.charge).count }] } } := by
  simp [urqEnter, accOf, inCurrent, other]

/-! ### The period summary (R111) -/

/-- The summary carries the count as its frames and the charge of the accumulator (R111). -/
theorem summaryRecord_eq (p : Num32) (a : Acc) : summaryRecord p a
    = { kind := .periodSummary, plan := 0, zoneIx := 0, realm := 0, period := p, ctx := 0, incarnation := 0
        bearerId := 0, zoneGen := 0, start := 0, stop := 0, up := 0, down := 0, free := 0
        frames := a.count.setWidth 64, charge := a.charge, balanceAfter := 0, remainder := 0 } := by
  rw [summaryRecord, BitVec.ofNat_toNat]

theorem periodSummary_of_due {p : Num32} (waits : s.ur.sweep = .summaryWait) (closing : s.ur.closing = some p)
    (none : ∀ i r, (s.ctx i).awaiting = some r → r.period ≠ p) (room : s.ur.urq.length < 256) :
    periodSummary s = placeSummary p s := by
  have due := (summaryDue_eq_some s p).mpr ⟨waits, closing, none⟩
  simp only [periodSummary, due, (s.urqRoom_iff).mpr room, if_true]

theorem periodSummary_of_not_due (h : ¬ Due s .periodSummary) : periodSummary s = s := by
  rw [← summaryReady_iff] at h
  unfold periodSummary
  split
  · next p due => exact if_neg fun room => h ⟨by simp [due], room⟩
  · rfl

/-- Settles O33: a record enters by its period's accumulator; the summary that is due is placed, and one that is
not does nothing. -/
theorem urqEntriesAreNumbered : Obligations.UrqEntriesAreNumbered := by
  refine ⟨fun s r => ⟨fun current count total => ?_, fun other count total => ?_⟩,
    fun s p free waits closing => ⟨fun none room count => ?_, fun fails => ?_⟩⟩
  · rw [urqEnter_of_current current, Acc.add_of_lt count total]
  · rw [urqEnter_of_other other, Acc.add_of_lt count total]
  · intro r t
    have placed : t = raise .periodClosed (some (.period p)) { s with ur := summarized p s.ur } := by
      rw [summarized, summaryRecord_eq, countUp_of_lt count]
    refine unlessHeld_next free ((periodSummary_of_due waits closing none room).trans ?_)
    rw [placed]
    exact placeSummary_eq p s
  · refine unlessHeld_next free (periodSummary_of_not_due ?_)
    rintro ⟨-, room, q, closing', none⟩
    obtain rfl : p = q := Option.some.inj (closing.symm.trans closing')
    rcases fails with ⟨i, r, awaits, period⟩ | full
    · exact none i r awaits period
    · omega

end Sys2Proof.Machine
end

section
/-! Billing periods and the sweep (R108 to R110). -/

namespace Sys2Proof.Machine

variable {s : State} {i : CtxIx}

/-! ### Close Period (R108) -/

theorem closePeriod_busy (running : s.ur.sweep ≠ .idle) : closePeriod s = (.refuse .busy, s) := by
  simp [closePeriod, running]

/-- Close Period ends the current period and starts the sweep at index 0 (R108). -/
theorem closePeriod_starts (idle : s.ur.sweep = .idle) : closePeriod s
    = (.ok [item 1 (beBytes 4 s.ur.period.toNat), item 2 (beBytes 4 (s.ur.period + 1).toNat)],
        { s with ur := { s.ur with
            closing := some s.ur.period, period := s.ur.period + 1, accOther := s.ur.accCurrent
            accCurrent := { period := s.ur.period + 1, count := 0, charge := 0 }
            sweep := .visiting, position := 0 } }) := by
  simp [closePeriod, idle, items, itemsFrom]

/-! ### A visit (R109) -/

/-- UR as a visit of index `i` leaves it: at the next index, or past the last in SUMMARY_WAIT (R109). -/
def Ur.visited (ur : Ur) (i : CtxIx) : Ur :=
  { ur with position := i.val + 1, sweep := if i.val = 4095 then .summaryWait else .visiting }

theorem advanceSweep_eq (position : s.ur.position = i.val) : advanceSweep s = { s with ur := s.ur.visited i } := by
  have last : i.val + 1 > 4095 ↔ i.val = 4095 := by omega
  simp only [advanceSweep, Ur.visited, position, last]

theorem closingInterval_eq_none (other : ∀ iv, (s.ctx i).openIv = some iv → some iv.period ≠ s.ur.closing) :
    closingInterval s i = none := by
  unfold closingInterval
  split
  · next iv opened => exact if_neg (by simpa using other iv opened)
  · rfl

theorem closingInterval_eq_some {iv : Interval} (opened : (s.ctx i).openIv = some iv)
    (closing : some iv.period = s.ur.closing) : closingInterval s i = some iv := by
  simp [closingInterval, opened, closing]

section
variable (position : s.ur.position = i.val)
include position

/-- A context without an open interval of the closing period is passed over (R109). -/
theorem visit_passes (other : closingInterval s i = none) : visit s = { s with ur := s.ur.visited i } := by
  simp only [visit, inRange_of_eq i position, other, advanceSweep_eq position]

/-- The open interval of the closing period enters the URQ where it is taken (R100, R109). -/
theorem visit_closes {iv : Interval} (closing : closingInterval s i = some iv) (room : s.ur.urq.length < 256)
    (empty : s.ur.awaiting = []) :
    let t := urqEnter (recordOf .interval i (s.ctx i) iv) (dropOpen i s)
    visit s = { t with ur := t.ur.visited i } := by
  have takes : (s.urqRoom && s.ur.awaiting.isEmpty) = true := by simp [(s.urqRoom_iff).mpr room, empty]
  simp only [visit, inRange_of_eq i position, closing, takes, if_true]
  exact advanceSweep_eq (by rw [urqEnter_ur_position]; exact position)

/-- The sweep pauses at an interval that the URQ does not take (R110). -/
theorem visit_pauses {iv : Interval} (closing : closingInterval s i = some iv)
    (full : 256 ≤ s.ur.urq.length ∨ s.ur.awaiting ≠ []) :
    visit s = { s with ur := { s.ur with sweep := .paused } } := by
  have refuses : ¬ (s.urqRoom && s.ur.awaiting.isEmpty) = true := by
    rw [Bool.and_eq_true, State.urqRoom_iff, List.isEmpty_iff]
    rintro ⟨room, empty⟩
    exact full.elim (fun full => by omega) (absurd empty)
  simp only [visit, inRange_of_eq i position, closing, refuses, Bool.false_eq_true, if_false]

end

/-! ### The sweep step (R109, R110) -/

theorem sweepVisit_visiting (visiting : s.ur.sweep = .visiting) : sweepVisit s = visit s := by
  simp only [sweepVisit, resumeSweep_of_not_paused (show s.ur.sweep ≠ .paused by simp [visiting]), visiting,
    beq_self_eq_true, if_true]

theorem sweepVisit_resumes (paused : s.ur.sweep = .paused) (room : s.ur.urq.length < 256)
    (empty : s.ur.awaiting = []) :
    sweepVisit s = sweepVisit { s with ur := { s.ur with sweep := .visiting } } := by
  rw [sweepVisit_visiting (s := { s with ur := { s.ur with sweep := .visiting } }) rfl, sweepVisit,
    resumeSweep_paused paused room empty]
  rfl

/-- A sweep that is not called for does nothing (R109, R110, log entry 1). -/
theorem sweepVisit_of_not_due (h : ¬ Due s .sweepVisit) : sweepVisit s = s := by
  obtain ⟨running, stays⟩ := not_or.mp h
  have resumed : resumeSweep s = s := by
    by_cases paused : s.ur.sweep = .paused
    · refine resumeSweep_stays ?_
      by_contra takes
      rw [not_or, not_le, not_not] at takes
      exact stays ⟨paused, takes⟩
    · exact resumeSweep_of_not_paused paused
  simp [sweepVisit, resumed, running]

/-- Settles O34: Close Period by the state of the sweep, a visit by what its context holds, and the PAUSED, IDLE and
SUMMARY_WAIT sweep. -/
theorem closePeriodSweepsTheTable : Obligations.ClosePeriodSweepsTheTable := by
  refine ⟨fun s rq passes => ⟨fun running => ?_, fun idle => ?_⟩, fun s i free => ?_⟩
  · exact ask_no passes (closePeriod_busy (s := s.got rq.port) running)
  · exact ask_ok passes (closePeriod_starts (s := s.got rq.port) idle)
  intro on
  refine ⟨fun visiting position => ?_, fun paused => ⟨fun room empty => ?_, fun full => ?_⟩, fun rests => ?_⟩
  · have visits {t : State} (e : visit s = t) : exec .sweepVisit s = .next t :=
      unlessHeld_next free ((sweepVisit_visiting visiting).trans e)
    refine ⟨fun other => visits (visit_passes position (closingInterval_eq_none other)), fun iv opened closing => ?_⟩
    intro c r
    have closes := closingInterval_eq_some opened closing
    refine ⟨fun room empty => visits ?_, fun full => visits (visit_pauses position closes full)⟩
    have record : recordOf .interval i (s.ctx i) iv = r := recordOf_interval i c iv
    rw [← record]
    exact visit_closes position closes room empty
  · have resumes := sweepVisit_resumes paused room empty
    exact (unlessHeld_next free resumes).trans
      (unlessHeld_next (s := { s with ur := { s.ur with sweep := .visiting } }) free rfl).symm
  · refine unlessHeld_next free (sweepVisit_of_not_due ?_)
    rintro (visiting | ⟨-, room, empty⟩)
    · simp [paused] at visiting
    · exact full.elim (fun full => by omega) (absurd empty)
  · refine unlessHeld_next free (sweepVisit_of_not_due ?_)
    rcases rests with rests | rests <;> simp [Due, rests]

end Sys2Proof.Machine
end

section
/-! Echoes (R7, R124, R126, R127). -/

namespace Sys2Proof.Machine

section
variable {s : State} {k : LinkIx} {port : Fin 4} {a number : Num16}

theorem exec_echo {src : Addr} {n : Num32} {t : Time} (receives : Receives s (.shore port)) :
    exec (.echo port src a n number t) s = .next (echoIn port a number (s.got (.shore port))) :=
  congrArg Host.Outcome.next (arrive_of_receives s _ receives)

theorem echoIn_matched (link : matchLink s.links port a = some k) : echoIn port a number s = echoOf k number s := by
  simp only [echoIn, link]

theorem echoIn_unmatched (none : matchLink s.links port a = none) :
    echoIn port a number s = drop .linkUnknown .downlink s := by
  simp only [echoIn, none]

/-- An outcome recorded in a link's record is evaluated on that record (R129). -/
theorem evaluate_setLink (l : Link) (o : ProbeOutcome) :
    evaluate k o (s.setLink k l) = changeHealth k (nextHealth l o) (s.setLink k l) := by
  rw [evaluate, State.setLink_link, if_pos rfl]

theorem echoOf_answers {sent : Time} (answers : (s.link k).outstanding = some (number, sent)) :
    echoOf k number s
      = evaluate k .success (s.setLink k { (s.link k).succeed (elapsed s.now sent) with outstanding := none }) := by
  simp only [echoOf, answers, beq_self_eq_true, if_true]

/-- An echo of any other number, or with no probe outstanding, only counts late (R124). -/
theorem echoOf_late (stray : ∀ sent, (s.link k).outstanding ≠ some (number, sent)) :
    echoOf k number s = s.setLink k { s.link k with lateEchoes := (s.link k).lateEchoes + 1 } := by
  simp only [echoOf]
  split
  · rfl
  · next m sent outstanding =>
    have other : ¬ (m == number) = true := fun same => stray sent (by rw [outstanding, beq_iff_eq.mp same])
    exact if_neg other

end

/-- Settles O18: the echo of the outstanding probe, any other echo of a matched link, and one of no link. -/
theorem echoRecordsSuccessOrCountsLate : Obligations.EchoRecordsSuccessOrCountsLate := by
  intro s port src a n number t sent k receives link l sample l'
  refine ⟨fun answers => ?_, fun stray => ?_, fun b none => ?_⟩
  · rw [exec_echo receives, echoIn_matched (s := s.got _) link, echoOf_answers (s := s.got _) answers,
      evaluate_setLink]
    rfl
  · rw [exec_echo receives, echoIn_matched (s := s.got _) link, echoOf_late (s := s.got _) stray]
    rfl
  · rw [exec_echo receives, echoIn_unmatched (s := s.got _) none]

end Sys2Proof.Machine
end

section
/-! The health machine (R129 to R131). -/

namespace Sys2Proof.Machine

/-! ### What the table compares (R118, R126) -/

section
variable {l : Link}

theorem Link.listLosses_eq :
    l.listLosses = (l.outcomes.filter fun o => o == ProbeOutcome.loss).length :=
  List.countP_eq_length_filter

theorem Link.rttAbove_iff (limit : Nat) : l.rttAbove limit = true ↔ ∃ v, l.s8 = some v ∧ limit < v / 8 := by
  cases h : l.s8 <;> simp [Link.rttAbove, Link.rtt, h]

theorem Link.rttWithin_iff (limit : Nat) : l.rttWithin limit = true ↔ ∃ v, l.s8 = some v ∧ v / 8 ≤ limit := by
  cases h : l.s8 <;> simp [Link.rttWithin, Link.rtt, h]

/-! ### The rows of the table (R129) -/

variable {o : ProbeOutcome}

theorem nextHealth_off (off : l.health = .off) : nextHealth l o = .off := by
  simp only [nextHealth, off]

theorem nextHealth_down (down : l.health = .down) : nextHealth l o = if o = .success then .trial else .down := by
  cases o <;> simp [nextHealth, down]

theorem nextHealth_trial_loss (trial : l.health = .trial) : nextHealth l .loss = .down := by
  simp only [nextHealth, trial]

theorem nextHealth_trial_success (trial : l.health = .trial) :
    nextHealth l .success = if l.cfg.upCount ≤ l.successes then .up else .trial := by
  simp only [nextHealth, trial]

/-- UP and IMPAIRED fall to DOWN at the down count. -/
theorem nextHealth_falls (on : l.health = .up ∨ l.health = .impaired) (fails : l.cfg.downCount ≤ l.losses) :
    nextHealth l o = .down := by
  rcases on with on | on <;> simp [nextHealth, on, fails]

theorem nextHealth_up (up : l.health = .up) (holds : l.losses < l.cfg.downCount) :
    nextHealth l o
      = if l.cfg.impairLoss ≤ l.listLosses ∨ l.rttAbove l.cfg.rttLimit = true then .impaired else .up := by
  simp [nextHealth, up, Nat.not_le.mpr holds]

theorem nextHealth_impaired (impaired : l.health = .impaired) (holds : l.losses < l.cfg.downCount) :
    nextHealth l o
      = if l.listLosses ≤ l.cfg.recoverLoss ∧ l.rttWithin l.cfg.rttRecover = true then .up else .impaired := by
  simp [nextHealth, impaired, Nat.not_le.mpr holds]

end

/-! ### A change of health (R130, R131) -/

/-- Entry to DOWN or TRIAL clears the probe history (R130). -/
theorem Link.enter_eq (l : Link) (h : Health) : l.enter h =
    if h = .down ∨ h = .trial then
      { l with health := h, successes := 0, losses := 0, outcomes := [], s8 := none }
    else { l with health := h } := by
  cases h <;> rfl

/-- A change is a fault when it enters DOWN from any state but OFF (R131). -/
theorem isFault_iff {before after : Health} (changes : after ≠ before) :
    isFault before after = true ↔ after = .down ∧ before ≠ .off := by
  rw [isFault, Bool.and_eq_true, beq_iff_eq]
  refine and_congr_right fun down => ?_
  subst down
  cases before <;> simp at changes ⊢

section
variable {s : State} {k : LinkIx} {h : Health}

theorem changeHealth_same (same : h = (s.link k).health) : changeHealth k h s = s :=
  if_pos (beq_iff_eq.mpr same.symm)

/-- A change that is no fault raises LINK_STATE, and SU handles it (R131). -/
theorem changeHealth_state (changes : h ≠ (s.link k).health) (other : isFault (s.link k).health h = false) :
    changeHealth k h s
      = suLinkChanged k (raise .linkState (some (.linkState k h)) (s.setLink k ((s.link k).enter h))) := by
  simp only [changeHealth, healthEvent, beq_eq_false_iff_ne.mpr changes.symm, other, Bool.false_eq_true, if_false]

end

/-- Settles O42: the rows of the table, then a change that is none, a fault, or another. -/
theorem healthFollowsItsTable : Obligations.HealthFollowsItsTable := by
  refine ⟨fun l o => ?_, fun s k h => ?_⟩
  · intro losses above within
    refine ⟨nextHealth_off, nextHealth_down, fun trial loss => ?_, fun trial success => ?_, nextHealth_falls,
      fun up holds => ?_, fun impaired holds => ?_⟩
    · rw [loss, nextHealth_trial_loss trial]
    · rw [success, nextHealth_trial_success trial]
    · have worse : l.cfg.impairLoss ≤ losses ∨ l.rttAbove l.cfg.rttLimit = true
          ↔ l.cfg.impairLoss ≤ losses ∨ above l.cfg.rttLimit := or_congr_right (Link.rttAbove_iff _)
      rw [nextHealth_up up holds, Link.listLosses_eq]
      exact ⟨fun h => if_pos (worse.mpr h), fun h => if_neg (mt worse.mp h)⟩
    · have better : losses ≤ l.cfg.recoverLoss ∧ l.rttWithin l.cfg.rttRecover = true
          ↔ losses ≤ l.cfg.recoverLoss ∧ within l.cfg.rttRecover := and_congr_right' (Link.rttWithin_iff _)
      rw [nextHealth_impaired impaired holds, Link.listLosses_eq]
      exact ⟨fun h => if_pos (better.mpr h), fun h => if_neg (mt better.mp h)⟩
  · intro l l'
    have entered : l.enter h = l' := Link.enter_eq l h
    refine ⟨changeHealth_same, fun changes down on => ?_, fun changes other => ?_⟩
    · have fault := (isFault_iff changes).mpr ⟨down, on⟩
      rw [← entered]
      subst down
      exact changeHealth_fault fault
    · rw [← entered]
      exact changeHealth_state changes (Bool.eq_false_iff.mpr (mt (isFault_iff changes).mp other))

end Sys2Proof.Machine
end

section
/-! Write Link (R117, R119, R120). -/

namespace Sys2Proof.Machine

/-! ### Values of a list, by code (R186) -/

theorem readLinkKind_iff (b : Byte) (x : LinkKind) : readLinkKind b = some x ↔ b.toNat = x.code := by
  unfold readLinkKind
  rcases h : b.toNat with _ | _ | _ | n <;> cases x <;> simp [LinkKind.code]

theorem LinkKind.code_le (x : LinkKind) : x.code ≤ 2 := by cases x <;> decide

/-- S0 to S3 are coded 4 to 7. -/
theorem readShorePort_iff (b : Byte) (p : Fin 4) : readShorePort b = some p ↔ b.toNat = p.val + 4 := by
  have := p.isLt
  unfold readShorePort readPort
  by_cases cell : b.toNat < 4
  · simp [cell]; omega
  · by_cases shore : b.toNat - 4 < 4
    · simp [cell, shore, Fin.ext_iff]; omega
    · simp [cell, shore]; omega

/-! ### The configuration a Write Link takes (R117, R119) -/

/-- The configuration that the arguments spell once enabled value, port and kind are read, clamped where R117 says. -/
def linkConfigOf (a : LinkArgs) (en : Bool) (port : Fin 4) (kind : LinkKind) : LinkConfig :=
  { enabled := en, port := port, kind := kind, anchorId := a.anchorId, anchorAddr := a.anchorAddr
    multiplier := clampMultiplier a.multiplier.toNat
    upFloor := clampFloor a.upFloor.toNat
    impairedFloor := clampFloor a.impairedFloor.toNat
    probeInterval := clamp 10 10000 a.probeInterval.toNat
    upCount := clamp 1 15 a.upCount.toNat
    downCount := clamp 1 15 a.downCount.toNat
    impairLoss := clamp 1 16 a.impairLoss.toNat
    recoverLoss := a.recoverLoss.toNat
    rttLimit := clamp 1 9999999 a.rttLimit.toNat
    rttRecover := a.rttRecover.toNat
    startSeq := a.startSeq }

section
variable {a : LinkArgs} {en : Bool} {port : Fin 4} {kind : LinkKind}

/-- With enabled value, port and kind in their lists, the recover values decide (R119). -/
theorem readLinkConfig_listed (enabled : readYesNo a.enabled = some en) (shore : a.shorePort.toNat = port.val + 4)
    (kindRead : readLinkKind a.kind = some kind) : readLinkConfig a
      = if a.recoverLoss.toNat < clamp 1 16 a.impairLoss.toNat ∧ a.rttRecover.toNat ≤ clamp 1 9999999 a.rttLimit.toNat
        then some (linkConfigOf a en port kind) else none := by
  simp only [readLinkConfig, enabled, (readShorePort_iff _ _).mpr shore, kindRead]
  rfl

/-- An enabled value, port or kind outside its list is refused (R119). -/
theorem readLinkConfig_unlisted
    (bad : 1 < a.enabled.toNat ∨ a.shorePort.toNat < 4 ∨ 7 < a.shorePort.toNat ∨ 2 < a.kind.toNat) :
    readLinkConfig a = none := by
  unfold readLinkConfig
  split
  · next en port kind enabled shore kindRead =>
    have enabled := (readYesNo_iff _ _).mp enabled
    have shore := (readShorePort_iff _ _).mp shore
    have kindRead := (readLinkKind_iff _ _).mp kindRead
    have := kind.code_le
    have := port.isLt
    have : a.enabled.toNat ≤ 1 := by rw [enabled]; split <;> omega
    omega
  · rfl

end

/-! ### Write Link (R119, R120) -/

section
variable {s : State} {a : LinkArgs}

theorem writeLink_taken {k : LinkIx} {cfg : LinkConfig} (index : a.index.toNat = k.val)
    (read : readLinkConfig a = some cfg) : writeLink a s = (.ok (items (linkConfigBytes cfg)),
      suLinkChanged k (healthEvent k (s.link k).health (if cfg.enabled then .down else .off)
        (s.setLink k (writtenLink (s.link k) cfg s.now)))) := by
  simp only [writeLink, inRange_of_eq k index, read, State.setLink_link, if_true]
  rfl

theorem writeLink_refused (bad : 7 < a.index.toNat ∨ readLinkConfig a = none) :
    writeLink a s = (.refuse .badArgument, s) := by
  unfold writeLink
  split
  · next k cfg index read =>
    have := (inRange_eq_some k).mp index
    have := k.isLt
    rcases bad with beyond | none
    · omega
    · rw [read] at none; cases none
  · rfl

end

/-- Settles O44: a configuration that is taken, one whose recover values are refused, and arguments outside their
lists. -/
theorem writeLinkRestartsLink : Obligations.WriteLinkRestartsLink := by
  refine ⟨?_, fun s rq a passes bad => ask_no passes (writeLink_refused (bad.imp_right readLinkConfig_unlisted))⟩
  intro s rq a k en port kind passes index enabled shore kindRead impair limit cfg l
  have read := readLinkConfig_listed enabled shore kindRead
  refine ⟨fun loss rtt => ?_, fun bad => ?_⟩
  · have taken : readLinkConfig a = some cfg := read.trans (if_pos ⟨loss, rtt⟩)
    exact ask_ok passes (writeLink_taken (s := s.got rq.port) index taken)
  · have refused : readLinkConfig a = none := read.trans <| if_neg fun ok =>
      bad.elim (Nat.not_le.mpr ok.1) (Nat.not_lt.mpr ok.2)
    exact ask_no passes (writeLink_refused (.inr refused))

end Sys2Proof.Machine
end

section
/-! The steering state (R53, R117, R137): SU, the links and the zone in force, which the selector's soundness speaks
of, and the commands that leave it as it was. -/

namespace Sys2Proof.Machine

/-- SU, the links and the zone in force. -/
structure Steering where
  su : Su
  links : Vector Link 8
  zone : Zone

def State.steering (s : State) : Steering := ⟨s.su, s.links, s.zu.zone⟩

theorem State.steering_congr {s t : State} (su : t.su = s.su) (links : t.links = s.links) (zone : t.zu.zone = s.zu.zone) :
    t.steering = s.steering := by
  rw [State.steering, su, links, zone, State.steering]

variable (s : State)

/-! ### The state's own updates -/

@[simp] theorem setPort_steering (p : Port) (x : PortState) : (s.setPort p x).steering = s.steering := rfl
@[simp] theorem setQueue_steering (p : Port) (q : List Entry) : (s.setQueue p q).steering = s.steering := rfl
@[simp] theorem setCarrier_steering (p : Port) (b : Bool) : (s.setCarrier p b).steering = s.steering := rfl
@[simp] theorem setCtx_steering (i : CtxIx) (c : Context) : (s.setCtx i c).steering = s.steering := rfl
@[simp] theorem setRu_steering (r : RuIx) (u : RadioUnit) : (s.setRu r u).steering = s.steering := rfl
@[simp] theorem setEvent_steering (k : EventKind) (e : EventEntry) : (s.setEvent k e).steering = s.steering := rfl
@[simp] theorem setHold_steering (h : List UserEntry) : (s.setHold h).steering = s.steering := rfl
@[simp] theorem setUr_steering (u : Ur) : ({ s with ur := u } : State).steering = s.steering := rfl
@[simp] theorem setMe_steering (m : Me) : ({ s with me := m } : State).steering = s.steering := rfl
@[simp] theorem setCs_steering (c : Cs) : ({ s with cs := c } : State).steering = s.steering := rfl
@[simp] theorem drop_steering (r : DropReason) (d : Dir) : (drop r d s).steering = s.steering := rfl
@[simp] theorem place_steering (p : Port) (b : EntryBody) : (place p b s).steering = s.steering := rfl
@[simp] theorem recomputeFloor_steering : (recomputeFloor s).steering = s.steering := rfl
@[simp] theorem setCandidate_steering (c : Option ZoneIx) (n : Nat) : (setCandidate c n s).steering = s.steering := rfl

@[simp] theorem setWaypoint_steering (i : WaypointId) (w : Waypoint) : (s.setWaypoint i w).steering = s.steering := by
  cases i <;> rfl

/-! ### Frames, events, notices and responses (R15, R42, R165, R173, R178) -/

theorem controlDropped_steering {c : Control} (plain : ∀ k a n last, c.body ≠ .endMarker k a n last) :
    (controlDropped c s).steering = s.steering := by
  unfold controlDropped
  split
  · next h => exact absurd h (plain _ _ _ _)
  · rfl
  · rfl

/-- Any control entry but an END marker, which a full queue would take out of the drain set (R15). -/
theorem offerControl_steering (p : Port) {c : Control} (plain : ∀ k a n last, c.body ≠ .endMarker k a n last) :
    (offerControl p c s).steering = s.steering :=
  offerControl_keeps s State.steering p c (fun _ _ => rfl) (fun _ _ => rfl) fun s => controlDropped_steering s plain

@[simp] theorem raise_steering (k : EventKind) (d : Option Detail) : (raise k d s).steering = s.steering :=
  State.steering_congr (by simp) (by simp) (by simp)

@[simp] theorem sendBearerNotice_steering (i : CtxIx) (c : Context) (n : BearerNotice) :
    (sendBearerNotice i c n s).steering = s.steering := by
  rcases sendBearerNotice_cases s i c n with ⟨-, e⟩ | ⟨-, e⟩ <;> rw [e]
  exact offerControl_steering s _ fun _ _ _ _ => by simp

@[simp] theorem respond_steering (rq : Request) (code : Byte) (r : Reply) :
    (respond rq code r s).steering = s.steering := offerControl_steering s _ fun _ _ _ _ => by simp

@[simp] theorem round_steering : (round s).steering = s.steering :=
  State.steering_congr (by simp) (by simp) (by simp)

@[simp] theorem recomputeLevel_steering : (recomputeLevel s).steering = s.steering :=
  State.steering_congr (by simp) (by simp) (by simp)

@[simp] theorem csHandover_steering (g : Bool) (sw : Option (Option LinkIx)) :
    (csHandover g sw s).steering = s.steering := State.steering_congr (by simp) (by simp) (by simp)

/-! ### Usage (R101 to R112) -/

@[simp] theorem urqEnter_steering (r : Record) : (urqEnter r s).steering = s.steering := rfl
@[simp] theorem toAwaiting_steering (i : CtxIx) (r : Record) : (toAwaiting i r s).steering = s.steering := rfl
@[simp] theorem dropOpen_steering (i : CtxIx) : (dropOpen i s).steering = s.steering := rfl
@[simp] theorem freeContext_steering (i : CtxIx) : (freeContext i s).steering = s.steering := rfl
@[simp] theorem advanceSweep_steering : (advanceSweep s).steering = s.steering := rfl

theorem closeInterval_steering {i : CtxIx} {iv : Interval} {t : State} (closed : closeInterval i iv s = some t) :
    t.steering = s.steering := by
  rcases closeInterval_cases s i iv with ⟨-, -, e⟩ | ⟨-, -, e⟩ | ⟨-, -, e⟩ <;> rw [e] at closed <;> cases closed <;> rfl

@[simp] theorem drainAwaitingHead_steering : (drainAwaitingHead s).steering = s.steering := by
  simp only [drainAwaitingHead]
  split
  · rfl
  · split
    · rfl
    · split <;> simp

@[simp] theorem drainAwaiting_steering (n : Nat) : (drainAwaiting n s).steering = s.steering := by
  induction n generalizing s with
  | zero => rfl
  | succ n ih =>
    rw [drainAwaiting]
    split
    · rfl
    · rw [ih, drainAwaitingHead_steering]

@[simp] theorem placeSummary_steering (p : Num32) : (placeSummary p s).steering = s.steering := by
  rw [placeSummary_eq]
  exact raise_steering { s with ur := summarized p s.ur } _ _

@[simp] theorem periodSummary_steering : (periodSummary s).steering = s.steering := by
  unfold periodSummary
  split
  · split <;> simp
  · rfl

@[simp] theorem resumeSweep_steering : (resumeSweep s).steering = s.steering := by
  unfold resumeSweep; split <;> rfl

@[simp] theorem giveOut_steering (k : Nat) : (giveOut k s).steering = s.steering := by
  unfold giveOut; split <;> simp

@[simp] theorem usageCompleted_steering : (usageCompleted s).steering = s.steering := by
  unfold usageCompleted; split <;> simp

@[simp] theorem usageFrameBuild_steering : (usageFrameBuild s).steering = s.steering := by
  unfold usageFrameBuild
  split
  · dsimp only
    split
    · rw [offerControl_steering _ _ fun _ _ _ _ => by simp]; rfl
    · rfl
  · rfl

@[simp] theorem visit_steering : (visit s).steering = s.steering := by
  unfold visit
  split
  · rfl
  · split
    · rfl
    · split <;> rfl

@[simp] theorem sweepVisit_steering : (sweepVisit s).steering = s.steering := by
  simp only [sweepVisit]; split <;> simp

@[simp] theorem closePeriod_steering : (closePeriod s).2.steering = s.steering := by
  unfold closePeriod; split <;> rfl

/-! ### Metering (R70, R80 to R92) -/

@[simp] theorem barringFailure_steering (i : CtxIx) : (barringFailure i s).steering = s.steering := by
  rcases barringFailure_cases s i with ⟨-, e⟩ | ⟨-, e⟩ <;> simp [e]

@[simp] theorem openInterval_steering (i : CtxIx) : (openInterval i s).steering = s.steering := rfl
@[simp] theorem accumulate_steering (i : CtxIx) (d : Dir) (b : Nat) (ch : Charge) :
    (accumulate i d b ch s).steering = s.steering := rfl

@[simp] theorem exhaust_steering (i : CtxIx) : (exhaust i s).steering = s.steering := by simp [exhaust]

@[simp] theorem lowTest_steering (i : CtxIx) : (lowTest i s).steering = s.steering := by
  simp only [lowTest]; split <;> simp

@[simp] theorem testsAfter_steering (i : CtxIx) : (testsAfter i s).steering = s.steering := by
  unfold testsAfter exhaustedTest
  split
  · split <;> simp
  · rfl

@[simp] theorem applyCharge_steering (i : CtxIx) (d : Dir) (b : Nat) (ch : Charge) :
    (applyCharge i d b ch s).steering = s.steering := by simp [applyCharge]

theorem keyStep_steering {i : CtxIx} {t : State} (key : keyStep i s = some t) : t.steering = s.steering := by
  unfold keyStep at key
  split at key
  · cases key; rfl
  · split at key
    · cases key; rfl
    · split at key
      · cases key
      · next u closed =>
        cases key
        exact (openInterval_steering u _).trans (closeInterval_steering s closed)

@[simp] theorem meterBearer_steering (u : UserEntry) (d : Dir) (m : Multiplier) :
    (meterBearer u d m s).2.steering = s.steering := by
  unfold meterBearer
  split
  · exact raise_steering s _ _
  · next t key =>
    have keyed := keyStep_steering s key
    dsimp only
    split <;> simp [keyed]

@[simp] theorem meter_steering (u : UserEntry) (d : Dir) (m : Multiplier) :
    (meter u d m s).2.steering = s.steering := by
  unfold meter
  split
  · simp
  · rfl
  · split <;> simp

/-! ### Admission and routing (R8 to R13, R41, R68, R168) -/

@[simp] theorem holdJoin_steering (e : UserEntry) : (holdJoin e s).steering = s.steering := by
  rcases holdJoin_cases s e with ⟨-, h⟩ | ⟨-, h⟩ <;> simp [h]

@[simp] theorem routeUplink_steering (e : UserEntry) : (routeUplink e s).steering = s.steering := by
  unfold routeUplink
  split
  · split <;> simp
  · simp

@[simp] theorem routeDownlink_steering (e : UserEntry) (m : Multiplier) :
    (routeDownlink e m s).steering = s.steering := by
  simp only [routeDownlink]
  split
  · split <;> simp
  · simp

@[simp] theorem carry_steering (src : Source) (i : CtxIx) (f : BearerFrame) :
    (carry src i f s).steering = s.steering := by
  cases src with
  | uplink r => simp [carry, followRu]
  | downlink m => simp [carry]

@[simp] theorem signalFailure_steering (i : CtxIx) (f : BearerFrame) (failed : Bool) :
    (signalFailure i f failed s).steering = s.steering := by
  unfold signalFailure
  split
  · split <;> simp
  · rfl

@[simp] theorem admitFrame_steering (src : Source) (f : BearerFrame) : (admitFrame src f s).steering = s.steering := by
  unfold admitFrame
  split
  · simp
  · split <;> simp

@[simp] theorem bearerIn_steering (port : Fin 4) (src : Addr) (f : BearerFrame) :
    (bearerIn port src f s).steering = s.steering := by
  unfold bearerIn
  split
  · simp
  · split <;> simp

@[simp] theorem linkFrameIn_steering (port : Fin 4) (a : Num16) (f : BearerFrame) :
    (linkFrameIn port a f s).steering = s.steering := by
  unfold linkFrameIn
  split
  · simp
  · split <;> simp

@[simp] theorem sendHeartbeat_steering (r : RuIx) : (sendHeartbeat r s).steering = s.steering :=
  State.steering_congr (by simp) (by simp) (by simp)

@[simp] theorem radioStatusIn_steering (port : Fin 4) (src : Addr) (n : BitVec 16) :
    (radioStatusIn port src n s).steering = s.steering := by
  unfold radioStatusIn
  split
  · rfl
  · simp only [radioStatusOf]; split <;> simp

/-! ### The clock and the queues (R14, R19, R24, R50, R157 to R168) -/

@[simp] theorem transmit_steering (p : Port) (dst : Addr) (c : Carried) : (transmit p dst c s).steering = s.steering := rfl

@[simp] theorem holdDrainMove_steering : (holdDrainMove s).steering = s.steering := by
  unfold holdDrainMove
  split
  · split
    · split <;> simp
    · rfl
  · rfl

@[simp] theorem ageHold_steering : (ageHold s).steering = s.steering := rfl
@[simp] theorem nextEpoch_steering : (nextEpoch s).steering = s.steering := rfl

@[simp] theorem staleDeadline_steering : (staleDeadline s).steering = s.steering := by
  unfold staleDeadline
  split
  · split
    · rw [raise_steering]; rfl
    · rfl
  · rfl

@[simp] theorem graceExpiry_steering : (graceExpiry s).steering = s.steering := by
  unfold graceExpiry
  split
  · rfl
  · split
    · dsimp only; split <;> simp
    · rfl

@[simp] theorem heartbeatTime_steering : (heartbeatTime s).steering = s.steering := by
  unfold heartbeatTime
  split
  · exact (setCs_steering (round s) _).trans (round_steering s)
  · rfl

@[simp] theorem livenessDeadline_steering (r : RuIx) : (livenessDeadline r s).steering = s.steering := by
  simp only [livenessDeadline]
  split
  · split <;> simp
  · rfl

@[simp] theorem coldOnCarrierLoss_steering (p : Port) : (coldOnCarrierLoss p s).steering = s.steering := by
  unfold coldOnCarrierLoss; split <;> rfl

@[simp] theorem cellCarrierChange_steering (port : Fin 4) (up : Bool) :
    (cellCarrierChange port up s).steering = s.steering := by
  simp only [cellCarrierChange]; split <;> simp

@[simp] theorem zoneFault_steering (a : Nat) (x : Int) : (zoneFault a x s).steering = s.steering := by
  unfold zoneFault
  split
  · split <;> simp
  · rfl

/-! ### Requests that do not steer (R29 to R38, R59, R60, R62, R75, R93, R121, R164, R167, R169, R175, R180 to R182) -/

theorem named_steering {f : CtxIx → Context → State → Reply × State}
    (rule : ∀ i c s, (f i c s).2.steering = s.steering) (n : CtxName) : (named n f s).2.steering = s.steering := by
  rcases named_cases s n f with ⟨-, e⟩ | ⟨i, -, ⟨-, e⟩ | ⟨-, e⟩⟩ <;> rw [e]
  · rfl
  · rfl
  · exact rule i _ s

@[simp] theorem createContext_steering (a : CreateArgs) : (createContext a s).2.steering = s.steering := by
  rcases createContext_cases a s with e | ⟨v, i, -, -, e⟩ <;> rw [e]
  rfl

@[simp] theorem modifyContext_steering (n : CtxName) (a : ModifyArgs) : (modifyContext n a s).2.steering = s.steering := by
  refine named_steering s (fun i c s => ?_) n
  simp only [modifyNamed]
  split
  · rfl
  split
  · rfl
  split
  · rfl
  split
  · rfl
  split
  · exact raise_steering s _ _
  · next t closed =>
    unfold closeForPlan at closed
    split at closed
    · cases closed; rfl
    · exact (setCtx_steering t _ _).trans (closeInterval_steering s closed)

@[simp] theorem suspendContext_steering (n : CtxName) : (suspendContext n s).2.steering = s.steering := by
  refine named_steering s (fun i c s => ?_) n
  simp only [suspendNamed]; split <;> simp

@[simp] theorem resumeContext_steering (n : CtxName) : (resumeContext n s).2.steering = s.steering := by
  refine named_steering s (fun i c s => ?_) n
  simp only [resumeNamed]; split <;> simp

@[simp] theorem topUp_steering (n : CtxName) (m : BitVec 64) (l : BitVec 32) :
    (topUp n m l s).2.steering = s.steering := by
  refine named_steering s (fun i c s => ?_) n
  simp only [topUpNamed]
  repeat' split
  all_goals rfl

@[simp] theorem placeFinal_steering (i : CtxIx) : (placeFinal i s).steering = s.steering := by
  unfold placeFinal; split <;> rfl

@[simp] theorem releaseContext_steering (n : CtxName) : (releaseContext n s).2.steering = s.steering := by
  refine named_steering s (fun i c s => ?_) n
  simp only [releaseNamed]
  split
  · rfl
  split
  · exact raise_steering s _ _
  · simp

@[simp] theorem findContext_steering (b : Num32) : (findContext b s).2.steering = s.steering := by
  unfold findContext
  split
  · rfl
  · split <;> rfl

@[simp] theorem readContext_steering (n : Num16) : (readContext n s).2.steering = s.steering := by
  unfold readContext; split <;> rfl

@[simp] theorem readZone_steering (n : Byte) : (readZone n s).2.steering = s.steering := by
  unfold readZone
  split
  · rfl
  · split <;> rfl

@[simp] theorem readLink_steering (n : Byte) : (readLink n s).2.steering = s.steering := by
  unfold readLink; split <;> rfl

@[simp] theorem readRadioUnit_steering (n : Byte) : (readRadioUnit n s).2.steering = s.steering := by
  unfold readRadioUnit; split <;> rfl

/-- Write Zone writes the table, not the zone in force (R59). -/
@[simp] theorem writeZone_steering (a : ZoneArgs) : (writeZone a s).2.steering = s.steering := by
  unfold writeZone
  split
  · split <;> rfl
  · rfl

@[simp] theorem armWaypoint_steering (a : WaypointArgs) : (armWaypoint a s).2.steering = s.steering := by
  unfold armWaypoint
  split
  · split <;> simp
  · rfl

@[simp] theorem disarmWaypoint_steering (c : Byte) : (disarmWaypoint c s).2.steering = s.steering := by
  unfold disarmWaypoint; split <;> simp

@[simp] theorem openAttach_steering : (openAttach s).2.steering = s.steering := by
  unfold openAttach
  split
  · rfl
  · rw [round_steering]; rfl

@[simp] theorem writeRadioUnit_steering (a : RuArgs) : (writeRadioUnit a s).2.steering = s.steering := by
  unfold writeRadioUnit; split <;> rfl

@[simp] theorem setFloor_steering (f : Byte) : (setFloor f s).2.steering = s.steering := by
  unfold setFloor; split <;> rfl

@[simp] theorem configure_steering (a : ConfigureArgs) : (configure a s).2.steering = s.steering := by
  simp only [configure]
  split
  · rfl
  · split <;> rfl

@[simp] theorem clearEvents_steering (kinds : List Byte) : (clearEvents kinds s).2.steering = s.steering := by
  unfold clearEvents
  split
  · rfl
  · split <;> rfl

end Sys2Proof.Machine
end

section
/-! What a switch makes of SU: the selector as its rule writes it, the number counted up, and the drain set
(R147, R149, R150). -/

namespace Sys2Proof.Machine

/-! ### The slots of the selector (R137) -/

@[simp] theorem Slot.other_other (sl : Slot) : sl.other.other = sl := by cases sl <;> rfl
@[simp] theorem Slot.other_ne (sl : Slot) : sl.other ≠ sl := by cases sl <;> decide
@[simp] theorem Slot.ne_other (sl : Slot) : sl ≠ sl.other := sl.other_ne.symm

section
variable (su : Su) (sl tl : Slot) (k : Option LinkIx)

@[simp] theorem Su.setSlot_slot : (su.setSlot sl k).slot tl = if sl = tl then k else su.slot tl := by
  cases sl <;> cases tl <;> rfl

@[simp] theorem Su.setSlot_inForce : (su.setSlot sl k).inForce = su.inForce := by cases sl <;> rfl
@[simp] theorem Su.setSlot_stage : (su.setSlot sl k).stage = su.stage := by cases sl <;> rfl
@[simp] theorem Su.setSlot_order : (su.setSlot sl k).order = su.order := by cases sl <;> rfl
@[simp] theorem Su.setSlot_drain : (su.setSlot sl k).drain = su.drain := by cases sl <;> rfl
@[simp] theorem Su.setSlot_switchNumber : (su.setSlot sl k).switchNumber = su.switchNumber := by cases sl <;> rfl

/-- SU with the stage made absent, its slots as they are. -/
def Su.unstaged (su : Su) : Su := { su with stage := none }

@[simp] theorem Su.unstaged_slot : su.unstaged.slot sl = su.slot sl := by cases sl <;> rfl
@[simp] theorem Su.unstaged_inForce : su.unstaged.inForce = su.inForce := rfl
@[simp] theorem Su.unstaged_stage : su.unstaged.stage = none := rfl
@[simp] theorem Su.unstaged_order : su.unstaged.order = su.order := rfl
@[simp] theorem Su.unstaged_drain : su.unstaged.drain = su.drain := rfl
@[simp] theorem Su.unstaged_switchNumber : su.unstaged.switchNumber = su.switchNumber := rfl

end

/-! ### What a commit and a choice write (R140, R141, R145, R146) -/

section
variable (su : Su) (new : Option LinkIx)

@[simp] theorem commitSlots_active : (commitSlots su).active = su.slot su.inForce.other := by
  show (su.setSlot su.inForce none).slot su.inForce.other = _
  simp

@[simp] theorem commitSlots_slot : (commitSlots su).slot (commitSlots su).inForce.other = none := by
  show (su.setSlot su.inForce none).slot su.inForce.other.other = none
  simp

@[simp] theorem commitSlots_stage : (commitSlots su).stage = none := rfl
@[simp] theorem commitSlots_staged : (commitSlots su).staged = none := rfl
@[simp] theorem commitSlots_order : (commitSlots su).order = su.order := Su.setSlot_order ..
@[simp] theorem commitSlots_drain : (commitSlots su).drain = su.drain := Su.setSlot_drain ..
@[simp] theorem commitSlots_switchNumber : (commitSlots su).switchNumber = su.switchNumber := Su.setSlot_switchNumber ..

/-- A choice that is not the staged link leaves the stage and its slot (R141). -/
theorem writeSlots_of_other (other : new = none ∨ su.staged ≠ new) :
    writeSlots new su = su.setSlot su.inForce new := by
  refine if_neg fun c => ?_
  simp only [Bool.and_eq_true, beq_iff_eq] at c
  rcases other with none | other
  · rw [none] at c; exact absurd c.1 (by simp)
  · exact other c.2

/-- The choice of the staged link makes the stage absent and its slot EMPTY (R141). -/
theorem writeSlots_of_staged {k : LinkIx} (staged : su.staged = some k) : writeSlots (some k) su
    = ((su.setSlot su.inForce (some k)).setSlot su.inForce.other none).unstaged :=
  if_pos (by simp [staged])

/-- The two ways a choice is written. -/
theorem writeSlots_cases : writeSlots new su = su.setSlot su.inForce new ∧ (new = none ∨ su.staged ≠ new)
    ∨ ∃ k, new = some k ∧ su.staged = some k ∧ writeSlots new su
        = ((su.setSlot su.inForce (some k)).setSlot su.inForce.other none).unstaged := by
  cases new with
  | none => exact .inl ⟨writeSlots_of_other su none (.inl rfl), .inl rfl⟩
  | some k =>
    by_cases staged : su.staged = some k
    · exact .inr ⟨k, rfl, staged, writeSlots_of_staged su staged⟩
    · exact .inl ⟨writeSlots_of_other su (some k) (.inr staged), .inr staged⟩

@[simp] theorem writeSlots_inForce : (writeSlots new su).inForce = su.inForce := by
  rcases writeSlots_cases su new with ⟨e, -⟩ | ⟨k, -, -, e⟩ <;> simp [e]
@[simp] theorem writeSlots_order : (writeSlots new su).order = su.order := by
  rcases writeSlots_cases su new with ⟨e, -⟩ | ⟨k, -, -, e⟩ <;> simp [e]
@[simp] theorem writeSlots_drain : (writeSlots new su).drain = su.drain := by
  rcases writeSlots_cases su new with ⟨e, -⟩ | ⟨k, -, -, e⟩ <;> simp [e]
@[simp] theorem writeSlots_switchNumber : (writeSlots new su).switchNumber = su.switchNumber := by
  rcases writeSlots_cases su new with ⟨e, -⟩ | ⟨k, -, -, e⟩ <;> simp [e]

@[simp] theorem writeSlots_active : (writeSlots new su).active = new := by
  rw [Su.active, writeSlots_inForce]
  rcases writeSlots_cases su new with ⟨e, -⟩ | ⟨k, rfl, -, e⟩ <;> simp [e]

/-- After a choice the staged slot and the stage are as they were, or the one EMPTY and the other absent. -/
theorem writeSlots_stage : (writeSlots new su).stage = su.stage
      ∧ (writeSlots new su).slot su.inForce.other = su.slot su.inForce.other ∧ (new = none ∨ su.staged ≠ new)
    ∨ (writeSlots new su).stage = none ∧ (writeSlots new su).slot su.inForce.other = none := by
  rcases writeSlots_cases su new with ⟨e, other⟩ | ⟨k, -, -, e⟩
  · exact .inl ⟨by simp [e], by simp [e], other⟩
  · exact .inr ⟨by simp [e], by simp [e]⟩

end

/-! ### The steps of a switch (R147) -/

section
variable (s : State) (cause : SwitchCause) (old new : Option LinkIx) (write : Su → Su)

@[simp] theorem raiseSwitch_su : (raiseSwitch old new cause s).su = s.su := by
  unfold raiseSwitch; cases new <;> simp

/-- The new link leaves the drain set (R150). -/
theorem undrain_drain (su : Su) : (undrain new su).drain = match new with
    | none => su.drain
    | some j => su.drain.filter fun m => m.link ≠ j := by
  cases new with
  | none => rfl
  | some j => exact congrArg su.drain.filter (funext fun m => by simp [bne, Bool.beq_eq_decide_eq])

/-- What the old link leaves in the drain set: itself at a graceful switch, nothing at a forced one (R149). -/
def drained (old : Option LinkIx) (cause : SwitchCause) (number : Num16) : List Member :=
  match old with
  | none => []
  | some k => if cause = .failover then [] else [⟨k, number, false⟩]

theorem settleOld_drain : (settleOld old cause s).su.drain
    = s.su.drain ++ drained old cause s.su.switchNumber := by
  cases old with
  | none => exact (List.append_nil _).symm
  | some k => cases cause <;> simp [settleOld, drained]

@[simp] theorem makeSwitch_drain : (makeSwitch cause new write s).su.drain
    = (undrain new (write s.su)).drain ++ drained s.active cause ((write s.su).switchNumber + 1) := by
  have number : (undrain new (write s.su)).switchNumber = (write s.su).switchNumber := by cases new <;> rfl
  simp [makeSwitch, settleOld_drain, number]

@[simp] theorem makeSwitch_inForce : (makeSwitch cause new write s).su.inForce = (write s.su).inForce :=
  congrArg Selector.inForce (makeSwitch_selector s cause new write)

@[simp] theorem makeSwitch_stage : (makeSwitch cause new write s).su.stage = (write s.su).stage :=
  congrArg Selector.stage (makeSwitch_selector s cause new write)

@[simp] theorem makeSwitch_order : (makeSwitch cause new write s).su.order = (write s.su).order :=
  congrArg Selector.order (makeSwitch_selector s cause new write)

@[simp] theorem makeSwitch_switchNumber :
    (makeSwitch cause new write s).su.switchNumber = (write s.su).switchNumber + 1 :=
  congrArg Selector.switchNumber (makeSwitch_selector s cause new write)

@[simp] theorem makeSwitch_slot (sl : Slot) : (makeSwitch cause new write s).su.slot sl = (write s.su).slot sl := by
  cases sl with
  | a => exact congrArg Selector.slotA (makeSwitch_selector s cause new write)
  | b => exact congrArg Selector.slotB (makeSwitch_selector s cause new write)

@[simp] theorem makeSwitch_staged : (makeSwitch cause new write s).su.staged = (write s.su).staged := by
  simp [Su.staged]

end

end Sys2Proof.Machine
end

section
/-! The selector stays sound through SU's own work (R137 to R151): a switch to a usable link or to none, the handling
of link and zone changes, and stages. -/

namespace Sys2Proof.Machine

/-! ### The invariant, and what of it stands while a health or a zone has changed -/

/-- What the invariant says but for the health and the mask of the active link: SU handles a change of those, and
starts from this. -/
structure SelectorFormed (s : State) : Prop where
  links : ∀ k, (s.link k).Sound
  paired : s.su.slot s.su.inForce.other = none ↔ s.su.stage = none
  apart : ∀ k, s.su.staged = some k → s.active ≠ some k
  nodup : (s.su.drain.map Member.link).Nodup
  outside : ∀ m ∈ s.su.drain, s.active ≠ some m.link

section
variable {s t : State}

/-- A link that is not OFF is enabled (R117, R128), so a usable one is. -/
theorem Link.Sound.enabled_iff {l : Link} (sound : l.Sound) : l.cfg.enabled = true ↔ l.health ≠ .off := by
  rw [Ne, sound.1, Bool.not_eq_false]

theorem selectorSound_iff :
    SelectorSound s ↔ SelectorFormed s ∧ ∀ k, s.active = some k → s.usable k = true := by
  constructor
  · rintro ⟨links, active, paired, apart, nodup, outside⟩
    refine ⟨⟨links, paired, apart, nodup, outside⟩, fun k hk => (s.usable_iff k).mpr ?_⟩
    obtain ⟨carries, -, mask⟩ := active k hk
    exact ⟨carries, mask⟩
  · rintro ⟨⟨links, paired, apart, nodup, outside⟩, active⟩
    refine ⟨links, fun k hk => ?_, paired, apart, nodup, outside⟩
    obtain ⟨carries, mask⟩ := (s.usable_iff k).mp (active k hk)
    refine ⟨carries, (links k).enabled_iff.mpr fun off => ?_, mask⟩
    rw [off] at carries; exact absurd carries (by decide)

theorem SelectorSound.formed (h : SelectorSound s) : SelectorFormed s := (selectorSound_iff.mp h).1

theorem SelectorSound.usable (h : SelectorSound s) {k : LinkIx} (active : s.active = some k) : s.usable k = true :=
  (selectorSound_iff.mp h).2 k active

/-- In blackout nothing is asked of a link (R137). -/
theorem SelectorFormed.sound_of_blackout (h : SelectorFormed s) (blackout : s.active = none) : SelectorSound s :=
  selectorSound_iff.mpr ⟨h, fun k active => by rw [blackout] at active; cases active⟩

theorem SelectorFormed.same (h : SelectorFormed s) (su : t.su = s.su) (links : t.links = s.links) : SelectorFormed t := by
  have link (k : LinkIx) : t.link k = s.link k := by rw [State.link, links]; rfl
  have active : t.active = s.active := congrArg Su.active su
  exact ⟨fun k => link k ▸ h.links k, su ▸ h.paired, by rw [su, active]; exact h.apart, su ▸ h.nodup,
    by rw [su, active]; exact h.outside⟩

theorem steering_su (same : t.steering = s.steering) : t.su = s.su := congrArg Steering.su same
theorem steering_links (same : t.steering = s.steering) : t.links = s.links := congrArg Steering.links same

theorem steering_active (same : t.steering = s.steering) : t.active = s.active := congrArg Su.active (steering_su same)

theorem steering_link (same : t.steering = s.steering) (k : LinkIx) : t.link k = s.link k := by
  rw [State.link, steering_links same]; rfl

theorem steering_usable (same : t.steering = s.steering) (k : LinkIx) : t.usable k = s.usable k := by
  have zone : t.zu.zone = s.zu.zone := congrArg Steering.zone same
  rw [State.usable, steering_link same, zone, State.usable]

/-- A change of anything but the steering state keeps the selector sound. -/
theorem SelectorSound.same (h : SelectorSound s) (same : t.steering = s.steering) : SelectorSound t := by
  refine selectorSound_iff.mpr ⟨h.formed.same (steering_su same) (steering_links same), fun k active => ?_⟩
  rw [steering_usable same]
  exact h.usable (steering_active same ▸ active)

/-- A member leaves the drain set, or has its marker recorded as placed (R149, R150). -/
theorem SelectorSound.after_drain (h : SelectorSound s) {ms : List Member}
    (sub : (ms.map Member.link).Sublist (s.su.drain.map Member.link)) :
    SelectorSound { s with su := { s.su with drain := ms } } := by
  have formed := h.formed
  refine selectorSound_iff.mpr ⟨⟨formed.links, formed.paired, formed.apart, formed.nodup.sublist sub, fun m hm => ?_⟩,
    fun k active => h.usable active⟩
  obtain ⟨n, hn, same⟩ := List.mem_map.mp (sub.subset (List.mem_map_of_mem hm))
  rw [← same]
  exact formed.outside n hn

theorem SelectorSound.after_leaveDrain (h : SelectorSound s) {k : LinkIx} {n : Num16} : SelectorSound (leaveDrain k n s) :=
  h.after_drain (List.filter_sublist.map _)

/-- Offering a control entry; only a dropped END marker reaches SU (R15, R150). -/
theorem SelectorSound.after_offerControl (h : SelectorSound s) {p : Port} {c : Control} :
    SelectorSound (offerControl p c s) := by
  have dropped (d : Dir) : SelectorSound (controlDropped c (drop .egressFull d s)) := by
    have counted : SelectorSound (drop .egressFull d s) := h.same rfl
    unfold controlDropped
    split
    · exact counted.after_leaveDrain
    · exact counted.same rfl
    · exact counted
  rcases offerControl_cases s p c with ⟨-, e⟩ | ⟨-, x, q, -, e⟩ | ⟨-, -, e⟩ <;> rw [e]
  · exact h.same rfl
  · exact h.same rfl
  · exact dropped _

/-- A move changes queues only (R151). -/
@[simp] theorem moveEntries_steering (s : State) (k : LinkIx) : (moveEntries k s).steering = s.steering := by
  have out : (takeOut k s).steering = s.steering := foldl_keeps State.steering _ (fun _ _ => rfl) allShore s
  unfold moveEntries
  dsimp only
  split
  · exact (moveTo_keeps _ State.steering (fun _ _ _ => rfl) (fun _ _ => rfl) (fun _ => rfl) _ _ _).trans out
  · exact out

end

/-! ### A switch (R147) -/

section
variable {s : State}

/-- A switch to a usable link or to none, whose rule writes slots and stage in step and touches no drain set; at a
graceful one the old link is another than the new. -/
theorem SelectorFormed.after_makeSwitch (h : SelectorFormed s) {cause : SwitchCause} {new : Option LinkIx}
    {write : Su → Su} (chosen : (write s.su).active = new) (drain : (write s.su).drain = s.su.drain)
    (paired : (write s.su).slot (write s.su).inForce.other = none ↔ (write s.su).stage = none)
    (apart : ∀ k, (write s.su).staged = some k → new ≠ some k)
    (usable : ∀ k, new = some k → s.usable k = true)
    (leaves : cause ≠ .failover → ∀ k, s.active = some k → new ≠ some k) :
    SelectorSound (makeSwitch cause new write s) := by
  have others : ∀ m ∈ (undrain new (write s.su)).drain, m ∈ s.su.drain ∧ new ≠ some m.link := by
    intro m hm
    rw [undrain_drain, drain] at hm
    cases new with
    | none => exact ⟨hm, nofun⟩
    | some j =>
      obtain ⟨hm, other⟩ := List.mem_filter.mp hm
      exact ⟨hm, fun same => of_decide_eq_true other (Option.some.inj same).symm⟩
  have kept : (undrain new (write s.su)).drain.Sublist s.su.drain := by
    rw [undrain_drain, drain]
    split
    · exact .refl _
    · exact List.filter_sublist
  have joins : ∀ m ∈ drained s.active cause ((write s.su).switchNumber + 1),
      s.active = some m.link ∧ cause ≠ .failover := by
    intro m hm
    unfold drained at hm
    split at hm
    · cases hm
    · next k active =>
      split at hm
      · cases hm
      · next graceful => rw [List.mem_singleton.mp hm]; exact ⟨active, graceful⟩
  have single : ((drained s.active cause ((write s.su).switchNumber + 1)).map Member.link).Nodup := by
    unfold drained
    split
    · exact List.nodup_nil
    · split
      · exact List.nodup_nil
      · exact List.nodup_singleton _
  refine selectorSound_iff.mpr ⟨⟨fun k => ?_, ?_, fun k => ?_, ?_, fun m hm => ?_⟩, fun k active => ?_⟩
  · rw [State.link, makeSwitch_links]; exact h.links k
  · simpa using paired
  · rw [makeSwitch_staged, makeSwitch_active, chosen]; exact apart k
  · rw [makeSwitch_drain, List.map_append]
    refine List.Nodup.append (h.nodup.sublist (kept.map _)) single fun k old joined => ?_
    obtain ⟨m, hm, rfl⟩ := List.mem_map.mp old
    obtain ⟨n, hn, same⟩ := List.mem_map.mp joined
    exact h.outside m (others m hm).1 (same ▸ (joins n hn).1)
  · rw [makeSwitch_active, chosen]
    rw [makeSwitch_drain] at hm
    rcases List.mem_append.mp hm with old | joined
    · exact (others m old).2
    · obtain ⟨active, graceful⟩ := joins m joined
      exact leaves graceful m.link active
  · rw [makeSwitch_active, chosen] at active
    rw [State.usable_congr (makeSwitch_links ..) (makeSwitch_zu ..)]
    exact usable k active

theorem staged_of_usableStaged {k : LinkIx} (staged : s.usableStaged = some k) : s.su.staged = some k :=
  (Option.filter_eq_some_iff.mp staged).1

/-- A WAITING stage that is to commit has a usable link (R141). -/
theorem usableStaged_of_waiting (waiting : s.waitingUsable = true) : ∃ k, s.usableStaged = some k := by
  unfold State.waitingUsable at waiting
  split at waiting
  · simp only [Bool.and_eq_true] at waiting
    exact Option.isSome_iff_exists.mp waiting.2
  · cases waiting

/-- A commit of the usable staged link (R140, R141). -/
theorem SelectorFormed.after_commitStage (h : SelectorFormed s) {k : LinkIx} (staged : s.usableStaged = some k) :
    SelectorSound (commitStage k s).state := by
  obtain ⟨stage, slot, usable⟩ := (stagedUsable_iff s k).mpr staged
  have link := staged_of_usableStaged staged
  refine h.after_makeSwitch (by simp [slot]) (by simp) (by simp) (by simp) (fun j same => ?_) fun _ j active same => ?_
  · cases same; exact usable
  · cases same; exact h.apart k link active

/-- A successor, or a link of the list, is chosen (R145, R146). -/
theorem SelectorFormed.after_choice (h : SelectorFormed s) {cause : SwitchCause} {new : Option LinkIx}
    (usable : ∀ k, new = some k → s.usable k = true) (leaves : cause ≠ .failover → ∀ k, s.active = some k → new ≠ some k) :
    SelectorSound (makeSwitch cause new (writeSlots new) s) := by
  refine h.after_makeSwitch (by simp) (by simp) ?_ (fun k staged same => ?_) usable leaves
  · rw [writeSlots_inForce]
    rcases writeSlots_stage s.su new with ⟨stage, slot, -⟩ | ⟨stage, slot⟩ <;> rw [stage, slot]
    · exact h.paired
    · exact iff_of_true rfl rfl
  · unfold Su.staged at staged
    rw [writeSlots_inForce] at staged
    rcases writeSlots_stage s.su new with ⟨stage, slot, other⟩ | ⟨stage, -⟩
    · rw [stage, slot] at staged
      rcases other with none | other
      · rw [none] at same; cases same
      · exact other (staged.trans same.symm)
    · rw [stage] at staged; cases staged

/-- What the failover order gives is usable (R145). -/
theorem usable_of_fromOrder {k : LinkIx} (found : fromOrder s = some k) : s.usable k = true := by
  rcases (fromOrder_iff s (some k)).mpr found with ⟨_, _, _, _, usable, _⟩ | ⟨_, _, _, _, _, usable, _⟩ <;> exact usable

theorem usable_of_usableStaged {k : LinkIx} (staged : s.usableStaged = some k) : s.usable k = true :=
  ((stagedUsable_iff s k).mpr staged).2.2

/-- A successor is usable (R145). -/
theorem usable_of_successor {k : LinkIx} (found : successor s = some k) : s.usable k = true := by
  rcases (successor_iff s (some k)).mpr found with order | ⟨-, staged⟩
  · exact usable_of_fromOrder ((fromOrder_iff s _).mp order)
  · exact usable_of_usableStaged ((stagedUsable_iff s k).mp staged)

/-- The active link, no longer usable, gives way to the successor or to none (R144, R145). -/
theorem SelectorFormed.after_failover (h : SelectorFormed s) {cause : SwitchCause}
    (lost : ∀ k, s.active = some k → s.usable k = false) : SelectorSound (failover cause s).state := by
  refine h.after_choice (fun k found => usable_of_successor found) fun _ k active found => ?_
  have usable := usable_of_successor found
  rw [lost k active] at usable; cases usable

/-- In blackout, the recovery test (R146). -/
theorem SelectorSound.after_recoveryTest (h : SelectorSound s) : SelectorSound (recoveryTest s).state := by
  unfold recoveryTest
  split
  · exact h
  · next blackout =>
    split
    · next k staged => exact h.formed.after_commitStage staged
    · split
      · next k found =>
        refine h.formed.after_choice (fun j same => ?_) fun _ j active => ?_
        · cases same; exact usable_of_fromOrder found
        · rw [blackout] at active; cases active
      · exact h

/-! ### Stages (R140, R141) -/

theorem SelectorSound.after_fireTrigger (h : SelectorSound s) : SelectorSound (fireTrigger s).state := by
  unfold fireTrigger
  split
  · next k staged => exact h.formed.after_commitStage staged
  · have formed := h.formed
    have stays (f : Stage → Stage) : s.su.stage.map f = none ↔ s.su.stage = none := Option.map_eq_none_iff
    refine selectorSound_iff.mpr ⟨⟨formed.links, formed.paired.trans (stays _).symm, fun k staged => ?_, formed.nodup,
      formed.outside⟩, fun k active => h.usable active⟩
    refine formed.apart k ?_
    revert staged
    simp only [unswitched, Su.staged]
    cases s.su.stage <;> exact id

theorem SelectorSound.after_tellCs {r : Steered} (h : SelectorSound r.state) : SelectorSound (tellCs r) := by
  unfold tellCs
  split
  · exact h
  · exact h.same (csHandover_steering _ _ _)

theorem SelectorSound.after_steerIf (h : SelectorSound s) {b : Bool} {f : State → Steered}
    (steered : b = true → SelectorSound (f s).state) : SelectorSound (steerIf b f s) := by
  unfold steerIf
  split
  · next holds => exact (steered holds).after_tellCs
  · exact h

theorem SelectorSound.after_triggerMoment (h : SelectorSound s) {t : Trigger} : SelectorSound (triggerMoment t s) := by
  unfold triggerMoment
  split
  · exact h.after_steerIf fun _ => h.after_fireTrigger
  · exact h

/-! ### Link changes (R144) -/

/-- Row 1 restores what a link's change may have broken: where the active link is the changed one and no longer
usable, it is DOWN or OFF. -/
theorem SelectorFormed.after_failoverRow (h : SelectorFormed s) {k : LinkIx}
    (changed : ∀ j, s.active = some j → s.usable j = true ∨ (j = k ∧ (s.link k).health.dead = true)) :
    SelectorSound (failoverRow k s) := by
  unfold failoverRow steerIf
  split
  · next row =>
    simp only [Bool.and_eq_true, beq_iff_eq] at row
    obtain ⟨active, dead⟩ := row
    refine SelectorSound.after_tellCs (h.after_failover fun j hj => ?_)
    rw [active] at hj; cases hj
    refine usable_of_dead s k ?_
    cases health : (s.link k).health <;> rw [health] at dead <;> simp [Health.dead] at dead ⊢
  · next row =>
    refine selectorSound_iff.mpr ⟨h, fun j active => ?_⟩
    rcases changed j active with usable | ⟨rfl, dead⟩
    · exact usable
    · exact absurd (by simp [active, dead]) row

theorem SelectorSound.after_floorRow (h : SelectorSound s) {k : LinkIx} : SelectorSound (floorRow k s) := by
  unfold floorRow
  split
  · exact h.same rfl
  · exact h

theorem SelectorSound.after_drainRow (h : SelectorSound s) {k : LinkIx} : SelectorSound (drainRow k s) := by
  unfold drainRow
  split
  · exact (h.after_drain (List.filter_sublist.map _)).same (moveEntries_steering _ k)
  · exact h

theorem SelectorSound.after_stageRow (h : SelectorSound s) {k : LinkIx} : SelectorSound (stageRow k s) := by
  refine h.after_steerIf fun row => h.formed.after_commitStage ?_
  simp only [Bool.and_eq_true, beq_iff_eq] at row
  obtain ⟨waiting, staged⟩ := row
  obtain ⟨j, found⟩ := usableStaged_of_waiting waiting
  rw [staged_of_usableStaged found] at staged
  cases staged; exact found

theorem SelectorFormed.after_suLinkChanged (h : SelectorFormed s) {k : LinkIx}
    (changed : ∀ j, s.active = some j → s.usable j = true ∨ (j = k ∧ (s.link k).health.dead = true)) :
    SelectorSound (suLinkChanged k s) := by
  have settled := (h.after_failoverRow changed).after_floorRow (k := k) |>.after_drainRow (k := k)
    |>.after_stageRow (k := k)
  exact settled.after_steerIf fun _ => settled.after_recoveryTest

/-! ### Zone changes (R57, R144) -/

theorem SelectorSound.after_commitWaiting (h : SelectorSound s) : SelectorSound (commitWaiting s).state := by
  unfold commitWaiting
  split
  · next k staged =>
    split
    · exact h.formed.after_commitStage staged
    · exact h
  · exact h

/-- A WAITING stage whose link is usable commits. -/
theorem SelectorFormed.after_commitWaiting (h : SelectorFormed s) (waiting : s.waitingUsable = true) :
    SelectorSound (commitWaiting s).state := by
  obtain ⟨k, staged⟩ := usableStaged_of_waiting waiting
  simp only [commitWaiting, staged, waiting, if_true]
  exact h.after_commitStage staged

/-- SU handles a zone change: the active link carries, and may be outside the new mask. -/
theorem SelectorFormed.after_suZoneChanged (h : SelectorFormed s)
    (carries : ∀ k, s.active = some k → (s.link k).health.carries = true) :
    SelectorSound (suZoneChanged s).state := by
  unfold suZoneChanged
  split
  · next k active =>
    split
    · next mask =>
      refine SelectorSound.after_commitWaiting (selectorSound_iff.mpr ⟨h, fun j hj => ?_⟩)
      rw [active] at hj; cases hj
      simp only [State.usable, carries k active, mask, Bool.and_self]
    · next outside =>
      split
      · next waiting => exact h.after_commitWaiting waiting
      · refine h.after_failover fun j hj => ?_
        rw [active] at hj; cases hj
        simp only [State.usable, Bool.eq_false_iff.mpr outside, Bool.and_false]
  · next blackout =>
    split
    · next waiting => exact h.after_commitWaiting waiting
    · exact (h.sound_of_blackout blackout).after_recoveryTest

theorem enterZone_su (s : State) (d : ZoneIx) : (enterZone d s).su = s.su :=
  raise_su { s with zu := { s.zu with zoneIx := d, zone := s.zu.table[d], gen := s.zu.gen + 1 } } _ _

theorem SelectorSound.after_zoneChange (h : SelectorSound s) {d : ZoneIx} : SelectorSound (zoneChange d s) := by
  have entered : SelectorFormed (enterZone d s) := h.formed.same (enterZone_su s d) (enterZone_links s d)
  have steered : SelectorSound (suZoneChanged (enterZone d s)).state := by
    refine entered.after_suZoneChanged fun k active => ?_
    have link : (enterZone d s).link k = s.link k := by rw [State.link, enterZone_links]; rfl
    rw [State.active, enterZone_su] at active
    rw [link]
    exact (Bool.and_eq_true_iff.mp (h.usable active)).1
  exact steered.same (csHandover_steering _ _ _)

end

end Sys2Proof.Machine
end

section
/-! The links keep the selector sound (R119 to R132): probes, echoes, carrier changes and Write Link, each handed to
SU where a health changes. -/

namespace Sys2Proof.Machine

/-! ### Link records (R118, R126, R130) -/

section
variable {l : Link}

/-- A record is sound by its configuration, health, counts and outcomes alone (R117, R118). -/
theorem Link.Sound.same {m : Link} (h : l.Sound) (cfg : m.cfg = l.cfg) (health : m.health = l.health)
    (successes : m.successes = l.successes) (losses : m.losses = l.losses) (outcomes : m.outcomes = l.outcomes) :
    m.Sound := by
  simpa only [Link.Sound, cfg, health, successes, losses, outcomes] using h

theorem pushOutcome_length {xs : List ProbeOutcome} (few : xs.length ≤ 16) (o : ProbeOutcome) :
    (pushOutcome xs o).length ≤ 16 := by
  unfold pushOutcome
  split <;> simp <;> omega

theorem countTo_le (n : Nat) : countTo n ≤ 65535 := Nat.min_le_left ..

theorem Link.Sound.after_succeed (h : l.Sound) {x : Nat} : (l.succeed x).Sound := by
  obtain ⟨off, -, -, -, few⟩ := h
  exact ⟨off, .inr rfl, countTo_le _, Nat.zero_le _, pushOutcome_length few _⟩

theorem Link.Sound.after_lose (h : l.Sound) : l.lose.Sound := by
  obtain ⟨off, -, -, -, few⟩ := h
  exact ⟨off, .inl rfl, Nat.zero_le _, countTo_le _, pushOutcome_length few _⟩

/-- A link with its history cleared is sound in any state that agrees with enabled (R130). -/
theorem Link.sound_of_clear (off : l.health = .off ↔ l.cfg.enabled = false) (successes : l.successes = 0)
    (losses : l.losses = 0) (outcomes : l.outcomes = []) : l.Sound :=
  ⟨off, .inl successes, by omega, by omega, by simp [outcomes]⟩

/-- A link that is not OFF enters another state than OFF. -/
theorem Link.Sound.after_enter (h : l.Sound) (on : l.health ≠ .off) {x : Health} (other : x ≠ .off) :
    (l.enter x).Sound := by
  obtain ⟨off, one, successes, losses, few⟩ := h
  have enabled : l.cfg.enabled ≠ false := mt off.mpr on
  rw [Link.enter_eq]
  split
  · exact Link.sound_of_clear (iff_of_false other enabled) rfl rfl rfl
  · exact ⟨iff_of_false other enabled, one, successes, losses, few⟩

/-- A link takes a probe outcome to OFF from OFF only (R129). -/
theorem nextHealth_ne_off {o : ProbeOutcome} (on : l.health ≠ .off) : nextHealth l o ≠ .off := by
  unfold nextHealth
  split
  · next off => exact absurd off on
  · cases o <;> simp
  · cases o <;> simp; split <;> simp
  · split
    · simp
    · split <;> simp
  · split
    · simp
    · split <;> simp

/-- A link that carries goes on carrying or goes DOWN (R129). -/
theorem nextHealth_of_carries {o : ProbeOutcome} (carries : l.health.carries = true) :
    (nextHealth l o).carries = true ∨ nextHealth l o = .down := by
  have up : Health.up.carries = true := rfl
  have impaired : Health.impaired.carries = true := rfl
  by_cases fails : l.cfg.downCount ≤ l.losses
  · exact .inr (nextHealth_falls (by simpa [Health.carries] using carries) fails)
  · have holds := Nat.not_le.mp fails
    rcases (by simpa [Health.carries] using carries : l.health = .up ∨ l.health = .impaired) with on | on
    · rw [nextHealth_up on holds]; split <;> simp [up, impaired]
    · rw [nextHealth_impaired on holds]; split <;> simp [up, impaired]

end

/-! ### A change of health (R129 to R131) -/

section
variable {s : State} {k : LinkIx}

/-- A link's record is written, its health as it was. -/
theorem SelectorSound.after_setLink (h : SelectorSound s) {l : Link} (sound : l.Sound)
    (health : l.health = (s.link k).health) : SelectorSound (s.setLink k l) := by
  have formed := h.formed
  refine selectorSound_iff.mpr ⟨⟨fun j => ?_, formed.paired, formed.apart, formed.nodup, formed.outside⟩, fun j active => ?_⟩
  · rw [State.setLink_link]
    split
    · exact sound
    · exact formed.links j
  · have same : ((s.setLink k l).link j).health = (s.link j).health := by
      rw [State.setLink_link]
      split
      · next e => subst e; exact health
      · rfl
    simpa only [State.usable, same, State.setLink_zu] using h.usable active

/-- A link's record is written, its health another: the active link stays usable, but for the changed one that goes
DOWN or OFF. -/
theorem SelectorSound.setLink_changed (h : SelectorSound s) {l : Link} (sound : l.Sound)
    (change : l.health.carries = true ∨ l.health.dead = true ∨ s.active ≠ some k) :
    SelectorFormed (s.setLink k l) ∧ ∀ j, (s.setLink k l).active = some j →
      (s.setLink k l).usable j = true ∨ (j = k ∧ ((s.setLink k l).link k).health.dead = true) := by
  have formed := h.formed
  refine ⟨⟨fun j => ?_, formed.paired, formed.apart, formed.nodup, formed.outside⟩, fun j active => ?_⟩
  · rw [State.setLink_link]
    split
    · exact sound
    · exact formed.links j
  · have active : s.active = some j := active
    have usable := h.usable active
    by_cases same : k = j
    · subst same
      simp only [State.usable, State.setLink_link, if_true, State.setLink_zu, Bool.and_eq_true] at usable ⊢
      rcases change with carries | dead | other
      · exact .inl ⟨carries, usable.2⟩
      · exact .inr ⟨trivial, dead⟩
      · exact absurd active other
    · simp only [State.usable, State.setLink_link, if_neg same, State.setLink_zu]
      exact .inl usable

/-- The event of a change of health counts a fault, and changes nothing else of the steering state (R131). -/
theorem healthEvent_spec (s : State) (k : LinkIx) (before after : Health) :
    (healthEvent k before after s).su = s.su ∧ (healthEvent k before after s).zu = s.zu
    ∧ ∃ n, (healthEvent k before after s).links = (s.setLink k { s.link k with faults := n }).links := by
  have uncounted : (s.setLink k { s.link k with faults := (s.link k).faults }).links = s.links :=
    congrArg State.links (s.setLink_self k)
  rcases healthEvent_cases s k before after with ⟨-, e⟩ | ⟨-, e⟩ | ⟨-, -, e⟩ <;> rw [e]
  · exact ⟨rfl, rfl, (s.link k).faults, uncounted.symm⟩
  · exact ⟨by simp, by simp, (s.link k).faults + 1, by simp⟩
  · exact ⟨by simp, by simp, (s.link k).faults, by rw [raise_links, uncounted]⟩

/-- A link's record is written with its event, and the change handed to SU (R120, R131). -/
theorem SelectorSound.after_change (h : SelectorSound s) {l : Link} (sound : l.Sound)
    (change : l.health.carries = true ∨ l.health.dead = true ∨ s.active ≠ some k) {before after : Health} :
    SelectorSound (suLinkChanged k (healthEvent k before after (s.setLink k l))) := by
  obtain ⟨su, zu, n, links⟩ := healthEvent_spec (s.setLink k l) k before after
  have counted : ({ l with faults := n } : Link).Sound := sound.same rfl rfl rfl rfl rfl
  obtain ⟨formed, changed⟩ := h.setLink_changed (k := k) counted change
  have written : (s.setLink k l).setLink k { (s.setLink k l).link k with faults := n }
      = s.setLink k { l with faults := n } := by
    rw [State.setLink_setLink, State.setLink_link, if_pos rfl]
  rw [written] at links
  have same : (healthEvent k before after (s.setLink k l)).steering = (s.setLink k { l with faults := n }).steering :=
    State.steering_congr su links (congrArg Zu.zone zu)
  refine (formed.same (steering_su same) (steering_links same)).after_suLinkChanged fun j active => ?_
  rw [steering_usable same, steering_link same]
  exact changed j (steering_active same ▸ active)

theorem SelectorSound.after_changeHealth (h : SelectorSound s) {x : Health} (on : (s.link k).health ≠ .off)
    (other : x ≠ .off) (change : x.carries = true ∨ x.dead = true ∨ s.active ≠ some k) :
    SelectorSound (changeHealth k x s) := by
  have entered : ((s.link k).enter x).health = x := by rw [Link.enter_eq]; split <;> rfl
  simp only [changeHealth]
  split
  · exact h
  · exact h.after_change ((h.formed.links k).after_enter on other) (by rw [entered]; exact change)

/-- A link takes a probe outcome; an active one carries. -/
theorem SelectorSound.after_evaluate (h : SelectorSound s) {o : ProbeOutcome} : SelectorSound (evaluate k o s) := by
  unfold evaluate
  by_cases off : (s.link k).health = .off
  · rw [changeHealth_same ((nextHealth_off off).trans off.symm)]
    exact h
  · refine h.after_changeHealth off (nextHealth_ne_off off) ?_
    by_cases active : s.active = some k
    · rcases nextHealth_of_carries (o := o) (Bool.and_eq_true_iff.mp (h.usable active)).1 with carries | down
      · exact .inl carries
      · exact .inr (.inl (by rw [down]; rfl))
    · exact .inr (.inr active)

end

/-! ### Probes, echoes and carriers (R122 to R124, R132) -/

section
variable {s : State} {k : LinkIx}

theorem SelectorSound.after_loseOutstanding (h : SelectorSound s) : SelectorSound (loseOutstanding k s) := by
  unfold loseOutstanding
  split
  · exact h
  · refine SelectorSound.after_evaluate ?_
    exact h.after_setLink ((h.formed.links k).after_lose.same rfl rfl rfl rfl rfl) rfl

theorem SelectorSound.after_buildProbe (h : SelectorSound s) : SelectorSound (buildProbe k s) := by
  have sound := h.formed.links k
  simp only [buildProbe]
  split
  · refine SelectorSound.after_offerControl ?_
    exact h.after_setLink (sound.same rfl rfl rfl rfl rfl) rfl
  · exact h.after_setLink (sound.same rfl rfl rfl rfl rfl) rfl

theorem SelectorSound.after_probeTime (h : SelectorSound s) : SelectorSound (probeTime k s) := by
  unfold probeTime
  split
  · exact h
  · exact h
  · split
    · have built := h.after_loseOutstanding (k := k) |>.after_buildProbe (k := k)
      exact built.after_setLink ((built.formed.links k).same rfl rfl rfl rfl rfl) rfl
    · exact h

theorem SelectorSound.after_echoIn (h : SelectorSound s) {port : Fin 4} {a n : Num16} :
    SelectorSound (echoIn port a n s) := by
  unfold echoIn
  split
  · exact h.same rfl
  · next k _ =>
    have sound := h.formed.links k
    simp only [echoOf]
    split
    · exact h.after_setLink (sound.same rfl rfl rfl rfl rfl) rfl
    · next m sent _ =>
      split
      · refine SelectorSound.after_evaluate ?_
        exact h.after_setLink ((sound.after_succeed (x := elapsed s.now sent)).same rfl rfl rfl rfl rfl) rfl
      · exact h.after_setLink (sound.same rfl rfl rfl rfl rfl) rfl

theorem SelectorSound.after_carrierLost (h : SelectorSound s) {port : Fin 4} : SelectorSound (carrierLost port s k) := by
  simp only [carrierLost]
  split
  · next bound =>
    have written : SelectorSound (s.setLink k { s.link k with outstanding := none }) :=
      h.after_setLink ((h.formed.links k).same rfl rfl rfl rfl rfl) rfl
    have on : ((s.setLink k { s.link k with outstanding := none }).link k).health ≠ .off := by
      simpa using (Bool.and_eq_true_iff.mp bound).2
    split
    · exact written
    · exact written.after_changeHealth on (by decide) (.inr (.inl rfl))
  · exact h

theorem SelectorSound.after_shoreCarrierDown (h : SelectorSound s) {port : Fin 4} :
    SelectorSound (shoreCarrierDown port s) := by
  unfold shoreCarrierDown
  split
  · dsimp only
    split
    · exact h.same rfl
    · exact List.foldlRecOn _ _ (h.same (by simp)) fun _ sound _ _ => sound.after_carrierLost
  · exact h

/-! ### Write Link (R119, R120) -/

theorem Link.sound_written (l : Link) (cfg : LinkConfig) (now : Time) : (writtenLink l cfg now).Sound :=
  Link.sound_of_clear (by cases h : cfg.enabled <;> simp [writtenLink, h]) rfl rfl rfl

theorem writtenLink_dead (l : Link) (cfg : LinkConfig) (now : Time) : (writtenLink l cfg now).health.dead = true := by
  cases h : cfg.enabled <;> simp [writtenLink, h, Health.dead]

theorem SelectorSound.after_writeLink (h : SelectorSound s) {a : LinkArgs} : SelectorSound (writeLink a s).2 := by
  unfold writeLink
  split
  · exact h.after_change (Link.sound_written ..) (.inr (.inl (writtenLink_dead ..)))
  · exact h

/-! ### Requests that steer (R61, R139, R142, R143) -/

theorem SelectorSound.after_reloadZone (h : SelectorSound s) : SelectorSound (reloadZone s).2 := by
  unfold reloadZone
  split
  · exact h.after_zoneChange
  · exact h

/-- A stage on another link than the active one fills slot and stage together (R139). -/
theorem SelectorSound.after_writeStage (h : SelectorSound s) {t : Trigger} (other : s.active ≠ some k) :
    SelectorSound (writeStage k t s) := by
  have formed := h.formed
  have active : (writeStage k t s).active = s.active := by
    show (s.su.setSlot s.su.inForce.other (some k)).slot (s.su.setSlot s.su.inForce.other (some k)).inForce = _
    rw [Su.setSlot_inForce, Su.setSlot_slot, if_neg s.su.inForce.other_ne]; rfl
  have slot : (writeStage k t s).su.slot (writeStage k t s).su.inForce.other = some k := by
    show (s.su.setSlot s.su.inForce.other (some k)).slot (s.su.setSlot s.su.inForce.other (some k)).inForce.other = _
    rw [Su.setSlot_inForce, Su.setSlot_slot, if_pos rfl]
  have drain : (writeStage k t s).su.drain = s.su.drain := Su.setSlot_drain ..
  refine selectorSound_iff.mpr ⟨⟨formed.links, ?_, fun j staged => ?_, drain ▸ formed.nodup, ?_⟩, fun j hj => ?_⟩
  · rw [slot]; exact iff_of_false nofun nofun
  · have staged : (writeStage k t s).su.slot (writeStage k t s).su.inForce.other = some j := staged
    rw [slot] at staged; cases staged
    rw [active]; exact other
  · rw [active, drain]; exact formed.outside
  · rw [active] at hj; exact h.usable hj

theorem SelectorSound.after_stageLink (h : SelectorSound s) {link trigger : Byte} :
    SelectorSound (stageLink link trigger s).2 := by
  unfold stageLink
  split
  · next k t _ _ =>
    split
    · exact h
    · next other =>
      have triggered : SelectorSound (triggerMoment .now (writeStage k t s)) :=
        (h.after_writeStage (by simpa using other)).after_triggerMoment
      exact triggered.after_steerIf fun _ => triggered.after_recoveryTest
  · exact h

/-- SU with the staged slot EMPTY and the stage absent (R142). -/
theorem SelectorSound.after_unstage (h : SelectorSound s) :
    SelectorSound { s with su := (s.su.setSlot s.su.inForce.other none).unstaged } := by
  have formed := h.formed
  have active : State.active { s with su := (s.su.setSlot s.su.inForce.other none).unstaged } = s.active := by
    simp [State.active, Su.active]
  refine selectorSound_iff.mpr ⟨⟨formed.links, by simp, fun _ => nofun, by simpa using formed.nodup, ?_⟩, fun k hk => ?_⟩
  · rw [active, Su.unstaged_drain, Su.setSlot_drain]; exact formed.outside
  · rw [active] at hk; exact h.usable hk

theorem SelectorSound.after_cancelStage (h : SelectorSound s) : SelectorSound (cancelStage s).2 := by
  unfold cancelStage
  split
  · exact h
  · exact h.after_unstage

theorem SelectorSound.after_setFailoverOrder (h : SelectorSound s) {order : List Byte} :
    SelectorSound (setFailoverOrder order s).2 := by
  unfold setFailoverOrder
  split
  · exact h
  · split
    · exact h
    · next ks _ =>
      have listed : SelectorSound { s with su := { s.su with order := ks } } := h
      exact listed.after_steerIf fun _ => listed.after_recoveryTest

end

end Sys2Proof.Machine
end

section
/-! Every frame, request and step keeps the selector sound (R137, R138, R150). -/

namespace Sys2Proof.Machine

variable {s t : State}

/-! ### Selection and completion (R16 to R18, R133, R150) -/

theorem SelectorSound.after_offerSelected (h : SelectorSound s) {p : Port} {b : EntryBody} :
    SelectorSound (offerSelected p b s) := by
  unfold offerSelected
  split
  · exact h.same rfl
  · next u k =>
    have metered := meter_steering s u .uplink (transmissionMultiplier s (.up u k))
    split
    · next outcome => rw [outcome] at metered; exact h.same metered
    · next t outcome =>
      rw [outcome] at metered
      have sound : SelectorSound t := h.same metered
      refine SelectorSound.same (SelectorSound.after_setLink sound ?_ ?_) (transmit_steering _ _ _ _)
      · exact (sound.formed.links k).same rfl rfl rfl rfl rfl
      · rfl
  · next u m dst =>
    have metered := meter_steering s u .downlink (transmissionMultiplier s (.down u m dst))
    split <;> next outcome => rw [outcome] at metered; exact h.same metered

theorem SelectorSound.after_entrySelection (h : SelectorSound s) {p : Port} : SelectorSound (entrySelection p s) := by
  unfold entrySelection
  split
  · split
    · next q _ => exact (h.same (setQueue_steering s p q)).after_offerSelected
    · exact h
  · exact h

theorem SelectorSound.after_transmissionCompletion (h : SelectorSound s) {p : Port} :
    SelectorSound (transmissionCompletion p s) := by
  unfold transmissionCompletion
  split
  · exact h
  · have freed : SelectorSound
        (s.setPort p { s.port p with sending := none, transmitted := (s.port p).transmitted + 1 }) := h.same rfl
    unfold reportCompletion
    split
    · exact freed.same (usageCompleted_steering _)
    · exact freed.after_leaveDrain
    · exact freed.same rfl
    · exact freed

/-! ### Positions and the clock (R24, R46 to R52, R63) -/

theorem SelectorSound.after_confirm (h : SelectorSound s) {c : ZoneIx} : SelectorSound (confirm c s) := by
  unfold confirm
  split
  · exact h.same rfl
  · split
    · exact h.after_zoneChange.same rfl
    · exact h.same rfl

theorem SelectorSound.after_enterAtOnce (h : SelectorSound s) {c : ZoneIx} : SelectorSound (enterAtOnce c s) := by
  unfold enterAtOnce
  split
  · exact h.same rfl
  · exact h.after_zoneChange.same rfl

theorem SelectorSound.after_testWaypoint (h : SelectorSound s) {i : WaypointId} {before after : Nat} :
    SelectorSound (testWaypoint i before after s) := by
  simp only [testWaypoint]
  split
  · have fired : SelectorSound ((raise .waypoint (some (.waypoint i)) s).setWaypoint i
        { s.zu.waypoint i with armed := false }) := h.same (by simp)
    split
    · exact fired.after_triggerMoment
    · exact fired
  · exact h

theorem SelectorSound.after_acceptReport (h : SelectorSound s) {a : Nat} {x : Int} {q : Quality} {fix : Time} :
    SelectorSound (acceptReport a x q fix s) := by
  have taken : SelectorSound (zoneFault a x (acceptPosition a x q fix s)) :=
    h.same (zoneFault_steering _ a x)
  simp only [acceptReport]
  split
  · exact taken.after_enterAtOnce
  · exact taken.after_confirm.after_testWaypoint.after_testWaypoint

theorem SelectorSound.after_positionReport (h : SelectorSound s) {a : PositionArgs} :
    SelectorSound (positionReport a s).2 := by
  unfold positionReport
  split
  · split
    · exact h
    · dsimp only [takeReport]
      split
      · exact h
      · split
        · exact h.same rfl
        · exact h.after_acceptReport
  · exact h

theorem SelectorSound.after_lostDeadline (h : SelectorSound s) : SelectorSound (lostDeadline s) := by
  unfold lostDeadline
  split
  · split
    · refine SelectorSound.after_zoneChange (h.same ?_)
      rw [setCandidate_steering, raise_steering]; rfl
    · exact h
  · exact h

theorem SelectorSound.after_epochBoundary (h : SelectorSound s) : SelectorSound (epochBoundary s) := by
  unfold epochBoundary
  split
  · exact (h.same (t := ageHold (nextEpoch s)) rfl).after_triggerMoment
  · exact h

/-! ### Resets (R135, R136, R153, R183, R184) -/

theorem Link.Sound.after_warm {l : Link} (h : l.Sound) (now : Time) : (l.warm now).Sound := by
  by_cases off : l.health = .off
  · rw [Link.warm_off now off]
    exact h.same rfl rfl rfl rfl rfl
  · rw [Link.warm_on now off]
    exact Link.sound_of_clear (iff_of_false nofun (mt h.1.mpr off)) rfl rfl rfl

/-- With SU as a reset leaves it there is no active link, no stage and no drain set (R153). -/
theorem selectorSound_of_warm {su : Su} (links : ∀ k, (s.link k).Sound) (reset : s.su = su.warm) : SelectorSound s := by
  have active : s.active = none := by rw [State.active, reset]; rfl
  refine SelectorFormed.sound_of_blackout ⟨links, ?_, fun k => ?_, ?_, fun m hm => ?_⟩ active
  · rw [reset]; exact iff_of_true rfl rfl
  · rw [reset]; exact nofun
  · rw [reset]; exact List.nodup_nil
  · rw [reset] at hm; cases hm

theorem SelectorSound.after_resetWarm (h : SelectorSound s) : SelectorSound (resetWarm s).2 := by
  unfold resetWarm
  dsimp only
  refine selectorSound_of_warm (fun k => ?_) (warmReset_su s)
  rw [warmReset_link]
  exact (h.formed.links k).after_warm _

/-- A cold part has every link OFF (R135). -/
theorem selectorSound_coldState (b : Bool) (s : State) : SelectorSound (coldState b s) := by
  refine selectorSound_of_warm (su := Su.cold) (fun k => ?_) rfl
  have cold : (coldState b s).link k = Link.cold := by simp [State.link, coldState, State.reset]
  rw [cold]
  exact Link.sound_of_clear (iff_of_true rfl rfl) rfl rfl rfl

theorem SelectorSound.after_coldReset (h : SelectorSound s) {c : ColdCause} : SelectorSound (coldReset c s) := by
  unfold coldReset
  split
  · exact selectorSound_coldState _ s
  · split
    · exact selectorSound_coldState _ s
    · exact h
  · split
    · exact selectorSound_coldState _ s
    · exact h

/-! ### A request or frame that arrives (R1, R5, R173) -/

theorem SelectorSound.after_arrive (h : SelectorSound s) {p : Port} {f : State → State}
    (taken : ∀ t, SelectorSound t → SelectorSound (f t)) : SelectorSound (arrive p f s) := by
  by_cases receives : Receives s p
  · rw [arrive_of_receives s f receives]
    exact taken _ (h.same rfl)
  · rw [arrive_of_not_receives s f receives]; exact h

theorem SelectorSound.after_respond (h : SelectorSound s) {rq : Request} {code : Byte} {r : Reply} :
    SelectorSound (respond rq code r s) := h.same (respond_steering s rq code r)

theorem SelectorSound.after_handle (h : SelectorSound s) {rq : Request} {cmd : Command}
    {body : State → Reply × State} (rule : SelectorSound (body s).2) : SelectorSound (handle rq cmd body s) := by
  simp only [handle]
  split
  · exact h.after_respond
  split
  · exact h.after_respond
  split
  · exact h.after_respond
  · exact rule.after_respond

theorem SelectorSound.after_ask (h : SelectorSound s) {rq : Request} {cmd : Command} {body : State → Reply × State}
    (rule : ∀ t, SelectorSound t → SelectorSound (body t).2) : SelectorSound (ask rq cmd body s) := by
  refine h.after_arrive fun t h => ?_
  unfold admitRequest
  split
  · exact h.same rfl
  · exact h.after_handle (rule t h)

/-- A request whose rule does not steer. -/
theorem SelectorSound.after_ask_frame (h : SelectorSound s) {rq : Request} {cmd : Command}
    {body : State → Reply × State} (same : ∀ t, (body t).2.steering = t.steering) : SelectorSound (ask rq cmd body s) :=
  h.after_ask fun t h => h.same (same t)

theorem SelectorSound.after_reset (h : SelectorSound s) {p : Port} {kind : Byte} : SelectorSound (reset p kind s).2 := by
  unfold reset
  split
  · exact h.same rfl
  · exact h.after_resetWarm
  · exact h

/-- Every command that a code can name keeps the selector sound. -/
theorem SelectorSound.after_bodyOf (h : SelectorSound s) {p : Port} {xs : List Item} {cmd : Command} :
    SelectorSound (bodyOf p xs cmd s).2 := by
  cases cmd with
  | positionReport => exact h.after_positionReport
  | reloadZone => exact h.after_reloadZone
  | writeLink => exact h.after_writeLink
  | stageLink => exact h.after_stageLink
  | cancelStage => exact h.after_cancelStage
  | setFailoverOrder => exact h.after_setFailoverOrder
  | reset => exact h.after_reset
  | readStatus | readEvents | readCounters => exact h.same rfl
  | _ => exact h.same (by simp [bodyOf])

theorem SelectorSound.after_admitted (h : SelectorSound s) {rq : Request} {code : Byte} {xs : List Item} :
    SelectorSound (admitRequest rq (meRequest rq code xs) s) := by
  unfold admitRequest
  split
  · exact h.same rfl
  · unfold meRequest
    split
    · exact h.after_respond
    · exact h.after_handle h.after_bodyOf

theorem SelectorSound.after_takeIn (h : SelectorSound s) {p : Port} {bs : List Byte} :
    SelectorSound (takeIn p bs s) := by
  unfold takeIn
  split
  · exact h.same rfl
  · unfold passOn
    split
    · exact h.same (bearerIn_steering s _ _ _)
    · exact h.same (radioStatusIn_steering s _ _ _)
    · exact h.same (linkFrameIn_steering s _ _ _)
    · exact h.after_echoIn
    · exact h.after_admitted
    · exact h.same rfl

theorem SelectorSound.after_unlessHeld (h : SelectorSound s) {f : State → State} (step : SelectorSound (f s)) :
    SelectorSound (unlessHeld f s) := by
  unfold unlessHeld
  split
  · exact h
  · exact step

/-- The END marker is recorded as placed, and offered (R149). -/
theorem SelectorSound.after_placeEndMarker (h : SelectorSound s) {k : LinkIx} : SelectorSound (placeEndMarker k s) := by
  unfold placeEndMarker
  split
  · exact h
  · refine SelectorSound.after_offerControl (h.after_drain ?_)
    have same (n : Member) : (if n.link == k then { n with endPlaced := true } else n).link = n.link := by split <;> rfl
    rw [List.map_map, show Member.link ∘ (fun n : Member => if n.link == k then { n with endPlaced := true } else n)
      = Member.link from funext same]

/-! ### Every command -/

theorem SelectorSound.after_exec (h : SelectorSound s) {i : Instr} (e : exec i s = .next t) : SelectorSound t := by
  cases i with
  | badFrame => cases e; exact h.after_arrive fun _ h => h.after_takeIn
  | bearerUplinkIntake | linkFrameIntake | radioStatus =>
    cases e; exact h.after_arrive fun _ h => h.same (by simp)
  | echo => cases e; exact h.after_arrive fun _ h => h.after_echoIn
  | badCommand => cases e; exact h.after_arrive fun _ h => h.after_admitted
  | positionReport => cases e; exact h.after_ask fun _ h => h.after_positionReport
  | reloadZone => cases e; exact h.after_ask fun _ h => h.after_reloadZone
  | writeLink => cases e; exact h.after_ask fun _ h => h.after_writeLink
  | stageLink => cases e; exact h.after_ask fun _ h => h.after_stageLink
  | cancelStage => cases e; exact h.after_ask fun _ h => h.after_cancelStage
  | setFailoverOrder => cases e; exact h.after_ask fun _ h => h.after_setFailoverOrder
  | resetWarm => cases e; exact h.after_ask fun _ h => h.after_resetWarm
  | readStatus | readEvents | readCounters | resetCold => cases e; exact h.after_ask_frame fun _ => rfl
  | createContext | modifyContext | suspendContext | resumeContext | topUp | releaseContext | readContext | findContext
  | readZone | readLink | readRadioUnit | closePeriod | writeZone | armWaypoint | disarmWaypoint | writeRadioUnit
  | setFloor | openAttach | configure | clearEvents =>
    cases e; exact h.after_ask_frame (by simp)
  | coldReset => cases e; exact h.after_coldReset
  | epochBoundary => cases e; exact h.after_unlessHeld h.after_epochBoundary
  | lostDeadline => cases e; exact h.after_unlessHeld h.after_lostDeadline
  | probeTime => cases e; exact h.after_unlessHeld h.after_probeTime
  | entrySelection => cases e; exact h.after_unlessHeld h.after_entrySelection
  | transmissionCompletion => cases e; exact h.after_unlessHeld h.after_transmissionCompletion
  | endMarker => cases e; exact h.after_unlessHeld h.after_placeEndMarker
  | staleDeadline | graceExpiry | heartbeatTime | livenessDeadline | usageFrameBuild | holdDrainMove | sweepVisit
  | periodSummary => cases e; exact h.after_unlessHeld (h.same (by simp))
  | shoreCarrierDown => cases e; exact h.after_shoreCarrierDown
  | cellCarrierChange => cases e; exact h.same (by simp)
  | shoreCarrierUp | resetInputAsserted => cases e; exact h.same rfl

theorem SelectorSound.after_idle (h : SelectorSound s) : SelectorSound (idle s) := by
  unfold idle
  split
  · exact h
  · split <;> exact h.same rfl

/-- Settles O7: every command keeps the selector sound (`SelectorSound.after_exec`), and an idle step does not
steer. -/
theorem stepKeepsSelectorSound : Obligations.StepKeepsSelectorSound := by
  intro s t sound e
  unfold step at e
  split at e
  · cases e; exact sound.after_idle
  · next i is _ =>
    have waiting : SelectorSound (s.withPending is) := sound.same rfl
    exact waiting.after_exec e

end Sys2Proof.Machine
end

section
/-! The END marker of a draining link (R149). -/

namespace Sys2Proof.Machine

section
variable {s : State} {k : LinkIx}

/-- The member whose marker is due is one of the link, its marker not placed. -/
theorem endDue_eq_some {m : Member} (due : endDue k s = some m) : m ∈ s.su.drain ∧ m.link = k ∧ m.endPlaced = false := by
  have test := List.find?_some due
  simp only [Bool.and_eq_true, beq_iff_eq, Bool.not_eq_true'] at test
  exact ⟨List.mem_of_find?_eq_some due, test.1.1, test.1.2⟩

/-- None is due with every marker of the link placed, or with an entry of it queued. -/
theorem endDue_eq_none (no : (∀ m ∈ s.su.drain, m.link = k → m.endPlaced = true)
      ∨ ∃ x ∈ (s.port (.shore (s.link k).cfg.port)).queue, ∃ e, x.body = .up e k) : endDue k s = none := by
  refine Option.not_isSome_iff_eq_none.mp fun due => ?_
  obtain ⟨⟨m, hm, link, unplaced⟩, clear⟩ := (endDue_isSome_iff s k).mp due
  rcases no with placed | ⟨x, hx, e, label⟩
  · rw [placed m hm link] at unplaced; cases unplaced
  · exact clear x hx e label

end

/-- Settles O48: the member that is due is the link's only one; with none due nothing is placed. -/
theorem endMarkerFollowsLastEntry : Obligations.EndMarkerFollowsLastEntry := by
  intro s k free l queue
  refine ⟨fun m hm link unplaced only clear => ?_, fun no => ?_⟩
  · have isDue : Due s (.endMarker k) := ⟨⟨m, hm, link, unplaced⟩, clear⟩
    obtain ⟨n, due⟩ := Option.isSome_iff_exists.mp ((endDue_isSome_iff s k).mpr isDue)
    obtain ⟨hn, linkN, -⟩ := endDue_eq_some due
    obtain rfl := only n hn linkN
    have members : (s.su.drain.map fun x => if x.link == k then { x with endPlaced := true } else x)
        = s.su.drain.map fun x => if x = n then { x with endPlaced := true } else x := by
      refine List.map_congr_left fun x hx => if_congr ?_ rfl rfl
      rw [beq_iff_eq]
      exact ⟨only x hx, fun same => same ▸ link⟩
    refine unlessHeld_next free ?_
    simp only [placeEndMarker, due, members, endMarkerOf, link]
    rfl
  · refine unlessHeld_next free ?_
    rw [placeEndMarker, endDue_eq_none no]

end Sys2Proof.Machine
end

section
/-! Moves of a link's entries (R151, R156), and the steps of a switch one by one (R147 to R149). -/

namespace Sys2Proof.Machine

/-! ### A move (R151, R156) -/

theorem labelled_eq (k : LinkIx) (q : List Entry) : labelled k q = q.filterMap fun x => match x.body with
    | .up u l => if l = k then some u else none
    | _ => none := by
  refine congrArg (List.filterMap · q) (funext fun x => ?_)
  obtain ⟨body, placed⟩ := x
  cases body with
  | up u l => exact if_congr beq_iff_eq rfl rfl
  | down | control => rfl

section
variable {s : State} {k : LinkIx}

theorem takeOut_shore (s : State) (k : LinkIx) (p : Fin 4) : (takeOut k s).port (.shore p)
    = { s.port (.shore p) with queue := withoutLabel k (s.port (.shore p)).queue } := takeOut_port s k (.shore p)

theorem moveEntries_blackout (blackout : s.active = none) :
    moveEntries k s = returnBatch (entriesOf k s) (takeOut k s) := by
  have active : (takeOut k s).active = none := blackout
  simp only [moveEntries, active]

/-- How many of the entries of `k` find room on the port of `new`, without those that leave it (R151). -/
def roomFor (k new : LinkIx) (s : State) : Nat :=
  min (entriesOf k s).length (512 - (withoutLabel k (s.port (.shore (s.link new).cfg.port)).queue).length)

/-- The entries of `k` out of their queues, and those that find room at the tail of `new`'s, relabelled (R151). -/
def joined (k new : LinkIx) (s : State) : State :=
  (takeOut k s).setQueue (.shore (s.link new).cfg.port)
    (withoutLabel k (s.port (.shore (s.link new).cfg.port)).queue
      ++ ((entriesOf k s).take (roomFor k new s)).map fun u => { body := .up u new, placed := s.me.clock })

theorem joined_port (s : State) (k new : LinkIx) (q : Port) : (joined k new s).port q
    = if .shore (s.link new).cfg.port = q then { s.port (.shore (s.link new).cfg.port) with
        queue := withoutLabel k (s.port (.shore (s.link new).cfg.port)).queue
          ++ ((entriesOf k s).take (roomFor k new s)).map fun u => { body := .up u new, placed := s.me.clock } }
      else (takeOut k s).port q := by
  rw [joined, State.setQueue_port, takeOut_shore]

theorem moveEntries_active {new : LinkIx} (active : s.active = some new) :
    moveEntries k s = returnBatch ((entriesOf k s).drop (roomFor k new s)) (joined k new s) := by
  have still : (takeOut k s).active = some new := active
  have moved : moveEntries k s = moveTo new false (entriesOf k s) (takeOut k s) := by
    simp only [moveEntries, still]
  have placed := moveTo_eq (takeOut k s) new (entriesOf k s)
  simp only [show (takeOut k s).link new = s.link new from rfl, takeOut_shore] at placed
  exact moved.trans placed

/-- A batch returned with the queues written: what fits, in its place, and the rest dropped (R151, R156). -/
theorem returnBatch_written {t : State} {ports : Vector PortState 8} {es : List UserEntry}
    (ends : t = returnBatch es { s with ports := ports }) :
    ∃ m, m ≤ es.length
    ∧ (m = 0 ∨ (s.cs.hold.length + m ≤ 1024 ∧ bytesOf s.cs.hold + bytesOf (es.take m) ≤ 1572864))
    ∧ (m = es.length ∨ 1024 < s.cs.hold.length + (m + 1) ∨ 1572864 < bytesOf s.cs.hold + bytesOf (es.take (m + 1)))
    ∧ t = { s with
          ports := t.ports
          cs := { s.cs with hold := (es.take m).foldl (fun h e => insertByIntake e h) s.cs.hold }
          tc := { s.tc with
            drops := s.tc.drops.set (dropIx .holdFull .uplink)
              (s.dropCount .holdFull .uplink + BitVec.ofNat 32 (es.length - m)) } } := by
  subst ends
  exact returnBatch_spec { s with ports := ports } es

end

/-! ### A returned entry in its place (R156) -/

theorem insertByIntake_last {e : UserEntry} {h : List UserEntry} (earlier : ∀ y ∈ h, y.intake.toNat ≤ e.intake.toNat) :
    insertByIntake e h = h ++ [e] := by
  induction h with
  | nil => rfl
  | cons x xs ih =>
    obtain ⟨first, rest⟩ := List.forall_mem_cons.mp earlier
    rw [insertByIntake, if_neg (by omega), ih rest]; rfl

theorem insertByIntake_before {e x : UserEntry} {pre post : List UserEntry}
    (earlier : ∀ y ∈ pre, y.intake.toNat ≤ e.intake.toNat) (later : e.intake.toNat < x.intake.toNat) :
    insertByIntake e (pre ++ x :: post) = pre ++ e :: x :: post := by
  induction pre with
  | nil => exact if_pos later
  | cons y ys ih =>
    obtain ⟨first, rest⟩ := List.forall_mem_cons.mp earlier
    rw [List.cons_append, insertByIntake, if_neg (by omega), ih rest]; rfl

/-! ### No entry of a link (R149, R151) -/

/-- The queues of the shore ports hold no user entry of the link. -/
def Unlabelled (k : LinkIx) (s : State) : Prop := ∀ p, ∀ x ∈ (s.port (.shore p)).queue, ∀ u, x.body ≠ .up u k

section
variable {s : State} {k : LinkIx}

theorem hasLabel_iff (k : LinkIx) (x : Entry) : x.hasLabel k = true ↔ ∃ u, x.body = .up u k := by
  obtain ⟨body, placed⟩ := x
  cases body <;> simp [Entry.hasLabel]

/-- A control entry that is offered brings no user entry. -/
theorem Unlabelled.after_offerControl (h : Unlabelled k s) {p : Port} {c : Control} :
    Unlabelled k (offerControl p c s) := by
  intro q x hx u
  rcases offerControl_cases s p c with ⟨-, e⟩ | ⟨-, y, r, taken, e⟩ | ⟨-, -, e⟩ <;> rw [e] at hx
  · rw [place_port] at hx
    split at hx
    · next same =>
      subst same
      rcases List.mem_append.mp hx with old | new
      · exact h q x old u
      · rw [List.mem_singleton.mp new]; exact nofun
    · exact h q x hx u
  · obtain ⟨pre, post, queue, rfl, -⟩ := displacedEntry_split _ _ _ taken
    rw [place_port] at hx
    split at hx
    · next same =>
      subst same
      rw [drop_port, State.setQueue_port, if_pos rfl] at hx
      rcases List.mem_append.mp hx with old | new
      · refine h q x ?_ u
        rw [queue]
        rcases List.mem_append.mp old with old | old
        · exact List.mem_append_left _ old
        · exact List.mem_append_right _ (List.mem_cons_of_mem _ old)
      · rw [List.mem_singleton.mp new]; exact nofun
    · next other =>
      rw [drop_port, State.setQueue_port, if_neg other] at hx
      exact h q x hx u
  · rw [controlDropped_port] at hx
    exact h q x hx u

theorem Unlabelled.after_raise (h : Unlabelled k s) {j : EventKind} {d : Option Detail} : Unlabelled k (raise j d s) := by
  by_cases noticed : s.me.noticeFloor < (s.event j).level ∧ s.me.noticeDest.isSome = true
  · obtain ⟨⟨p, a⟩, dest⟩ := Option.isSome_iff_exists.mp noticed.2
    have written : Unlabelled k (s.setEvent j { s.event j with pending := true, seen := true, detail := d }) := h
    rw [raise_noticed s j d p a dest noticed.1]
    exact written.after_offerControl
  · rw [raise_unnoticed s j d noticed]
    exact h

/-- A move leaves no entry of the link, for it moves to another (R151). -/
theorem unlabelled_moveEntries (other : s.active ≠ some k) : Unlabelled k (moveEntries k s) := by
  have out : Unlabelled k (takeOut k s) := by
    intro p x hx u body
    rw [takeOut_shore] at hx
    have unlabelled := (List.mem_filter.mp hx).2
    rw [(hasLabel_iff k x).mpr ⟨u, body⟩] at unlabelled
    cases unlabelled
  cases active : s.active with
  | none => rw [moveEntries_blackout active]; exact out
  | some new =>
    rw [moveEntries_active active]
    intro p x hx u
    have hx : x ∈ ((joined k new s).port (.shore p)).queue := hx
    rw [joined_port] at hx
    split at hx
    · next same =>
      rcases List.mem_append.mp hx with old | moved
      · refine out (s.link new).cfg.port x ?_ u
        rw [takeOut_shore]; exact old
      · obtain ⟨v, -, rfl⟩ := List.mem_map.mp moved
        intro body
        cases body
        exact other active
    · exact out p x hx u

end

/-! ### The steps of a switch (R147 to R149) -/

section
variable (s : State) (cause : SwitchCause) (new : Option LinkIx) (write : Su → Su)

/-- The state after the selector is written and the number counted up (R147, steps 1 and 2). -/
def afterWrite : State :=
  { s with su := { write s.su with
      switchNumber := (write s.su).switchNumber + 1, drain := (undrain new (write s.su)).drain } }

/-- The SWITCH marker of R148. -/
theorem offerMarker_eq (old : Option LinkIx) : offerMarker old new cause s = match new with
    | none => s
    | some j => offerControl (.shore (s.link j).cfg.port)
        { dst := (s.link j).cfg.anchorAddr
          body := .switchMarker (s.link j).cfg.anchorId s.su.switchNumber
            (old.map fun k => ((s.link k).cfg.anchorId, (s.link k).nextSeq - 1)) (decide (cause = .failover)) } s := by
  cases new with
  | none => rfl
  | some j => simp only [offerMarker, switchMarker, Option.map_map]; rfl

/-- The old link's entries are moved at a forced switch, and it joins the drain set at a graceful one (R149). -/
theorem settleOld_eq (old : Option LinkIx) : settleOld old cause s = match old with
    | none => s
    | some k =>
      if cause = .failover then moveEntries k s
      else { s with su := { s.su with drain := s.su.drain ++ [⟨k, s.su.switchNumber, false⟩] } } := by
  cases old with
  | none => rfl
  | some k => cases cause <;> rfl

theorem makeSwitch_eq : makeSwitch cause new write s
    = recomputeFloor (raiseSwitch s.active new cause (settleOld s.active cause
        (offerMarker s.active new cause (afterWrite s new write)))) := by
  have written : ({ undrain new (write s.su) with switchNumber := (undrain new (write s.su)).switchNumber + 1 } : Su)
      = { write s.su with
          switchNumber := (write s.su).switchNumber + 1, drain := (undrain new (write s.su)).drain } := by
    cases new <;> rfl
  simp only [makeSwitch, written]
  rfl

/-- A switch raises SWITCH_DONE, and one to none BLACKOUT (R147). -/
theorem raiseSwitch_raises (old : Option LinkIx) :
    ((raiseSwitch old new cause s).event .switchDone).pending = true
    ∧ ((raiseSwitch old new cause s).event .switchDone).detail = some (.switch old new cause)
    ∧ (new = none → ((raiseSwitch old new cause s).event .blackout).pending = true) := by
  unfold raiseSwitch
  cases new <;> simp

theorem Unlabelled.after_raiseSwitch {s : State} {k : LinkIx} (h : Unlabelled k s) {old new : Option LinkIx}
    {cause : SwitchCause} : Unlabelled k (raiseSwitch old new cause s) := by
  unfold raiseSwitch
  cases new with
  | none => exact h.after_raise.after_raise
  | some j => exact h.after_raise

/-- A forced switch leaves no entry of the old link in a shore queue, unless it is the new one (R151). -/
theorem unlabelled_makeSwitch {k : LinkIx} (active : s.active = some k) (other : (write s.su).active ≠ some k) :
    Unlabelled k (makeSwitch .failover new write s) := by
  rw [makeSwitch_eq, active]
  refine Unlabelled.after_raiseSwitch (unlabelled_moveEntries ?_)
  rw [State.active, offerMarker_su]
  exact other

theorem afterWrite_eq : afterWrite s new write = { s with su := { write s.su with
    switchNumber := (write s.su).switchNumber + 1
    drain := match new with
      | none => (write s.su).drain
      | some j => (write s.su).drain.filter fun m => m.link ≠ j } } := by
  rw [afterWrite, undrain_drain] <;> rfl

/-- The floor is recomputed last, of the state the switch leaves (R147, R11). -/
theorem makeSwitch_recomputes {t u : State} (ends : t = recomputeFloor u) :
    t = { u with tc := { u.tc with floor := floorOf t } } := by
  subst ends; rfl

end

/-- Settles O46. -/
theorem switchTakesItsSteps : Obligations.SwitchTakesItsSteps := by
  refine ⟨fun s cause new write => ?_, fun s k => ?_,
    fun e h => ⟨insertByIntake_last, fun pre x post split earlier later => split ▸ insertByIntake_before earlier later⟩⟩
  · intro t number others s₂ s₃ s₄ s₅ s₆
    have written : afterWrite s new write = s₂ := (afterWrite_eq s new write).trans (by cases new <;> rfl)
    have marked : offerMarker s.active new cause s₂ = s₃ := by rw [offerMarker_eq]; cases new <;> rfl
    have su : s₃.su = s₂.su := by rw [← marked, offerMarker_su]
    have drain : s₃.su.drain = others := congrArg Su.drain su
    have counted : s₃.su.switchNumber = number := congrArg Su.switchNumber su
    have settled : settleOld s.active cause s₃ = s₄ := by rw [settleOld_eq, drain, counted] <;> rfl
    have raised : raiseSwitch s.active new cause s₄ = s₆ := by cases new <;> rfl
    have ends : t = recomputeFloor s₆ := by
      rw [← raised, ← settled, ← marked, ← written]; exact makeSwitch_eq s cause new write
    have events := raiseSwitch_raises s₄ cause new s.active
    rw [raised] at events
    obtain ⟨pending, detail, blackout⟩ := events
    refine ⟨makeSwitch_recomputes ends, makeSwitch_active .., makeSwitch_stage .., makeSwitch_order ..,
      makeSwitch_switchNumber .., ?_, ends ▸ pending, ends ▸ detail, fun gone => ends ▸ blackout gone,
      makeSwitch_contexts .., makeSwitch_links .., makeSwitch_zu .., fun k active forced other => ?_⟩
    · rw [show t.su.drain = _ from makeSwitch_drain .., undrain_drain]
      rfl
    · subst forced
      exact unlabelled_makeSwitch s new write active other
  · intro t kept moved returned
    have entries : entriesOf k s = moved := congrArg (allShore.flatMap ·) (funext fun p => labelled_eq k _)
    cases active : s.active with
    | none =>
      have ends : t = returnBatch moved (takeOut k s) := entries ▸ moveEntries_blackout active
      have port : ∀ q, t.port q = (takeOut k s).port q := fun q => ends ▸ rfl
      exact ⟨fun p => (port _).trans (takeOut_port s k _),
        fun _ => ⟨fun p => (port _).trans (takeOut_port s k _), returnBatch_written ends⟩, nofun⟩
    | some new =>
      have ends : t = returnBatch (moved.drop (roomFor k new s)) (joined k new s) :=
        entries ▸ moveEntries_active active
      have room : roomFor k new s = min moved.length (512 - (kept (s.link new).cfg.port).length) := by
        rw [roomFor, entries]; rfl
      have port : ∀ q, t.port q = (joined k new s).port q := fun q => ends ▸ rfl
      refine ⟨fun p => ?_, nofun, fun _ same => ?_⟩
      · rw [port, joined_port, if_neg nofun]; exact takeOut_port ..
      · cases same
        refine ⟨?_, fun q other => ?_, room ▸ returnBatch_written ends⟩
        · rw [port, joined_port, if_pos rfl, entries, room]; rfl
        · rw [port, joined_port, if_neg fun same => other (Port.shore.inj same).symm]; exact takeOut_port ..

end Sys2Proof.Machine
end

section
/-! Stages and the failover order at their requests (R139 to R143), and the rows and steps of R144. -/

namespace Sys2Proof.Machine

/-! ### Operands (R139, R143, R186) -/

theorem readTrigger_of_code {c : Byte} {t : Trigger} (code : c.toNat = t.code) : readTrigger c = some t := by
  cases t <;> simp [readTrigger, code, Trigger.code]

theorem readTrigger_of_large {c : Byte} (large : 2 < c.toNat) : readTrigger c = none := by
  obtain ⟨n, code⟩ : ∃ n, c.toNat = n + 3 := ⟨c.toNat - 3, by omega⟩
  simp [readTrigger, code]

theorem linkByte_injective : Function.Injective fun k : LinkIx => BitVec.ofNat 8 k.val := by decide

theorem linkByte_toNat (k : LinkIx) : (BitVec.ofNat 8 k.val).toNat = k.val := by
  rw [BitVec.toNat_ofNat, Nat.mod_eq_of_lt (by omega)]

theorem inRange_link_iff {b : Byte} {k : LinkIx} : inRange 8 b.toNat = some k ↔ b = BitVec.ofNat 8 k.val := by
  rw [inRange_eq_some, ← BitVec.toNat_inj, linkByte_toNat]

/-- A list of link indices is read when each is in range and none stands twice (R143). -/
theorem readOrder_iff {order : List Byte} {ks : List LinkIx} :
    readOrder order = some ks ↔ order = ks.map (fun k => BitVec.ofNat 8 k.val) ∧ ks.Nodup := by
  induction order generalizing ks with
  | nil => cases ks <;> simp [readOrder]
  | cons b bs ih =>
    constructor
    · intro read
      rw [readOrder] at read
      split at read
      · next k rest first others =>
        split at read
        · cases read
        · next fresh =>
          obtain ⟨bytes, nodup⟩ := ih.mp others
          cases read
          exact ⟨congrArg₂ List.cons (inRange_link_iff.mp first) bytes,
            List.nodup_cons.mpr ⟨by simpa using fresh, nodup⟩⟩
      · cases read
    · rintro ⟨bytes, nodup⟩
      cases ks with
      | nil => cases bytes
      | cons k rest =>
        obtain ⟨first, others⟩ := List.cons.inj bytes
        obtain ⟨fresh, nodup⟩ := List.nodup_cons.mp nodup
        simp only [readOrder, inRange_link_iff.mpr first, ih.mpr ⟨others, nodup⟩]
        exact if_neg (by simpa using fresh)

theorem readOrder_refuses {order : List Byte} (bad : (∃ b ∈ order, 7 < b.toNat) ∨ ¬ order.Nodup) :
    readOrder order = none := by
  refine Option.eq_none_iff_forall_ne_some.mpr fun ks read => ?_
  obtain ⟨rfl, nodup⟩ := readOrder_iff.mp read
  rcases bad with ⟨b, listed, large⟩ | twice
  · obtain ⟨k, -, rfl⟩ := List.mem_map.mp listed
    rw [linkByte_toNat] at large
    omega
  · exact twice (nodup.map linkByte_injective)

/-- The list as its response gives it (R143, R186). -/
theorem linkBytes (ks : List LinkIx) : (ks.flatMap fun k => byte k.val) = ks.map fun k => BitVec.ofNat 8 k.val := by
  induction ks with
  | nil => rfl
  | cons k ks ih => rw [List.flatMap_cons, List.map_cons, ih]; simp [byte, beBytes]

/-! ### Recovery test and commit (R141, R146) -/

section
variable {s u : State} {j k : LinkIx} {r : Option LinkIx}

theorem recoveryTest_of_staged (blackout : s.active = none) (staged : s.usableStaged = some k) :
    recoveryTest s = commitStage k s := by
  simp only [recoveryTest, blackout, staged]

/-- A commit with its hand-off to CS leaves the staged link active (R140, R147). -/
theorem tellCs_commitStage_active (staged : s.usableStaged = some k) : (tellCs (commitStage k s)).active = some k := by
  obtain ⟨-, slot, -⟩ := (stagedUsable_iff s k).mpr staged
  calc (tellCs (commitStage k s)).active
    _ = (makeSwitch (commitCause s) (some k) commitSlots s).active := csHandover_active ..
    _ = s.su.slot s.su.inForce.other := (makeSwitch_active ..).trans (commitSlots_active _)
    _ = some k := slot

/-- With an active link a commit has cause STAGED (R141). -/
theorem commitStage_of_active (active : s.active = some j) :
    commitStage k s = ⟨makeSwitch .staged (some k) commitSlots s, some (some k)⟩ := by
  rw [commitStage, commitCause, active]; rfl

/-- The recovery test a request brings is made in blackout alone (R139, R143). -/
theorem blackoutTest_of_active (active : s.active = some j) : steerIf s.active.isNone recoveryTest s = s := by
  rw [active]; rfl

theorem blackoutTest_of_blackout (blackout : s.active = none) (recovers : Recovers s r u) :
    steerIf s.active.isNone recoveryTest s = told r u := by
  rw [blackout]; exact tellCs_recoveryTest s blackout r u recovers

end

/-! ### A fired trigger (R140) -/

section
variable {s : State} {st : Stage} {k : LinkIx}

theorem fireTrigger_of_usable (pending : s.su.stage = some st) (slot : s.su.slot s.su.inForce.other = some k)
    (usable : s.usable k = true) : fireTrigger s = commitStage k s := by
  rw [fireTrigger, usableStaged_eq pending slot, if_pos usable]

theorem fireTrigger_of_unusable (pending : s.su.stage = some st) (slot : s.su.slot s.su.inForce.other = some k)
    (unusable : s.usable k = false) :
    fireTrigger s = ⟨{ s with su := { s.su with stage := some { st with condition := .waiting } } }, none⟩ := by
  rw [fireTrigger, usableStaged_eq pending slot, if_neg (by simp [unusable]), pending]
  rfl

end

/-! ### Stage Link (R139, R140) -/

/-- A stage pending on a link, in the slot not in force. -/
def pendingStage (k : LinkIx) (st : Stage) (s : State) : State :=
  { s with su := { s.su.setSlot s.su.inForce.other (some k) with stage := some st } }

section
variable {s u : State} {j k : LinkIx} {t : Trigger} {st : Stage} {r : Option LinkIx} {b c : Byte}

theorem pendingStage_inForce : (pendingStage k st s).su.inForce = s.su.inForce := Su.setSlot_inForce ..

theorem pendingStage_slot (sl : Slot) : (pendingStage k st s).su.slot sl
    = if s.su.inForce.other = sl then some k else s.su.slot sl := Su.setSlot_slot ..

@[simp] theorem pendingStage_active : (pendingStage k st s).active = s.active := by
  rw [State.active, Su.active, pendingStage_inForce, pendingStage_slot, if_neg s.su.inForce.other_ne]; rfl

@[simp] theorem pendingStage_staged :
    (pendingStage k st s).su.slot (pendingStage k st s).su.inForce.other = some k := by
  rw [pendingStage_inForce, pendingStage_slot, if_pos rfl]

theorem pendingStage_usableStaged (usable : s.usable k = true) : (pendingStage k st s).usableStaged = some k :=
  (usableStaged_eq rfl pendingStage_staged).trans (if_pos usable)

/-- A trigger that is not NOW leaves the stage UNTRIGGERED (R139). -/
theorem stageNow_of_other (other : t ≠ .now) :
    triggerMoment .now (writeStage k t s) = pendingStage k ⟨t, .untriggered⟩ s :=
  triggerMoment_unreached fun _ pending => .inl (by cases pending; exact other)

/-- NOW on a link that is not usable leaves the stage WAITING (R140). -/
theorem stageNow_of_unusable (unusable : s.usable k = false) :
    triggerMoment .now (writeStage k .now s) = pendingStage k ⟨.now, .waiting⟩ s :=
  (triggerMoment_reached (s := pendingStage k ⟨.now, .untriggered⟩ s) rfl rfl).trans
    (congrArg tellCs (fireTrigger_of_unusable rfl pendingStage_staged unusable))

/-- NOW on a usable link commits at once (R140). -/
theorem stageNow_of_usable (usable : s.usable k = true) : triggerMoment .now (writeStage k .now s)
    = tellCs (commitStage k (pendingStage k ⟨.now, .untriggered⟩ s)) :=
  (triggerMoment_reached (s := pendingStage k ⟨.now, .untriggered⟩ s) rfl rfl).trans
    (congrArg tellCs (fireTrigger_of_usable rfl pendingStage_staged usable))

/-- What Stage Link comes to: the stage is written, NOW fires, and in blackout the recovery test is made (R139). -/
def stageSteered (k : LinkIx) (t : Trigger) (s : State) : State :=
  let staged := triggerMoment .now (writeStage k t s)
  steerIf staged.active.isNone recoveryTest staged

theorem stageSteered_of_active {v : State} (written : triggerMoment .now (writeStage k t s) = v)
    (active : v.active = some j) : stageSteered k t s = v := by
  rw [stageSteered, written]; exact blackoutTest_of_active active

theorem stageSteered_of_later (active : s.active = some j) (later : t ≠ .now) :
    stageSteered k t s = pendingStage k ⟨t, .untriggered⟩ s :=
  stageSteered_of_active (stageNow_of_other later) (pendingStage_active.trans active)

theorem stageSteered_of_unusable (active : s.active = some j) (unusable : s.usable k = false) :
    stageSteered k .now s = pendingStage k ⟨.now, .waiting⟩ s :=
  stageSteered_of_active (stageNow_of_unusable unusable) (pendingStage_active.trans active)

theorem stageSteered_of_usable (usable : s.usable k = true) :
    stageSteered k .now s = tellCs (commitStage k (pendingStage k ⟨.now, .untriggered⟩ s)) :=
  stageSteered_of_active (stageNow_of_usable usable) (tellCs_commitStage_active (pendingStage_usableStaged usable))

theorem stageSteered_commits (active : s.active = some j) (usable : s.usable k = true) : stageSteered k .now s
    = csHandover false (some (some k))
        (makeSwitch .staged (some k) commitSlots (pendingStage k ⟨.now, .untriggered⟩ s)) :=
  (stageSteered_of_usable usable).trans (congrArg tellCs (commitStage_of_active (pendingStage_active.trans active)))

/-- In blackout a usable stage with trigger NOW commits, as it would in the recovery test (R140, R146). -/
theorem stageSteered_of_blackout (blackout : s.active = none) (recovers : Recovers (pendingStage k
      ⟨t, if t = .now ∧ s.usable k = false then .waiting else .untriggered⟩ s) r u) :
    stageSteered k t s = told r u := by
  have still {st : Stage} : (pendingStage k st s).active = none := pendingStage_active.trans blackout
  by_cases now : t = .now
  · subst now
    cases usable : s.usable k with
    | false =>
      rw [usable, if_pos ⟨rfl, rfl⟩] at recovers
      rw [stageSteered, stageNow_of_unusable usable]
      exact blackoutTest_of_blackout still recovers
    | true =>
      rw [usable, if_neg (by simp)] at recovers
      rw [stageSteered_of_usable usable, ← recoveryTest_of_staged still (pendingStage_usableStaged usable)]
      exact tellCs_recoveryTest _ still r u recovers
  · rw [if_neg fun c => now c.1] at recovers
    rw [stageSteered, stageNow_of_other now]
    exact blackoutTest_of_blackout still recovers

theorem stageLink_active (link : b.toNat = k.val) (trigger : c.toNat = t.code) (active : s.active = some k) :
    stageLink b c s = refused .wrongState s := by
  simp only [stageLink, inRange_of_eq k link, readTrigger_of_code trigger, active, beq_self_eq_true, if_true]

theorem stageLink_other (link : b.toNat = k.val) (trigger : c.toNat = t.code) (other : s.active ≠ some k)
    (steers : stageSteered k t s = u) : stageLink b c s = (.ok (steeringItems u.su), u) := by
  subst steers
  simp only [stageLink, inRange_of_eq k link, readTrigger_of_code trigger, beq_iff_eq, if_neg other]
  rfl

theorem stageLink_refused (bad : 7 < b.toNat ∨ 2 < c.toNat) : stageLink b c s = refused .badArgument s := by
  unfold stageLink
  split
  · next k t link trigger =>
    rcases bad with large | large
    · rw [inRange_of_le (by omega)] at link; cases link
    · rw [readTrigger_of_large large] at trigger; cases trigger
  · rfl

end

/-! ### Set Failover Order (R143) -/

section
variable {s u : State} {order : List Byte} {ks : List LinkIx} {j : LinkIx} {r : Option LinkIx}

theorem setFailoverOrder_of_links (bytes : order = ks.map fun k => BitVec.ofNat 8 k.val) (nodup : ks.Nodup)
    (steers : steerIf s.active.isNone recoveryTest { s with su := { s.su with order := ks } } = u) :
    setFailoverOrder order s = (.ok [item 1 order], u) := by
  subst steers
  have few : ¬ order.length > 8 := by
    have card := nodup.length_le_card
    rw [Fintype.card_fin] at card
    rw [bytes, List.length_map]
    omega
  simp only [setFailoverOrder, if_neg few, readOrder_iff.mpr ⟨bytes, nodup⟩, linkBytes, ← bytes]
  rfl

theorem setFailoverOrder_of_active (bytes : order = ks.map fun k => BitVec.ofNat 8 k.val) (nodup : ks.Nodup)
    (active : s.active = some j) :
    setFailoverOrder order s = (.ok [item 1 order], { s with su := { s.su with order := ks } }) :=
  setFailoverOrder_of_links bytes nodup
    (blackoutTest_of_active (s := { s with su := { s.su with order := ks } }) active)

theorem setFailoverOrder_of_blackout (bytes : order = ks.map fun k => BitVec.ofNat 8 k.val) (nodup : ks.Nodup)
    (blackout : s.active = none) (recovers : Recovers { s with su := { s.su with order := ks } } r u) :
    setFailoverOrder order s = (.ok [item 1 order], told r u) :=
  setFailoverOrder_of_links bytes nodup
    (blackoutTest_of_blackout (s := { s with su := { s.su with order := ks } }) blackout recovers)

theorem setFailoverOrder_refused (bad : (∃ b ∈ order, 7 < b.toNat) ∨ ¬ order.Nodup) :
    setFailoverOrder order s = refused .badArgument s := by
  unfold setFailoverOrder
  rw [readOrder_refuses bad, ite_self]

end

/-! ### The rows of R144 -/

section
variable {s u : State} {j k : LinkIx} {r : Option LinkIx}

theorem Health.dead_iff (h : Health) : h.dead = true ↔ h = .down ∨ h = .off := by cases h <;> decide
theorem Health.carries_iff (h : Health) : h.carries = true ↔ h = .up ∨ h = .impaired := by cases h <;> decide

theorem draining_iff (su : Su) (k : LinkIx) : su.draining k = true ↔ ∃ m ∈ su.drain, m.link = k := by
  simp [Su.draining]

theorem failoverRow_of_other (other : s.active ≠ some k) : failoverRow k s = s :=
  if_neg (by simp [other])

theorem failoverRow_of_living (living : (s.link k).health.dead = false) : failoverRow k s = s :=
  if_neg (by simp [living])

theorem failoverRow_of_dead (active : s.active = some k) (dead : (s.link k).health.dead = true)
    {new : Option LinkIx} (found : successor s = new) :
    failoverRow k s = csHandover false (some new) (makeSwitch .failover new (writeSlots new) s) := by
  subst found
  exact if_pos (by simp [active, dead])

theorem floorRow_of_other (other : s.active ≠ some k) : floorRow k s = s :=
  if_neg (by simp [other])

theorem floorRow_of_active (active : s.active = some k) (carries : (s.link k).health.carries = true) :
    floorRow k s = recomputeFloor s :=
  if_pos (by simp [active, carries])

theorem drainRow_of_living (living : (s.link k).health.dead = false) : drainRow k s = s :=
  if_neg (by simp [living])

theorem drainRow_of_outside (outside : ¬ ∃ m ∈ s.su.drain, m.link = k) : drainRow k s = s :=
  if_neg (by simp [draining_iff, outside])

theorem drainRow_of_dead (draining : ∃ m ∈ s.su.drain, m.link = k) (dead : (s.link k).health.dead = true) :
    drainRow k s
      = moveEntries k { s with su := { s.su with drain := s.su.drain.filter fun m => m.link ≠ k } } := by
  have filtered : (s.su.drain.filter fun m => m.link != k) = s.su.drain.filter fun m => m.link ≠ k :=
    undrain_drain (some k) s.su
  rw [← filtered]
  exact if_pos (by rw [(draining_iff s.su k).mpr draining, dead]; rfl)

theorem stageRow_of_waiting (waiting : WaitingUsable s k) : stageRow k s = tellCs (commitStage k s) := by
  obtain ⟨waits, staged⟩ := (waitingUsable_iff s k).mp waiting
  exact if_pos (by rw [waits, staged_of_usableStaged staged]; simp)

theorem stageRow_of_no_stage (unready : ¬ WaitingUsable s k) : stageRow k s = s := by
  refine if_neg fun row => unready ?_
  obtain ⟨waits, staged⟩ := Bool.and_eq_true_iff.mp row
  obtain ⟨i, usable⟩ := usableStaged_of_waiting waits
  have same : s.su.staged = some k := by simpa using staged
  rw [staged_of_usableStaged usable] at same
  cases same
  exact (waitingUsable_iff s k).mpr ⟨waits, usable⟩

/-- A link that is DOWN or OFF passes the last two rows by. -/
theorem lastRows_of_dead (dead : (s.link k).health.dead = true) : recoveryRow k (stageRow k s) = s := by
  have unusable := usable_of_dead s k ((Health.dead_iff _).mp dead)
  rw [stageRow_unusable s k unusable, recoveryRow_unusable s k unusable]

/-- A link that is neither the active link nor DOWN or OFF comes to the last two rows. -/
theorem suLinkChanged_of_living (other : s.active ≠ some k) (living : (s.link k).health.dead = false) :
    suLinkChanged k s = recoveryRow k (stageRow k s) := by
  rw [suLinkChanged, failoverRow_of_other other, floorRow_of_other other, drainRow_of_living living]

/-- A forced switch brings no link into the drain set (R149). -/
theorem mem_drain_of_forced {m : Member} {new : Option LinkIx} {write : Su → Su}
    (listed : m ∈ (makeSwitch .failover new write s).su.drain) : m ∈ (write s.su).drain := by
  have nothing : drained s.active .failover ((write s.su).switchNumber + 1) = [] := by cases s.active <;> rfl
  rw [makeSwitch_drain, nothing, List.append_nil, undrain_drain] at listed
  cases new with
  | none => exact listed
  | some j => exact (List.mem_filter.mp listed).1

/-- Row 1: the active link is lost, and after the switch no other row applies. -/
theorem suLinkChanged_of_lost (active : s.active = some k) (dead : (s.link k).health.dead = true)
    (outside : ¬ ∃ m ∈ s.su.drain, m.link = k) {new : Option LinkIx} (found : successor s = new) :
    suLinkChanged k s = csHandover false (some new) (makeSwitch .failover new (writeSlots new) s) := by
  rw [suLinkChanged, failoverRow_of_dead active dead found]
  generalize switched : csHandover false (some new) (makeSwitch .failover new (writeSlots new) s) = t
  have links : t.links = s.links := by rw [← switched, csHandover_links, makeSwitch_links]
  have link : t.link k = s.link k := by rw [State.link, links]; rfl
  have other : t.active ≠ some k := by
    rw [← switched, csHandover_active, makeSwitch_active, writeSlots_active, ← found]
    intro chosen
    have unusable := usable_of_dead s k ((Health.dead_iff _).mp dead)
    rw [usable_of_successor chosen] at unusable
    cases unusable
  have outside : ¬ ∃ m ∈ t.su.drain, m.link = k := by
    rintro ⟨m, listed, same⟩
    rw [← switched, csHandover_su] at listed
    exact outside ⟨m, by simpa using mem_drain_of_forced listed, same⟩
  rw [floorRow_of_other other, drainRow_of_outside outside, lastRows_of_dead (link ▸ dead)]

/-- Row 3: a draining link is lost. -/
theorem suLinkChanged_of_drained (other : s.active ≠ some k) (dead : (s.link k).health.dead = true)
    (draining : ∃ m ∈ s.su.drain, m.link = k) : suLinkChanged k s
      = moveEntries k { s with su := { s.su with drain := s.su.drain.filter fun m => m.link ≠ k } } := by
  rw [suLinkChanged, failoverRow_of_other other, floorRow_of_other other, drainRow_of_dead draining dead]
  refine lastRows_of_dead ?_
  rw [steering_link (moveEntries_steering _ k)]
  exact dead

/-- A DOWN or OFF link that is neither active nor draining changes nothing. -/
theorem suLinkChanged_of_idle (other : s.active ≠ some k) (dead : (s.link k).health.dead = true)
    (outside : ¬ ∃ m ∈ s.su.drain, m.link = k) : suLinkChanged k s = s := by
  rw [suLinkChanged, failoverRow_of_other other, floorRow_of_other other, drainRow_of_outside outside,
    lastRows_of_dead dead]

theorem Health.dead_of_carries {h : Health} (carries : h.carries = true) : h.dead = false := by
  cases h <;> revert carries <;> decide

/-- Row 2: the active link is UP or IMPAIRED. -/
theorem suLinkChanged_of_carrying (active : s.active = some k) (carries : (s.link k).health.carries = true)
    (unstaged : ∀ j, s.su.slot s.su.inForce.other = some j → j ≠ k) :
    suLinkChanged k s = { s with tc := { s.tc with floor := floorOf s } } := by
  have living := Health.dead_of_carries carries
  have no_stage : ¬ WaitingUsable (recomputeFloor s) k := fun ⟨⟨_, slot, _⟩, _⟩ => unstaged k slot rfl
  rw [suLinkChanged, failoverRow_of_living living, floorRow_of_active active carries,
    drainRow_of_living (s := recomputeFloor s) living, stageRow_of_no_stage no_stage,
    recoveryRow_active (recomputeFloor s) k k active]
  rfl

/-- A usable link is not DOWN or OFF (R138). -/
theorem living_of_usable (usable : s.usable k = true) : (s.link k).health.dead = false :=
  Health.dead_of_carries (Bool.and_eq_true_iff.mp usable).1

/-- Row 4: the stage commits (R141). -/
theorem suLinkChanged_of_staged (active : s.active = some j) (other : j ≠ k) (waiting : WaitingUsable s k) :
    suLinkChanged k s = csHandover false (some (some k)) (makeSwitch .staged (some k) commitSlots s) := by
  have different : s.active ≠ some k := by rw [active]; exact fun same => other (Option.some.inj same)
  have staged := ((waitingUsable_iff s k).mp waiting).2
  rw [suLinkChanged_of_living different (living_of_usable (usable_of_usableStaged staged)), stageRow_of_waiting waiting,
    recoveryRow_active _ k k (tellCs_commitStage_active staged), commitStage_of_active active]
  rfl

/-- A link that lives, is not active and has no stage to commit changes nothing beside an active link. -/
theorem suLinkChanged_of_standby (active : s.active = some j) (other : j ≠ k)
    (living : (s.link k).health.dead = false) (unstaged : ¬ WaitingUsable s k) : suLinkChanged k s = s := by
  have different : s.active ≠ some k := by rw [active]; exact fun same => other (Option.some.inj same)
  rw [suLinkChanged_of_living different living, stageRow_of_no_stage unstaged, recoveryRow_active s k j active]

/-- In blackout a link that lives and is not usable changes nothing. -/
theorem suLinkChanged_of_unusable (blackout : s.active = none) (living : (s.link k).health.dead = false)
    (unusable : s.usable k = false) : suLinkChanged k s = s := by
  rw [suLinkChanged_of_living (by rw [blackout]; nofun) living, stageRow_unusable s k unusable,
    recoveryRow_unusable s k unusable]

/-- Row 5: in blackout the stage row, where it applies, makes the commit the recovery test would make. -/
theorem suLinkChanged_of_blackout (blackout : s.active = none) (usable : s.usable k = true) (recovers : Recovers s r u) :
    suLinkChanged k s = told r u := by
  rw [suLinkChanged_of_living (by rw [blackout]; nofun) (living_of_usable usable)]
  have test := tellCs_recoveryTest s blackout r u recovers
  by_cases waiting : WaitingUsable s k
  · have staged := ((waitingUsable_iff s k).mp waiting).2
    rw [stageRow_of_waiting waiting, recoveryRow_active _ k k (tellCs_commitStage_active staged),
      ← recoveryTest_of_staged blackout staged, test]
  · rw [stageRow_of_no_stage waiting]
    exact (if_pos (by simp [blackout, usable])).trans test

end

/-! ### The steps at a zone change (R144) -/

section
variable {s u : State} {j k : LinkIx} {r : Option LinkIx}

theorem waitingUsable_eq_false (unready : ∀ j, ¬ WaitingUsable s j) : s.waitingUsable = false := by
  by_contra waits
  have waits : s.waitingUsable = true := by simpa using waits
  obtain ⟨j, staged⟩ := usableStaged_of_waiting waits
  exact unready j ((waitingUsable_iff s j).mpr ⟨waits, staged⟩)

theorem commitWaiting_of_waiting (waiting : WaitingUsable s j) : commitWaiting s = commitStage j s := by
  obtain ⟨waits, staged⟩ := (waitingUsable_iff s j).mp waiting
  simp only [commitWaiting, staged, waits, if_true]

theorem commitWaiting_of_none (unready : ∀ j, ¬ WaitingUsable s j) : commitWaiting s = unswitched s := by
  rw [commitWaiting, waitingUsable_eq_false unready]
  cases s.usableStaged <;> rfl

theorem suZoneChanged_of_waiting (waiting : WaitingUsable s j) : suZoneChanged s = commitStage j s := by
  rw [suZoneChanged, commitWaiting_of_waiting waiting, ((waitingUsable_iff s j).mp waiting).1]
  cases s.active <;> simp

theorem suZoneChanged_of_outside (active : s.active = some k) (unready : ∀ j, ¬ WaitingUsable s j)
    (outside : k ∉ s.zu.zone.linkMask) : suZoneChanged s = failover .zone s := by
  rw [suZoneChanged, active, waitingUsable_eq_false unready]
  exact if_neg (by simpa using outside)

theorem suZoneChanged_of_inside (active : s.active = some k) (unready : ∀ j, ¬ WaitingUsable s j)
    (inside : k ∈ s.zu.zone.linkMask) : suZoneChanged s = unswitched s := by
  rw [suZoneChanged, active, commitWaiting_of_none unready]
  exact if_pos (by simpa using inside)

theorem suZoneChanged_of_blackout (blackout : s.active = none) (recovers : Recovers s r u) :
    suZoneChanged s = ⟨u, r.map some⟩ := by
  rw [← (recovers_iff s blackout r u).mp recovers]
  by_cases waits : s.waitingUsable = true
  · obtain ⟨j, staged⟩ := usableStaged_of_waiting waits
    rw [suZoneChanged_of_waiting ((waitingUsable_iff s j).mpr ⟨waits, staged⟩), recoveryTest_of_staged blackout staged]
  · rw [suZoneChanged, blackout]
    exact if_neg waits

end

/-! ### What is chosen (R141, R145, R146) -/

theorem exists_recovers (s : State) : ∃ r u, Recovers s r u := by
  by_cases staged : ∃ k, StagedUsable s k
  · obtain ⟨k, staged⟩ := staged
    exact ⟨some k, _, .inl ⟨staged, rfl⟩⟩
  · have unstaged := not_exists.mp staged
    have order := (fromOrder_iff s _).mpr rfl
    cases found : fromOrder s with
    | none => exact ⟨none, s, unstaged, found ▸ order, rfl⟩
    | some k => exact ⟨some k, _, .inr ⟨unstaged, found ▸ order, rfl⟩⟩

/-- A link that is chosen leaves the stage, unless it is the staged link (R141). -/
theorem writeSlots_keepsStage (su : Su) (new : Option LinkIx)
    (other : new = none ∨ su.stage = none ∨ su.slot su.inForce.other ≠ new) :
    (writeSlots new su).stage = su.stage
    ∧ (writeSlots new su).slot (writeSlots new su).inForce.other = su.slot su.inForce.other := by
  have choice : new = none ∨ su.staged ≠ new := by
    cases new with
    | none => exact .inl rfl
    | some k =>
      right
      rw [Su.staged]
      split
      · nofun
      · next pending => simpa [pending] using other
  rw [writeSlots_of_other su new choice]
  simp

theorem writeSlots_unstages (su : Su) (new : Option LinkIx) (chosen : new ≠ none) (pending : su.stage ≠ none)
    (staged : su.slot su.inForce.other = new) :
    (writeSlots new su).stage = none ∧ (writeSlots new su).slot (writeSlots new su).inForce.other = none := by
  obtain ⟨k, rfl⟩ := Option.ne_none_iff_exists'.mp chosen
  obtain ⟨st, stage⟩ := Option.ne_none_iff_exists'.mp pending
  rw [writeSlots_of_staged su (by rw [Su.staged, stage]; exact staged)]
  simp

/-! ### The obligation's parts -/

section
variable (s : State) (rq : Request)

theorem stageLink_steers (b c : Byte) (k j : LinkIx) (t : Trigger) (passes : Passes s rq .stageLink)
    (link : b.toNat = k.val) (trigger : c.toNat = t.code) (active : s.active = some j) :
    (k = j → exec (.stageLink rq b c) s = .next (answerNo rq .stageLink .wrongState (s.got rq.port)))
    ∧ ∀ u, k ≠ j → stageSteered k t (s.got rq.port) = u →
      exec (.stageLink rq b c) s = .next (answerOk rq .stageLink
        (items [optBytes 1 (u.active.map Fin.val), stageBytes u.su, beBytes 2 u.su.switchNumber.toNat]) u) := by
  have got : (s.got rq.port).active = some j := active
  refine ⟨fun same => ask_no passes (stageLink_active link trigger (same ▸ got)), fun u other steers => ?_⟩
  refine ask_ok passes (stageLink_other link trigger ?_ steers)
  rw [got]
  exact fun same => other (Option.some.inj same).symm

end

/-- Settles O47. -/
theorem stageRequestsSteer : Obligations.StageRequestsSteer := by
  refine ⟨fun s rq => ⟨?_, ?_, ?_, ?_, ?_⟩, fun s => ⟨?_, ?_, ?_, ?_, ?_, ?_⟩, fun s k => ?_, fun s => ⟨?_, ?_, ?_⟩⟩
  · intro b c k j t passes link trigger active staged done
    obtain ⟨refuses, answers⟩ := stageLink_steers s rq b c k j t passes link trigger active
    refine ⟨refuses, fun other later => ?_, fun other now unusable => ?_, fun other now usable => ?_⟩
    · exact answers _ other (stageSteered_of_later active later)
    · subst now
      exact answers _ other (stageSteered_of_unusable active unusable)
    · subst now
      exact answers _ other (stageSteered_commits (s := s.got rq.port) active usable)
  · intro b c k t passes link trigger blackout staged r u recovers
    refine ask_ok passes (stageLink_other link trigger ?_ (stageSteered_of_blackout blackout recovers))
    rw [State.got_active, blackout]
    nofun
  · exact fun b c passes bad => ask_no passes (stageLink_refused bad)
  · intro passes
    refine ⟨fun unstaged => ask_ok passes ?_, fun pending => ask_ok passes ?_⟩
    · rw [cancelStage, State.got_su, unstaged]; rfl
    · obtain ⟨st, pending⟩ := Option.ne_none_iff_exists'.mp pending
      rw [cancelStage, State.got_su, pending]; rfl
  · intro order passes
    refine ⟨fun ks bytes nodup active => ?_, fun ks bytes nodup blackout r u recovers => ?_,
      fun bad => ask_no passes (setFailoverOrder_refused bad)⟩
    · obtain ⟨j, active⟩ := Option.ne_none_iff_exists'.mp active
      exact ask_ok passes (setFailoverOrder_of_active bytes nodup active)
    · exact ask_ok passes (setFailoverOrder_of_blackout bytes nodup blackout recovers)
  · exact State.usable_iff s
  · exact ⟨successor s, (successor_iff s _).mpr rfl⟩
  · exact exists_recovers s
  · intro st k pending slot
    refine ⟨fun usable => ?_, fireTrigger_of_unusable pending slot⟩
    rw [fireTrigger_of_usable pending slot usable, commitStage, commitCause_eq]
  · exact ⟨commitSlots_active _, commitSlots_slot _, rfl, commitSlots_order _, commitSlots_drain _,
      commitSlots_switchNumber _⟩
  · exact fun new => ⟨writeSlots_active .., writeSlots_inForce .., writeSlots_order .., writeSlots_drain ..,
      writeSlots_switchNumber .., writeSlots_unstages s.su new, writeSlots_keepsStage s.su new⟩
  · intro dead draining
    have lost : dead → (s.link k).health.dead = true := (Health.dead_iff _).mpr
    have living : ¬ dead → (s.link k).health.dead = false := fun alive =>
      Bool.eq_false_iff.mpr fun c => alive ((Health.dead_iff _).mp c)
    exact ⟨fun gone active outside new found =>
        suLinkChanged_of_lost active (lost gone) outside ((successor_iff s new).mp found),
      fun gone other inside => suLinkChanged_of_drained other (lost gone) inside,
      fun gone other outside => suLinkChanged_of_idle other (lost gone) outside,
      fun carries active unstaged => suLinkChanged_of_carrying active ((Health.carries_iff _).mpr carries) unstaged,
      fun j active other waiting => suLinkChanged_of_staged active other waiting,
      fun j active other alive unstaged => suLinkChanged_of_standby active other (living alive) unstaged,
      fun blackout usable r u recovers => suLinkChanged_of_blackout blackout usable recovers,
      fun blackout alive unusable => suLinkChanged_of_unusable blackout (living alive) unusable⟩
  · exact fun k j active waiting => (suZoneChanged_of_waiting waiting).trans (commitStage_of_active active)
  · intro k active unstaged
    refine ⟨fun outside new found => ?_, suZoneChanged_of_inside active unstaged⟩
    rw [suZoneChanged_of_outside active unstaged outside, failover, (successor_iff s new).mp found]
  · exact fun blackout r u => suZoneChanged_of_blackout blackout

end Sys2Proof.Machine
end

section
/-! The service level and the floors (R11, R161): the level in force beside the one that R161 gives, the floor in
force beside the largest of the three, and the commands that leave all four as they were. -/

namespace Sys2Proof.Machine

/-- The level R161 gives and the one in force, the largest of the three floors and the one in force. -/
structure Service where
  due : ServiceLevel
  level : ServiceLevel
  highest : Floor
  floor : Floor

def State.service (s : State) : Service := ⟨levelOf s, s.cs.level, floorOf s, s.tc.floor⟩

section
variable {s t : State}

theorem State.service_congr (due : levelOf t = levelOf s) (level : t.cs.level = s.cs.level)
    (highest : floorOf t = floorOf s) (floor : t.tc.floor = s.tc.floor) : t.service = s.service := by
  rw [State.service, due, level, highest, floor, State.service]

theorem service_due (same : t.service = s.service) : levelOf t = levelOf s := congrArg Service.due same
theorem service_level (same : t.service = s.service) : t.cs.level = s.cs.level := congrArg Service.level same
theorem service_highest (same : t.service = s.service) : floorOf t = floorOf s := congrArg Service.highest same
theorem service_floor (same : t.service = s.service) : t.tc.floor = s.tc.floor := congrArg Service.floor same

/-- The invariant speaks of these four alone. -/
theorem LevelAndFloor.same (h : LevelAndFloor s) (same : t.service = s.service) : LevelAndFloor t := by
  obtain ⟨level, floor⟩ := h
  exact ⟨by rw [service_level same, service_due same, level], by rw [service_floor same, service_highest same, floor]⟩

end

/-! ### The floor a link gives (R11) -/

/-- The floor of a link while it is active: of its configuration while UP or IMPAIRED, else 0 (R11). -/
def Link.floorGiven (l : Link) : Floor :=
  match l.health with
  | .up => l.cfg.upFloor
  | .impaired => l.cfg.impairedFloor
  | _ => 0

section
variable {s : State} {k : LinkIx} {l : Link}

theorem linkFloor_of_active (active : s.active = some k) : linkFloor s = (s.link k).floorGiven := by
  unfold linkFloor; rw [active]; rfl

theorem linkFloor_of_blackout (blackout : s.active = none) : linkFloor s = 0 := by
  unfold linkFloor; rw [blackout]

theorem Link.floorGiven_of_not_carries (idle : l.health.carries = false) : l.floorGiven = 0 := by
  unfold floorGiven; cases health : l.health <;> simp [health, Health.carries] at idle ⊢

/-- A link's record is written: the active link's floor is as it was, or the link is another. -/
theorem setLink_service (same : s.active = some k → l.floorGiven = (s.link k).floorGiven) :
    (s.setLink k l).service = s.service := by
  have floor : linkFloor (s.setLink k l) = linkFloor s := by
    cases active : s.active with
    | none => rw [linkFloor_of_blackout active, linkFloor_of_blackout (s := s.setLink k l) active]
    | some j =>
      rw [linkFloor_of_active active, linkFloor_of_active (s := s.setLink k l) active, State.setLink_link]
      split
      · next e => subst e; exact same active
      · rfl
  refine State.service_congr rfl rfl ?_ rfl
  rw [floorOf, floor]; rfl

end

variable (s : State)

/-! ### The state's own updates -/

@[simp] theorem setQueue_service (p : Port) (q : List Entry) : (s.setQueue p q).service = s.service := rfl
@[simp] theorem setCarrier_service (p : Port) (b : Bool) : (s.setCarrier p b).service = s.service := rfl
@[simp] theorem setCtx_service (i : CtxIx) (c : Context) : (s.setCtx i c).service = s.service := rfl
@[simp] theorem setRu_service (r : RuIx) (u : RadioUnit) : (s.setRu r u).service = s.service := rfl
@[simp] theorem setHold_service (h : List UserEntry) : (s.setHold h).service = s.service := rfl
@[simp] theorem setUr_service (u : Ur) : ({ s with ur := u } : State).service = s.service := rfl
@[simp] theorem setNextHeartbeat_service (t : Time) :
    ({ s with cs := { s.cs with nextHeartbeat := t } } : State).service = s.service := rfl
@[simp] theorem drop_service (r : DropReason) (d : Dir) : (drop r d s).service = s.service := rfl
@[simp] theorem place_service (p : Port) (b : EntryBody) : (place p b s).service = s.service := rfl
@[simp] theorem setCandidate_service (c : Option ZoneIx) (n : Nat) : (setCandidate c n s).service = s.service := rfl

@[simp] theorem setWaypoint_service (i : WaypointId) (w : Waypoint) : (s.setWaypoint i w).service = s.service := by
  cases i <;> rfl

/-! ### Frames, events, notices and responses (R15, R42, R165, R173, R178) -/

@[simp] theorem controlDropped_service (c : Control) : (controlDropped c s).service = s.service := by
  unfold controlDropped; split <;> rfl

@[simp] theorem offerControl_service (p : Port) (c : Control) : (offerControl p c s).service = s.service :=
  offerControl_keeps s State.service p c (fun _ _ => rfl) (fun _ _ => rfl) fun s => controlDropped_service s c

@[simp] theorem raise_service (k : EventKind) (d : Option Detail) : (raise k d s).service = s.service :=
  raise_keeps s State.service k d (fun _ _ => rfl) fun p c s => offerControl_service s p c

@[simp] theorem sendBearerNotice_service (i : CtxIx) (c : Context) (n : BearerNotice) :
    (sendBearerNotice i c n s).service = s.service :=
  sendBearerNotice_keeps s State.service i c n fun p c => offerControl_service s p c

@[simp] theorem respond_service (rq : Request) (code : Byte) (r : Reply) :
    (respond rq code r s).service = s.service := offerControl_service s ..

@[simp] theorem sendHeartbeat_service (r : RuIx) : (sendHeartbeat r s).service = s.service :=
  sendHeartbeat_keeps s State.service r (fun _ _ => rfl) fun p c s => offerControl_service s p c

@[simp] theorem round_service : (round s).service = s.service :=
  foldl_keeps State.service _ (fun s r => sendHeartbeat_service s r) allRus s

/-! ### Usage (R101 to R112) -/

@[simp] theorem urqEnter_service (r : Record) : (urqEnter r s).service = s.service := rfl
@[simp] theorem freeContext_service (i : CtxIx) : (freeContext i s).service = s.service := rfl

theorem closeInterval_service {i : CtxIx} {iv : Interval} {t : State} (closed : closeInterval i iv s = some t) :
    t.service = s.service := by
  rcases closeInterval_cases s i iv with ⟨-, -, e⟩ | ⟨-, -, e⟩ | ⟨-, -, e⟩ <;> rw [e] at closed <;> cases closed <;> rfl

@[simp] theorem drainAwaitingHead_service : (drainAwaitingHead s).service = s.service := by
  simp only [drainAwaitingHead]
  split
  · rfl
  · split
    · rfl
    · split <;> simp

@[simp] theorem drainAwaiting_service (n : Nat) : (drainAwaiting n s).service = s.service := by
  induction n generalizing s with
  | zero => rfl
  | succ n ih =>
    rw [drainAwaiting]
    split
    · rfl
    · rw [ih, drainAwaitingHead_service]

@[simp] theorem placeSummary_service (p : Num32) : (placeSummary p s).service = s.service := by
  rw [placeSummary_eq]
  exact raise_service { s with ur := summarized p s.ur } _ _

@[simp] theorem periodSummary_service : (periodSummary s).service = s.service := by
  unfold periodSummary
  split
  · split <;> simp
  · rfl

@[simp] theorem resumeSweep_service : (resumeSweep s).service = s.service := by
  unfold resumeSweep; split <;> rfl

@[simp] theorem giveOut_service (k : Nat) : (giveOut k s).service = s.service := by
  unfold giveOut; split <;> simp

@[simp] theorem usageCompleted_service : (usageCompleted s).service = s.service := by
  unfold usageCompleted; split <;> simp

@[simp] theorem usageFrameBuild_service : (usageFrameBuild s).service = s.service := by
  unfold usageFrameBuild
  split
  · dsimp only
    split
    · rw [offerControl_service]; rfl
    · rfl
  · rfl

@[simp] theorem visit_service : (visit s).service = s.service := by
  unfold visit
  split
  · rfl
  · split
    · rfl
    · split <;> rfl

@[simp] theorem sweepVisit_service : (sweepVisit s).service = s.service := by
  simp only [sweepVisit]; split <;> simp

@[simp] theorem closePeriod_service : (closePeriod s).2.service = s.service := by
  unfold closePeriod; split <;> rfl

/-! ### Metering (R70, R80 to R92) -/

@[simp] theorem barringFailure_service (i : CtxIx) : (barringFailure i s).service = s.service := by
  rcases barringFailure_cases s i with ⟨-, e⟩ | ⟨-, e⟩ <;> simp [e]

@[simp] theorem openInterval_service (i : CtxIx) : (openInterval i s).service = s.service := rfl
@[simp] theorem accumulate_service (i : CtxIx) (d : Dir) (b : Nat) (ch : Charge) :
    (accumulate i d b ch s).service = s.service := rfl

@[simp] theorem exhaust_service (i : CtxIx) : (exhaust i s).service = s.service := by simp [exhaust]

@[simp] theorem lowTest_service (i : CtxIx) : (lowTest i s).service = s.service := by
  simp only [lowTest]; split <;> simp

@[simp] theorem testsAfter_service (i : CtxIx) : (testsAfter i s).service = s.service := by
  unfold testsAfter exhaustedTest
  split
  · split <;> simp
  · rfl

@[simp] theorem applyCharge_service (i : CtxIx) (d : Dir) (b : Nat) (ch : Charge) :
    (applyCharge i d b ch s).service = s.service := by simp [applyCharge]

theorem keyStep_service {i : CtxIx} {t : State} (key : keyStep i s = some t) : t.service = s.service := by
  unfold keyStep at key
  split at key
  · cases key; rfl
  · split at key
    · cases key; rfl
    · split at key
      · cases key
      · next u closed =>
        cases key
        exact (openInterval_service u _).trans (closeInterval_service s closed)

@[simp] theorem meterBearer_service (u : UserEntry) (d : Dir) (m : Multiplier) :
    (meterBearer u d m s).2.service = s.service := by
  unfold meterBearer
  split
  · exact raise_service s _ _
  · next t key =>
    have keyed := keyStep_service s key
    dsimp only
    split <;> simp [keyed]

@[simp] theorem meter_service (u : UserEntry) (d : Dir) (m : Multiplier) :
    (meter u d m s).2.service = s.service := by
  unfold meter
  split
  · simp
  · rfl
  · split <;> simp

/-! ### Admission and routing (R8 to R13, R41, R68, R168) -/

@[simp] theorem holdJoin_service (e : UserEntry) : (holdJoin e s).service = s.service := by
  rcases holdJoin_cases s e with ⟨-, h⟩ | ⟨-, h⟩ <;> simp [h]

@[simp] theorem routeUplink_service (e : UserEntry) : (routeUplink e s).service = s.service := by
  unfold routeUplink
  split
  · split <;> simp
  · simp

@[simp] theorem routeDownlink_service (e : UserEntry) (m : Multiplier) :
    (routeDownlink e m s).service = s.service := by
  simp only [routeDownlink]
  split
  · split <;> simp
  · simp

@[simp] theorem carry_service (src : Source) (i : CtxIx) (f : BearerFrame) :
    (carry src i f s).service = s.service := by
  cases src with
  | uplink r => simp [carry, followRu]
  | downlink m => simp [carry]

@[simp] theorem signalFailure_service (i : CtxIx) (f : BearerFrame) (failed : Bool) :
    (signalFailure i f failed s).service = s.service := by
  unfold signalFailure
  split
  · split <;> simp
  · rfl

@[simp] theorem admitFrame_service (src : Source) (f : BearerFrame) : (admitFrame src f s).service = s.service := by
  unfold admitFrame
  split
  · simp
  · split <;> simp

@[simp] theorem bearerIn_service (port : Fin 4) (src : Addr) (f : BearerFrame) :
    (bearerIn port src f s).service = s.service := by
  unfold bearerIn
  split
  · simp
  · split <;> simp

@[simp] theorem linkFrameIn_service (port : Fin 4) (a : Num16) (f : BearerFrame) :
    (linkFrameIn port a f s).service = s.service := by
  unfold linkFrameIn
  split
  · simp
  · split <;> simp

@[simp] theorem radioStatusIn_service (port : Fin 4) (src : Addr) (n : BitVec 16) :
    (radioStatusIn port src n s).service = s.service := by
  unfold radioStatusIn
  split
  · rfl
  · simp only [radioStatusOf]; split <;> simp

/-! ### The clock and the queues (R14, R19, R24, R50, R157 to R168) -/

@[simp] theorem transmit_service (p : Port) (dst : Addr) (c : Carried) : (transmit p dst c s).service = s.service := rfl

@[simp] theorem holdDrainMove_service : (holdDrainMove s).service = s.service := by
  unfold holdDrainMove
  split
  · split
    · split <;> simp
    · rfl
  · rfl

@[simp] theorem staleDeadline_service : (staleDeadline s).service = s.service := by
  unfold staleDeadline
  split
  · split
    · rw [raise_service]; rfl
    · rfl
  · rfl

@[simp] theorem heartbeatTime_service : (heartbeatTime s).service = s.service := by
  unfold heartbeatTime
  split
  · exact (setNextHeartbeat_service (round s) _).trans (round_service s)
  · rfl

@[simp] theorem livenessDeadline_service (r : RuIx) : (livenessDeadline r s).service = s.service := by
  simp only [livenessDeadline]
  split
  · split <;> simp
  · rfl

@[simp] theorem coldOnCarrierLoss_service (p : Port) : (coldOnCarrierLoss p s).service = s.service := by
  unfold coldOnCarrierLoss; split <;> rfl

@[simp] theorem cellCarrierChange_service (port : Fin 4) (up : Bool) :
    (cellCarrierChange port up s).service = s.service := by
  simp only [cellCarrierChange]; split <;> simp

@[simp] theorem zoneFault_service (a : Nat) (x : Int) : (zoneFault a x s).service = s.service := by
  unfold zoneFault
  split
  · split <;> simp
  · rfl

/-! ### Requests (R29 to R38, R59, R60, R62, R75, R93, R121, R167, R169, R180 to R182) -/

theorem named_service {f : CtxIx → Context → State → Reply × State}
    (rule : ∀ i c s, (f i c s).2.service = s.service) (n : CtxName) : (named n f s).2.service = s.service := by
  rcases named_cases s n f with ⟨-, e⟩ | ⟨i, -, ⟨-, e⟩ | ⟨-, e⟩⟩ <;> rw [e]
  · rfl
  · rfl
  · exact rule i _ s

@[simp] theorem createContext_service (a : CreateArgs) : (createContext a s).2.service = s.service := by
  rcases createContext_cases a s with e | ⟨v, i, -, -, e⟩ <;> rw [e]
  rfl

@[simp] theorem modifyContext_service (n : CtxName) (a : ModifyArgs) : (modifyContext n a s).2.service = s.service := by
  refine named_service s (fun i c s => ?_) n
  simp only [modifyNamed]
  split
  · rfl
  split
  · rfl
  split
  · rfl
  split
  · rfl
  split
  · exact raise_service s _ _
  · next t closed =>
    unfold closeForPlan at closed
    split at closed
    · cases closed; rfl
    · exact (setCtx_service t _ _).trans (closeInterval_service s closed)

@[simp] theorem suspendContext_service (n : CtxName) : (suspendContext n s).2.service = s.service := by
  refine named_service s (fun i c s => ?_) n
  simp only [suspendNamed]; split <;> simp

@[simp] theorem resumeContext_service (n : CtxName) : (resumeContext n s).2.service = s.service := by
  refine named_service s (fun i c s => ?_) n
  simp only [resumeNamed]; split <;> simp

@[simp] theorem topUp_service (n : CtxName) (m : BitVec 64) (l : BitVec 32) :
    (topUp n m l s).2.service = s.service := by
  refine named_service s (fun i c s => ?_) n
  simp only [topUpNamed]
  repeat' split
  all_goals rfl

@[simp] theorem placeFinal_service (i : CtxIx) : (placeFinal i s).service = s.service := by
  unfold placeFinal; split <;> rfl

@[simp] theorem releaseContext_service (n : CtxName) : (releaseContext n s).2.service = s.service := by
  refine named_service s (fun i c s => ?_) n
  simp only [releaseNamed]
  split
  · rfl
  split
  · exact raise_service s _ _
  · simp

@[simp] theorem findContext_service (b : Num32) : (findContext b s).2.service = s.service := by
  unfold findContext
  split
  · rfl
  · split <;> rfl

@[simp] theorem readContext_service (n : Num16) : (readContext n s).2.service = s.service := by
  unfold readContext; split <;> rfl

@[simp] theorem readZone_service (n : Byte) : (readZone n s).2.service = s.service := by
  unfold readZone
  split
  · rfl
  · split <;> rfl

@[simp] theorem readLink_service (n : Byte) : (readLink n s).2.service = s.service := by
  unfold readLink; split <;> rfl

@[simp] theorem readRadioUnit_service (n : Byte) : (readRadioUnit n s).2.service = s.service := by
  unfold readRadioUnit; split <;> rfl

/-- Write Zone writes the table, not the zone in force (R59). -/
@[simp] theorem writeZone_service (a : ZoneArgs) : (writeZone a s).2.service = s.service := by
  unfold writeZone
  split
  · split <;> rfl
  · rfl

@[simp] theorem armWaypoint_service (a : WaypointArgs) : (armWaypoint a s).2.service = s.service := by
  unfold armWaypoint
  split
  · split <;> simp
  · rfl

@[simp] theorem disarmWaypoint_service (c : Byte) : (disarmWaypoint c s).2.service = s.service := by
  unfold disarmWaypoint; split <;> simp

@[simp] theorem openAttach_service : (openAttach s).2.service = s.service := by
  unfold openAttach
  split
  · rfl
  · rw [round_service]; rfl

@[simp] theorem writeRadioUnit_service (a : RuArgs) : (writeRadioUnit a s).2.service = s.service := by
  unfold writeRadioUnit; split <;> rfl

@[simp] theorem clearEvents_service (kinds : List Byte) : (clearEvents kinds s).2.service = s.service := by
  unfold clearEvents
  split
  · rfl
  · split <;> rfl

end Sys2Proof.Machine
end

section
/-! The service level and the floor in force through the blocks that change what they rest on (R11, R161): CS at a
hand-over, SU at a switch, LM at a change of a link, ZU at a zone change. -/

namespace Sys2Proof.Machine

/-! ### A hand-over to CS (R160, R161) -/

section
variable {s : State}

theorem graceAtSwitch_floorOf (s : State) (new : Option LinkIx) : floorOf (graceAtSwitch new s) = floorOf s := by
  cases new <;> rfl

theorem graceAtSwitch_floor (s : State) (new : Option LinkIx) : (graceAtSwitch new s).tc.floor = s.tc.floor := by
  cases new <;> rfl

/-- The level is recomputed, and where it changes the floor too: a floor that stood still stands. -/
theorem levelAndFloor_recomputeLevel (floor : s.tc.floor = floorOf s) : LevelAndFloor (recomputeLevel s) := by
  rcases recomputeLevel_cases s with ⟨level, e⟩ | ⟨-, e⟩ <;> rw [e]
  · exact ⟨level.symm, floor⟩
  · have raised := raise_service { s with cs := { s.cs with level := levelOf s } } .serviceLevel
      (some (.level (levelOf s)))
    exact ⟨(service_level raised).trans (service_due raised).symm, rfl⟩

/-- A hand-over finds a floor that stands, and leaves level and floor in force computed. -/
theorem levelAndFloor_csHandover (floor : s.tc.floor = floorOf s) (g : Bool) (sw : Option (Option LinkIx)) :
    LevelAndFloor (csHandover g sw s) := by
  have timed : LevelAndFloor (recomputeLevel (match sw with | none => s | some new => graceAtSwitch new s)) := by
    cases sw with
    | none => exact levelAndFloor_recomputeLevel floor
    | some new =>
      refine levelAndFloor_recomputeLevel ?_
      rw [graceAtSwitch_floor, graceAtSwitch_floorOf, floor]
  rcases csHandover_cases s g sw with e | e <;> rw [e]
  · exact timed.same (round_service _)
  · exact timed

theorem LevelAndFloor.after_graceExpiry (h : LevelAndFloor s) : LevelAndFloor (graceExpiry s) := by
  obtain ⟨level, floor⟩ := h
  unfold graceExpiry
  split
  · exact ⟨level, floor⟩
  · split
    · have stopped : LevelAndFloor (recomputeLevel { s with cs := { s.cs with grace := none } }) :=
        levelAndFloor_recomputeLevel floor
      dsimp only
      split
      · exact stopped.same (round_service _)
      · next keeps => exact ⟨(by simpa [levelChanges] using keeps : levelOf _ = s.cs.level).symm, floor⟩
    · exact ⟨level, floor⟩

end

/-! ### A switch (R144 to R147) -/

/-- What SU's handling of state `s` can come to: no switch, with nothing changed that the level and the floors rest
on, or a switch. -/
def Steers (s : State) (r : Steered) : Prop :=
  (r.switched = none ∧ r.state.service = s.service)
  ∨ ∃ cause new write, r = ⟨makeSwitch cause new write s, some new⟩

section
variable {s : State} {r : Steered}

theorem steers_unswitched : Steers s (unswitched s) := .inl ⟨rfl, rfl⟩
theorem steers_commitStage {k : LinkIx} : Steers s (commitStage k s) := .inr ⟨_, _, _, rfl⟩
theorem steers_failover {cause : SwitchCause} : Steers s (failover cause s) := .inr ⟨_, _, _, rfl⟩

theorem steers_recoveryTest : Steers s (recoveryTest s) := by
  unfold recoveryTest
  split
  · exact steers_unswitched
  · split
    · exact steers_commitStage
    · split
      · exact .inr ⟨_, _, _, rfl⟩
      · exact steers_unswitched

theorem steers_commitWaiting : Steers s (commitWaiting s) := by
  unfold commitWaiting
  split
  · split
    · exact steers_commitStage
    · exact steers_unswitched
  · exact steers_unswitched

theorem steers_fireTrigger : Steers s (fireTrigger s) := by
  unfold fireTrigger
  split
  · exact steers_commitStage
  · exact .inl ⟨rfl, rfl⟩

theorem steers_suZoneChanged : Steers s (suZoneChanged s) := by
  unfold suZoneChanged
  split
  · split
    · exact steers_commitWaiting
    · split
      · exact steers_commitWaiting
      · exact steers_failover
  · split
    · exact steers_commitWaiting
    · exact steers_recoveryTest

/-- A switch recomputes the floor (R147), so a floor that stood stands after the handling. -/
theorem Steers.floor (h : Steers s r) (floor : s.tc.floor = floorOf s) : r.state.tc.floor = floorOf r.state := by
  rcases h with ⟨-, same⟩ | ⟨cause, new, write, rfl⟩
  · rw [service_floor same, service_highest same, floor]
  · exact makeSwitch_floor ..

theorem LevelAndFloor.after_tellCs (h : LevelAndFloor s) (steers : Steers s r) : LevelAndFloor (tellCs r) := by
  unfold tellCs
  split
  · next unswitched =>
    rcases steers with ⟨-, same⟩ | ⟨cause, new, write, rfl⟩
    · exact h.same same
    · cases unswitched
  · exact levelAndFloor_csHandover (steers.floor h.2) ..

theorem LevelAndFloor.after_steerIf (h : LevelAndFloor s) {b : Bool} {f : State → Steered} (steers : Steers s (f s)) :
    LevelAndFloor (steerIf b f s) := by
  unfold steerIf
  split
  · exact h.after_tellCs steers
  · exact h

theorem LevelAndFloor.after_triggerMoment (h : LevelAndFloor s) {t : Trigger} : LevelAndFloor (triggerMoment t s) := by
  unfold triggerMoment
  split
  · exact h.after_steerIf steers_fireTrigger
  · exact h

/-! ### Zone changes (R57) -/

/-- The zone entered gives another level at most: of the floors it changes none. -/
theorem LevelAndFloor.after_zoneChange (h : LevelAndFloor s) {d : ZoneIx} : LevelAndFloor (zoneChange d s) := by
  have active : (enterZone d s).active = s.active := active_of_selector (by simp)
  have floor : (enterZone d s).tc.floor = floorOf (enterZone d s) := by
    rw [floorOf_congr active (enterZone_links ..) (by simp) (by simp) (by simp), ← h.2]
    simp [enterZone]
  exact levelAndFloor_csHandover (steers_suZoneChanged.floor floor) ..

end

/-! ### Link changes (R131, R144) -/

@[simp] theorem moveEntries_service (s : State) (k : LinkIx) : (moveEntries k s).service = s.service := by
  have out : (takeOut k s).service = s.service := foldl_keeps State.service _ (fun _ _ => rfl) allShore s
  unfold moveEntries
  dsimp only
  split
  · exact (moveTo_keeps _ State.service (fun _ _ _ => rfl) (fun _ _ => rfl) (fun _ => rfl) _ _ _).trans out
  · exact out

section
variable {s : State} {k : LinkIx}

theorem LevelAndFloor.after_drainRow (h : LevelAndFloor s) : LevelAndFloor (drainRow k s) := by
  unfold drainRow
  split
  · exact h.same (moveEntries_service ..)
  · exact h

/-- SU takes up a change of link `k`: the level stands, and the floor too unless `k` is the active link; rows 1 and 2
recompute it there. -/
theorem levelAndFloor_suLinkChanged (level : s.cs.level = levelOf s)
    (floor : s.tc.floor = floorOf s
      ∨ s.active = some k ∧ ((s.link k).health.dead = true ∨ (s.link k).health.carries = true)) :
    LevelAndFloor (suLinkChanged k s) := by
  have settled : LevelAndFloor (floorRow k (failoverRow k s)) := by
    by_cases lost : (s.active == some k && (s.link k).health.dead) = true
    · have switched : LevelAndFloor (failoverRow k s) := by
        rw [failoverRow, steerIf, if_pos lost]
        exact levelAndFloor_csHandover (makeSwitch_floor ..) ..
      unfold floorRow
      split
      · exact ⟨switched.1, rfl⟩
      · exact switched
    · rw [failoverRow, steerIf, if_neg lost, floorRow]
      split
      · exact ⟨level, rfl⟩
      · next still =>
        refine ⟨level, floor.resolve_right ?_⟩
        rintro ⟨active, dead | carries⟩
        · exact lost (by simp [active, dead])
        · exact still (by simp [active, carries])
  exact (settled.after_drainRow.after_steerIf steers_commitStage).after_steerIf steers_recoveryTest

@[simp] theorem healthEvent_service (s : State) (k : LinkIx) (before after : Health) :
    (healthEvent k before after s).service = s.service := by
  rcases healthEvent_cases s k before after with ⟨-, e⟩ | ⟨-, e⟩ | ⟨-, -, e⟩ <;> rw [e]
  · rw [raise_service]; exact setLink_service fun _ => rfl
  · rw [raise_service]

/-- A link's record is written with its event, and the change handed to SU: the link is now one that SU fails over
from or recomputes the floor for, or it gives the floor it gave. -/
theorem LevelAndFloor.after_change (h : LevelAndFloor s) {l : Link}
    (change : l.health.dead = true ∨ l.health.carries = true ∨ l.floorGiven = (s.link k).floorGiven)
    {before after : Health} : LevelAndFloor (suLinkChanged k (healthEvent k before after (s.setLink k l))) := by
  have raised := healthEvent_service (s.setLink k l) k before after
  obtain ⟨su, -, n, links⟩ := healthEvent_spec (s.setLink k l) k before after
  have active : (healthEvent k before after (s.setLink k l)).active = s.active := congrArg Su.active su
  have health : ((healthEvent k before after (s.setLink k l)).link k).health = l.health := by
    rw [State.link, links, ← State.link]; simp
  refine levelAndFloor_suLinkChanged ?_ ?_
  · rw [service_level raised, service_due raised]; exact h.1
  · rw [service_floor raised, service_highest raised, active, health]
    by_cases other : s.active = some k → l.floorGiven = (s.link k).floorGiven
    · have written := setLink_service other
      exact .inl (by rw [service_floor written, service_highest written, h.2])
    · rw [Classical.not_imp] at other
      exact .inr ⟨other.1, (or_assoc.mpr change).resolve_right other.2⟩

theorem LevelAndFloor.after_changeHealth (h : LevelAndFloor s) {x : Health}
    (change : x = .trial → (s.link k).health.carries = false) : LevelAndFloor (changeHealth k x s) := by
  have entered : ((s.link k).enter x).health = x := by rw [Link.enter_eq]; split <;> rfl
  simp only [changeHealth]
  split
  · exact h
  · refine h.after_change ?_
    rw [entered]
    cases x with
    | off | down => exact .inl rfl
    | up | impaired => exact .inr (.inl rfl)
    | trial => exact .inr (.inr (Link.floorGiven_of_not_carries (change rfl)).symm)

/-- A link that carries never goes to TRIAL (R129). -/
theorem LevelAndFloor.after_evaluate (h : LevelAndFloor s) {o : ProbeOutcome} : LevelAndFloor (evaluate k o s) := by
  refine h.after_changeHealth fun trial => Bool.eq_false_iff.mpr fun carries => ?_
  rcases nextHealth_of_carries (o := o) carries with goes | goes <;> rw [trial] at goes <;> cases goes

/-! ### Probes, echoes and carriers (R122 to R124, R132) -/

theorem LevelAndFloor.after_setLink (h : LevelAndFloor s) {l : Link} (same : l.floorGiven = (s.link k).floorGiven) :
    LevelAndFloor (s.setLink k l) := h.same (setLink_service fun _ => same)

theorem LevelAndFloor.after_loseOutstanding (h : LevelAndFloor s) : LevelAndFloor (loseOutstanding k s) := by
  unfold loseOutstanding
  split
  · exact h
  · refine LevelAndFloor.after_evaluate ?_
    exact h.after_setLink rfl

theorem LevelAndFloor.after_buildProbe (h : LevelAndFloor s) : LevelAndFloor (buildProbe k s) := by
  simp only [buildProbe]
  split
  · refine LevelAndFloor.same ?_ (offerControl_service ..)
    exact h.after_setLink rfl
  · exact h.after_setLink rfl

theorem LevelAndFloor.after_probeTime (h : LevelAndFloor s) : LevelAndFloor (probeTime k s) := by
  unfold probeTime
  split
  · exact h
  · exact h
  · split
    · exact h.after_loseOutstanding.after_buildProbe.after_setLink rfl
    · exact h

theorem LevelAndFloor.after_echoIn (h : LevelAndFloor s) {port : Fin 4} {a n : Num16} :
    LevelAndFloor (echoIn port a n s) := by
  unfold echoIn
  split
  · exact h.same rfl
  · simp only [echoOf]
    split
    · exact h.after_setLink rfl
    · split
      · refine LevelAndFloor.after_evaluate ?_
        exact h.after_setLink rfl
      · exact h.after_setLink rfl

theorem LevelAndFloor.after_carrierLost (h : LevelAndFloor s) {port : Fin 4} :
    LevelAndFloor (carrierLost port s k) := by
  simp only [carrierLost]
  split
  · split
    · exact h.after_setLink rfl
    · refine LevelAndFloor.after_changeHealth ?_ nofun
      exact h.after_setLink rfl
  · exact h

theorem LevelAndFloor.after_shoreCarrierDown (h : LevelAndFloor s) {port : Fin 4} :
    LevelAndFloor (shoreCarrierDown port s) := by
  unfold shoreCarrierDown
  split
  · dsimp only
    split
    · exact h.same rfl
    · exact List.foldlRecOn _ _ (h.same (by simp)) fun _ kept _ _ => kept.after_carrierLost
  · exact h

/-! ### Requests that steer, and those that write a floor (R61, R119, R139 to R143, R164, R175) -/

theorem LevelAndFloor.after_writeLink (h : LevelAndFloor s) {a : LinkArgs} : LevelAndFloor (writeLink a s).2 := by
  unfold writeLink
  split
  · exact h.after_change (.inl (writtenLink_dead ..))
  · exact h

theorem LevelAndFloor.after_reloadZone (h : LevelAndFloor s) : LevelAndFloor (reloadZone s).2 := by
  unfold reloadZone
  split
  · exact h.after_zoneChange
  · exact h

/-- The selector written but for the slot in force. -/
theorem setSu_service {su : Su} (active : su.active = s.active) : ({ s with su := su } : State).service = s.service :=
  State.service_congr (levelOf_congr active rfl rfl) rfl (floorOf_congr active rfl rfl rfl rfl) rfl

theorem LevelAndFloor.after_stageLink (h : LevelAndFloor s) {link trigger : Byte} :
    LevelAndFloor (stageLink link trigger s).2 := by
  unfold stageLink
  split
  · next k t _ _ =>
    split
    · exact h
    · have staged : LevelAndFloor (writeStage k t s) := by
        refine h.same (setSu_service ?_)
        show (s.su.setSlot s.su.inForce.other (some k)).active = _
        rw [Su.active, Su.setSlot_inForce, Su.setSlot_slot, if_neg s.su.inForce.other_ne]; rfl
      exact staged.after_triggerMoment.after_steerIf steers_recoveryTest
  · exact h

theorem LevelAndFloor.after_cancelStage (h : LevelAndFloor s) : LevelAndFloor (cancelStage s).2 := by
  unfold cancelStage
  split
  · exact h
  · refine h.same (setSu_service ?_)
    show (s.su.setSlot s.su.inForce.other none).active = _
    rw [Su.active, Su.setSlot_inForce, Su.setSlot_slot, if_neg s.su.inForce.other_ne]; rfl

theorem LevelAndFloor.after_setFailoverOrder (h : LevelAndFloor s) {order : List Byte} :
    LevelAndFloor (setFailoverOrder order s).2 := by
  unfold setFailoverOrder
  split
  · exact h
  · split
    · exact h
    · refine LevelAndFloor.after_steerIf ?_ steers_recoveryTest
      exact h.same (setSu_service rfl)

theorem LevelAndFloor.after_setFloor (h : LevelAndFloor s) {b : Byte} : LevelAndFloor (setFloor b s).2 := by
  unfold setFloor
  split
  · exact h
  · exact ⟨h.1, rfl⟩

/-- Of the settings only the LIMITED floor is one of the three, and its change recomputes the floor (R11, R175). -/
theorem LevelAndFloor.after_configure (h : LevelAndFloor s) {a : ConfigureArgs} : LevelAndFloor (configure a s).2 := by
  unfold configure
  split
  · exact h
  · dsimp only
    split
    · next same => exact h.same (State.service_congr rfl rfl (floorOf_congr rfl rfl rfl same rfl) rfl)
    · exact ⟨h.1, rfl⟩

end

end Sys2Proof.Machine
end

section
/-! Every frame, request and step keeps the level and the floor in force computed (R11, R161). -/

namespace Sys2Proof.Machine

variable {s t : State}

/-! ### Selection and completion (R16 to R18, R133) -/

theorem LevelAndFloor.after_offerSelected (h : LevelAndFloor s) {p : Port} {b : EntryBody} :
    LevelAndFloor (offerSelected p b s) := by
  unfold offerSelected
  split
  · exact h.same rfl
  · next u k =>
    have metered := meter_service s u .uplink (transmissionMultiplier s (.up u k))
    split
    · next outcome => rw [outcome] at metered; exact h.same metered
    · next t outcome =>
      rw [outcome] at metered
      refine LevelAndFloor.same ?_ (transmit_service _ _ _ _)
      exact (h.same metered).after_setLink rfl
  · next u m dst =>
    have metered := meter_service s u .downlink (transmissionMultiplier s (.down u m dst))
    split <;> next outcome => rw [outcome] at metered; exact h.same metered

theorem LevelAndFloor.after_entrySelection (h : LevelAndFloor s) {p : Port} : LevelAndFloor (entrySelection p s) := by
  unfold entrySelection
  split
  · split
    · next q _ => exact (h.same (setQueue_service s p q)).after_offerSelected
    · exact h
  · exact h

@[simp] theorem transmissionCompletion_service (s : State) (p : Port) :
    (transmissionCompletion p s).service = s.service := by
  unfold transmissionCompletion
  split
  · rfl
  · unfold reportCompletion
    split
    · exact usageCompleted_service _
    · rfl
    · rfl
    · rfl

@[simp] theorem placeEndMarker_service (s : State) (k : LinkIx) : (placeEndMarker k s).service = s.service := by
  unfold placeEndMarker
  split
  · rfl
  · exact (offerControl_service _ _ _).trans (setSu_service rfl)

/-! ### Positions and the clock (R24, R46 to R52, R63) -/

theorem LevelAndFloor.after_confirm (h : LevelAndFloor s) {c : ZoneIx} : LevelAndFloor (confirm c s) := by
  unfold confirm
  split
  · exact h.same rfl
  · split
    · exact h.after_zoneChange.same rfl
    · exact h.same rfl

theorem LevelAndFloor.after_enterAtOnce (h : LevelAndFloor s) {c : ZoneIx} : LevelAndFloor (enterAtOnce c s) := by
  unfold enterAtOnce
  split
  · exact h.same rfl
  · exact h.after_zoneChange.same rfl

theorem LevelAndFloor.after_testWaypoint (h : LevelAndFloor s) {i : WaypointId} {before after : Nat} :
    LevelAndFloor (testWaypoint i before after s) := by
  simp only [testWaypoint]
  split
  · have fired : LevelAndFloor ((raise .waypoint (some (.waypoint i)) s).setWaypoint i
        { s.zu.waypoint i with armed := false }) := h.same (by simp)
    split
    · exact fired.after_triggerMoment
    · exact fired
  · exact h

theorem LevelAndFloor.after_acceptReport (h : LevelAndFloor s) {a : Nat} {x : Int} {q : Quality} {fix : Time} :
    LevelAndFloor (acceptReport a x q fix s) := by
  have taken : LevelAndFloor (zoneFault a x (acceptPosition a x q fix s)) := h.same (zoneFault_service _ a x)
  simp only [acceptReport]
  split
  · exact taken.after_enterAtOnce
  · exact taken.after_confirm.after_testWaypoint.after_testWaypoint

theorem LevelAndFloor.after_positionReport (h : LevelAndFloor s) {a : PositionArgs} :
    LevelAndFloor (positionReport a s).2 := by
  unfold positionReport
  split
  · split
    · exact h
    · dsimp only [takeReport]
      split
      · exact h
      · split
        · exact h.same rfl
        · exact h.after_acceptReport
  · exact h

theorem LevelAndFloor.after_lostDeadline (h : LevelAndFloor s) : LevelAndFloor (lostDeadline s) := by
  unfold lostDeadline
  split
  · split
    · refine LevelAndFloor.after_zoneChange (h.same ?_)
      rw [setCandidate_service, raise_service]; rfl
    · exact h
  · exact h

theorem LevelAndFloor.after_epochBoundary (h : LevelAndFloor s) : LevelAndFloor (epochBoundary s) := by
  unfold epochBoundary
  split
  · exact (h.same (t := ageHold (nextEpoch s)) rfl).after_triggerMoment
  · exact h

/-! ### Resets (R182 to R184) -/

/-- A cold part is LIMITED, with the LIMITED floor in force (R171). -/
theorem levelAndFloor_coldState (held : Bool) (s : State) : LevelAndFloor (coldState held s) := ⟨rfl, rfl⟩

theorem LevelAndFloor.after_coldReset (h : LevelAndFloor s) {c : ColdCause} : LevelAndFloor (coldReset c s) := by
  unfold coldReset
  split
  · exact levelAndFloor_coldState _ s
  · split
    · exact levelAndFloor_coldState _ s
    · exact h
  · split
    · exact levelAndFloor_coldState _ s
    · exact h

theorem levelAndFloor_resetWarm (s : State) : LevelAndFloor (resetWarm s).2 := by
  dsimp only [resetWarm]
  exact ⟨warmReset_level s, warmReset_floor s⟩

theorem LevelAndFloor.after_reset (h : LevelAndFloor s) {p : Port} {kind : Byte} :
    LevelAndFloor (reset p kind s).2 := by
  unfold reset
  split
  · exact h.same rfl
  · exact levelAndFloor_resetWarm s
  · exact h

/-! ### A request or frame that arrives (R1, R5, R173) -/

theorem LevelAndFloor.after_arrive (h : LevelAndFloor s) {p : Port} {f : State → State}
    (taken : ∀ t, LevelAndFloor t → LevelAndFloor (f t)) : LevelAndFloor (arrive p f s) := by
  by_cases receives : Receives s p
  · rw [arrive_of_receives s f receives]
    exact taken _ (h.same rfl)
  · rw [arrive_of_not_receives s f receives]; exact h

theorem LevelAndFloor.after_respond (h : LevelAndFloor s) {rq : Request} {code : Byte} {r : Reply} :
    LevelAndFloor (respond rq code r s) := h.same (respond_service s rq code r)

theorem LevelAndFloor.after_handle (h : LevelAndFloor s) {rq : Request} {cmd : Command}
    {body : State → Reply × State} (rule : LevelAndFloor (body s).2) : LevelAndFloor (handle rq cmd body s) := by
  simp only [handle]
  split
  · exact h.after_respond
  split
  · exact h.after_respond
  split
  · exact h.after_respond
  · exact rule.after_respond

theorem LevelAndFloor.after_ask (h : LevelAndFloor s) {rq : Request} {cmd : Command} {body : State → Reply × State}
    (rule : ∀ t, LevelAndFloor t → LevelAndFloor (body t).2) : LevelAndFloor (ask rq cmd body s) := by
  refine h.after_arrive fun t h => ?_
  unfold admitRequest
  split
  · exact h.same rfl
  · exact h.after_handle (rule t h)

/-- A request whose rule changes nothing that the level and the floors rest on. -/
theorem LevelAndFloor.after_ask_frame (h : LevelAndFloor s) {rq : Request} {cmd : Command}
    {body : State → Reply × State} (same : ∀ t, (body t).2.service = t.service) : LevelAndFloor (ask rq cmd body s) :=
  h.after_ask fun t h => h.same (same t)

/-- Every command that a code can name keeps level and floor computed. -/
theorem LevelAndFloor.after_bodyOf (h : LevelAndFloor s) {p : Port} {xs : List Item} {cmd : Command} :
    LevelAndFloor (bodyOf p xs cmd s).2 := by
  cases cmd with
  | positionReport => exact h.after_positionReport
  | reloadZone => exact h.after_reloadZone
  | writeLink => exact h.after_writeLink
  | stageLink => exact h.after_stageLink
  | cancelStage => exact h.after_cancelStage
  | setFailoverOrder => exact h.after_setFailoverOrder
  | setFloor => exact h.after_setFloor
  | configure => exact h.after_configure
  | reset => exact h.after_reset
  | readStatus | readEvents | readCounters => exact h.same rfl
  | _ => exact h.same (by simp [bodyOf])

theorem LevelAndFloor.after_admitted (h : LevelAndFloor s) {rq : Request} {code : Byte} {xs : List Item} :
    LevelAndFloor (admitRequest rq (meRequest rq code xs) s) := by
  unfold admitRequest
  split
  · exact h.same rfl
  · unfold meRequest
    split
    · exact h.after_respond
    · exact h.after_handle h.after_bodyOf

theorem LevelAndFloor.after_takeIn (h : LevelAndFloor s) {p : Port} {bs : List Byte} :
    LevelAndFloor (takeIn p bs s) := by
  unfold takeIn
  split
  · exact h.same rfl
  · unfold passOn
    split
    · exact h.same (bearerIn_service s _ _ _)
    · exact h.same (radioStatusIn_service s _ _ _)
    · exact h.same (linkFrameIn_service s _ _ _)
    · exact h.after_echoIn
    · exact h.after_admitted
    · exact h.same rfl

theorem LevelAndFloor.after_unlessHeld (h : LevelAndFloor s) {f : State → State} (step : LevelAndFloor (f s)) :
    LevelAndFloor (unlessHeld f s) := by
  unfold unlessHeld
  split
  · exact h
  · exact step

/-! ### Every command -/

theorem LevelAndFloor.after_exec (h : LevelAndFloor s) {i : Instr} (e : exec i s = .next t) : LevelAndFloor t := by
  cases i with
  | badFrame => cases e; exact h.after_arrive fun _ h => h.after_takeIn
  | bearerUplinkIntake | linkFrameIntake | radioStatus =>
    cases e; exact h.after_arrive fun _ h => h.same (by simp)
  | echo => cases e; exact h.after_arrive fun _ h => h.after_echoIn
  | badCommand => cases e; exact h.after_arrive fun _ h => h.after_admitted
  | positionReport => cases e; exact h.after_ask fun _ h => h.after_positionReport
  | reloadZone => cases e; exact h.after_ask fun _ h => h.after_reloadZone
  | writeLink => cases e; exact h.after_ask fun _ h => h.after_writeLink
  | stageLink => cases e; exact h.after_ask fun _ h => h.after_stageLink
  | cancelStage => cases e; exact h.after_ask fun _ h => h.after_cancelStage
  | setFailoverOrder => cases e; exact h.after_ask fun _ h => h.after_setFailoverOrder
  | setFloor => cases e; exact h.after_ask fun _ h => h.after_setFloor
  | configure => cases e; exact h.after_ask fun _ h => h.after_configure
  | resetWarm => cases e; exact h.after_ask fun t _ => levelAndFloor_resetWarm t
  | readStatus | readEvents | readCounters | resetCold => cases e; exact h.after_ask_frame fun _ => rfl
  | createContext | modifyContext | suspendContext | resumeContext | topUp | releaseContext | readContext | findContext
  | readZone | readLink | readRadioUnit | closePeriod | writeZone | armWaypoint | disarmWaypoint | writeRadioUnit
  | openAttach | clearEvents =>
    cases e; exact h.after_ask_frame (by simp)
  | coldReset => cases e; exact h.after_coldReset
  | epochBoundary => cases e; exact h.after_unlessHeld h.after_epochBoundary
  | lostDeadline => cases e; exact h.after_unlessHeld h.after_lostDeadline
  | graceExpiry => cases e; exact h.after_unlessHeld h.after_graceExpiry
  | probeTime => cases e; exact h.after_unlessHeld h.after_probeTime
  | entrySelection => cases e; exact h.after_unlessHeld h.after_entrySelection
  | transmissionCompletion | endMarker | staleDeadline | heartbeatTime | livenessDeadline | usageFrameBuild
  | holdDrainMove | sweepVisit | periodSummary => cases e; exact h.after_unlessHeld (h.same (by simp))
  | shoreCarrierDown => cases e; exact h.after_shoreCarrierDown
  | cellCarrierChange => cases e; exact h.same (by simp)
  | shoreCarrierUp | resetInputAsserted => cases e; exact h.same rfl

theorem LevelAndFloor.after_idle (h : LevelAndFloor s) : LevelAndFloor (idle s) := by
  unfold idle
  split
  · exact h
  · split <;> exact h.same rfl

/-- Settles O8: every command keeps level and floor computed (`LevelAndFloor.after_exec`), and an idle step changes
nothing they rest on. -/
theorem stepKeepsLevelAndFloor : Obligations.StepKeepsLevelAndFloor := by
  intro s t computed e
  unfold step at e
  split at e
  · cases e; exact computed.after_idle
  · next i is _ =>
    have waiting : LevelAndFloor (s.withPending is) := computed.same rfl
    exact waiting.after_exec e

end Sys2Proof.Machine
end

section
/-! Heartbeat rounds, the coverage deadlines and the hand-over to CS (R160, R161, R165, R168). -/

namespace Sys2Proof.Machine

/-! ### The frames of a round (R165) -/

/-- The heartbeats of the entries `rs` that are configured on cell port `i`, in that order. -/
def heartbeatsOn (s : State) (i : Fin 4) (rs : List RuIx) : List Entry :=
  (rs.filter fun r => (s.ru r).state ≠ .unused && (s.ru r).port == i).map fun r =>
    { body := .control { dst := (s.ru r).addr, body := heartbeatNow s }, placed := s.me.clock }

section
variable {s t : State} {i : Fin 4} {r : RuIx} {rs : List RuIx}

/-- The frames depend on the entries and on what a heartbeat reports. -/
theorem heartbeatsOn_congr (entries : ∀ q ∈ rs, t.ru q = s.ru q) (beat : heartbeatNow t = heartbeatNow s)
    (clock : t.me.clock = s.me.clock) : heartbeatsOn t i rs = heartbeatsOn s i rs := by
  unfold heartbeatsOn
  rw [beat, clock, List.filter_congr fun q hq => by rw [entries q hq]]
  exact List.map_congr_left fun q hq => by rw [entries q (List.mem_filter.mp hq).1]

theorem heartbeatsOn_cons : heartbeatsOn s i (r :: rs) = heartbeatsOn s i [r] ++ heartbeatsOn s i rs := by
  rw [heartbeatsOn, heartbeatsOn, heartbeatsOn, ← List.map_append, ← List.filter_append, List.singleton_append]

theorem heartbeatsOn_length_le : (heartbeatsOn s i rs).length ≤ rs.length := by
  rw [heartbeatsOn, List.length_map]
  exact List.length_filter_le ..

/-- A heartbeat goes to the port of its entry, which has room, and to no other queue. -/
theorem sendHeartbeat_queue (s : State) (r : RuIx) (room : (s.port (.cell i)).queue.length < 512) :
    ((sendHeartbeat r s).port (.cell i)).queue = (s.port (.cell i)).queue ++ heartbeatsOn s i [r] := by
  unfold sendHeartbeat
  by_cases unused : (s.ru r).state = .unused
  · simp [unused, heartbeatsOn]
  simp only [beq_iff_eq, unused, if_false]
  by_cases here : (s.ru r).port = i
  · rw [here, offerControl_room _ _ _ (by simpa using room), place_port, if_pos rfl]
    simp [heartbeatsOn, unused, here]
  · rw [(offerControl_port _ _ _ _).2 (by simpa using here)]
    simp [heartbeatsOn, here]

/-- A run of heartbeats, each entry named once. -/
theorem foldl_sendHeartbeat_queue (nodup : rs.Nodup) (s : State)
    (room : (s.port (.cell i)).queue.length + rs.length ≤ 512) :
    ((rs.foldl (fun s r => sendHeartbeat r s) s).port (.cell i)).queue
      = (s.port (.cell i)).queue ++ heartbeatsOn s i rs := by
  induction rs generalizing s with
  | nil => exact (List.append_nil _).symm
  | cons r rs ih =>
    obtain ⟨once, nodup⟩ := List.nodup_cons.mp nodup
    rw [List.length_cons] at room
    have sent := sendHeartbeat_queue s r (i := i) (by omega)
    have later : heartbeatsOn (sendHeartbeat r s) i rs = heartbeatsOn s i rs := by
      refine heartbeatsOn_congr (fun q hq => ?_) (heartbeatNow_sendHeartbeat s r) (sendHeartbeat_me_clock s r)
      rw [sendHeartbeat_ru_beaten, if_neg (by rintro rfl; exact once hq)]
    have one := heartbeatsOn_length_le (s := s) (i := i) (rs := [r])
    rw [List.foldl_cons, ih nodup, sent, later, List.append_assoc, ← heartbeatsOn_cons]
    rw [sent, List.length_append]
    rw [List.length_singleton] at one
    omega

theorem foldl_sendHeartbeat_ru (nodup : rs.Nodup) (s : State) (q : RuIx) :
    (rs.foldl (fun s r => sendHeartbeat r s) s).ru q = if q ∈ rs then (s.ru q).beaten else s.ru q := by
  induction rs generalizing s with
  | nil => simp
  | cons r rs ih =>
    obtain ⟨once, nodup⟩ := List.nodup_cons.mp nodup
    rw [List.foldl_cons, ih nodup, sendHeartbeat_ru_beaten]
    by_cases e : r = q
    · subst e; simp [once]
    · simp [e, Ne.symm e]

theorem allRus_nodup : allRus.Nodup := by decide

/-- A round counts one heartbeat in each configured entry. -/
theorem round_ru (s : State) (q : RuIx) : (round s).ru q = (s.ru q).beaten := by
  rw [round, foldl_sendHeartbeat_ru allRus_nodup, if_pos (mem_allRus q)]

/-- A round sends one frame to each configured entry, by its port. -/
theorem round_queue (s : State) (i : Fin 4) (room : (s.port (.cell i)).queue.length ≤ 496) :
    ((round s).port (.cell i)).queue = (s.port (.cell i)).queue ++ heartbeatsOn s i allRus :=
  foldl_sendHeartbeat_queue allRus_nodup s (Nat.add_le_add_right room 16)

/-- Of CS, a round changes the radio unit table alone. -/
theorem round_cs (s : State) : ∃ rus, (round s).cs = { s.cs with rus := rus } := by
  have runs : ∀ (rs : List RuIx) (t : State),
      ∃ rus, (rs.foldl (fun s r => sendHeartbeat r s) t).cs = { t.cs with rus := rus } := by
    intro rs
    induction rs with
    | nil => exact fun t => ⟨t.cs.rus, rfl⟩
    | cons r rs ih =>
      intro t
      obtain ⟨rus, rest⟩ := ih (sendHeartbeat r t)
      obtain ⟨_, first⟩ := sendHeartbeat_cs t r
      exact ⟨rus, by rw [List.foldl_cons, rest, first]⟩
  exact runs allRus s

end

/-! ### The deadlines (R160, R165, R168) -/

section
variable {s : State}

/-- The heartbeat time brings a round, and moves by the interval (R165). -/
theorem heartbeatTime_reached (reached : s.cs.nextHeartbeat.toNat ≤ s.me.clock.toNat) : heartbeatTime s
    = { round s with cs := { (round s).cs with
        nextHeartbeat := timeAfter s.cs.nextHeartbeat (s.cs.heartbeatInterval * 1000) } } := by
  obtain ⟨rus, cs⟩ := round_cs s
  simp only [heartbeatTime, (s.reached_iff _).mpr reached, if_true, cs]

theorem heartbeatTime_early (early : s.me.clock.toNat < s.cs.nextHeartbeat.toNat) : heartbeatTime s = s :=
  if_neg fun reached => Nat.not_le_of_lt early ((s.reached_iff _).mp reached)

/-- The level that R161 gives, row by row of its table. -/
theorem levelOf_eq (s : State) : levelOf s = match s.zu.zone.permit with
    | .silent => .silent
    | .limited => .limited
    | .serve => if s.active = none ∧ s.cs.grace = none then .limited else .full := by
  unfold levelOf
  cases s.zu.zone.permit
  · cases s.active <;> cases s.cs.grace <;> rfl
  · rfl
  · rfl

theorem graceExpiry_early {g : Time} (running : s.cs.grace = some g) (early : s.me.clock.toNat < g.toNat) :
    graceExpiry s = s := by
  have not_reached : ¬ s.reached g = true := fun reached => Nat.not_le_of_lt early ((s.reached_iff _).mp reached)
  simp only [graceExpiry, running, if_neg not_reached]

theorem graceExpiry_stopped (stopped : s.cs.grace = none) : graceExpiry s = s := by
  simp only [graceExpiry, stopped]

/-- At its expiry the grace timer stops, and a level that changes is recomputed with a round (R160). -/
theorem graceExpiry_reached {g : Time} (running : s.cs.grace = some g) (reached : g.toNat ≤ s.me.clock.toNat) :
    let s' : State := { s with cs := { s.cs with grace := none } }
    graceExpiry s = if levelOf s' = s.cs.level then s' else round (recomputeLevel s') := by
  intro s'
  simp only [graceExpiry, running, (s.reached_iff _).mpr reached, if_true, levelChanges, bne_iff_ne, ite_not]
  rfl

/-- A level that changes is written, with its event and the floor (R161). -/
theorem recomputeLevel_of_ne (changes : levelOf s ≠ s.cs.level) : recomputeLevel s = recomputeFloor
    (raise .serviceLevel (some (.level (levelOf s))) { s with cs := { s.cs with level := levelOf s } }) := by
  rcases recomputeLevel_cases s with ⟨same, -⟩ | ⟨-, e⟩
  · exact absurd same changes
  · exact e

theorem recomputeLevel_of_eq (same : levelOf s = s.cs.level) : recomputeLevel s = s := by
  rcases recomputeLevel_cases s with ⟨-, e⟩ | ⟨changes, -⟩
  · exact e
  · exact absurd same changes

/-- The liveness deadline of an ALIVE entry makes it LOST (R168). -/
theorem livenessDeadline_reached {r : RuIx} {d : Time} (alive : (s.ru r).state = .alive)
    (running : (s.ru r).deadline = some d) (reached : d.toNat ≤ s.me.clock.toNat) : livenessDeadline r s
      = raise .ruLost (some (.ru r)) (s.setRu r { s.ru r with state := .lost, deadline := none }) := by
  simp only [livenessDeadline, alive, running, (s.reached_iff _).mpr reached, if_true]

theorem livenessDeadline_early {r : RuIx} {d : Time} (alive : (s.ru r).state = .alive)
    (running : (s.ru r).deadline = some d) (early : s.me.clock.toNat < d.toNat) : livenessDeadline r s = s := by
  have not_reached : ¬ s.reached d = true := fun reached => Nat.not_le_of_lt early ((s.reached_iff _).mp reached)
  simp only [livenessDeadline, alive, running, if_neg not_reached]

theorem livenessDeadline_other {r : RuIx} (other : (s.ru r).state ≠ .alive) : livenessDeadline r s = s := by
  unfold livenessDeadline
  dsimp only
  split
  · next alive _ => exact absurd alive other
  · rfl

end

/-! ### The hand-over (R160, R161, R165) -/

/-- The grace timer after a hand-over: as it was with no switch, loaded by one to none, stopped by one to a link
(R160). -/
def graceAfter (switched : Option (Option LinkIx)) (s : State) : Option Time :=
  match switched with
  | none => s.cs.grace
  | some (some _) => none
  | some none => if s.cs.graceTime = 0 then none else some (timeAfter s.me.clock (s.cs.graceTime * 1000000))

theorem graceAfter_eq (switched : Option (Option LinkIx)) (s : State) :
    (switched.elim s fun new => graceAtSwitch new s)
      = { s with cs := { s.cs with grace := graceAfter switched s } } := by
  rcases switched with _ | _ | k <;> rfl

/-- Settles O50: the round entry by entry, each deadline at its time, before it and when it does not run, and the
hand-over by the timer it leaves and whether the level changes. -/
theorem coverageDeadlinesAct : Obligations.CoverageDeadlinesAct := by
  intro s free
  have beats : exec .heartbeatTime s = .next (heartbeatTime s) := congrArg _ (unlessHeld_of_free s _ free)
  have expires : exec .graceExpiry s = .next (graceExpiry s) := congrArg _ (unlessHeld_of_free s _ free)
  have dies (r : RuIx) : exec (.livenessDeadline r) s = .next (livenessDeadline r s) :=
    congrArg _ (unlessHeld_of_free s _ free)
  rw [beats, expires]
  refine ⟨round_ru s, round_queue s, fun reached => congrArg _ (heartbeatTime_reached reached),
    fun early => congrArg _ (heartbeatTime_early early), fun g running => ?_,
    fun stopped => congrArg _ (graceExpiry_stopped stopped), fun r d alive running => ?_,
    fun r other => (dies r).trans (congrArg _ (livenessDeadline_other other)), fun gateChanged switched => ?_⟩
  · intro s' level
    have gives : levelOf s' = level := by
      rw [levelOf_eq]
      simp only [level, s', and_true]; rfl
    refine ⟨fun reached same => ?_, fun reached changes => ?_,
      fun early => congrArg _ (graceExpiry_early running early)⟩
    · rw [graceExpiry_reached running reached, if_pos (gives.trans same)]
    · have changes : levelOf s' ≠ s'.cs.level := gives ▸ changes
      rw [graceExpiry_reached running reached, if_neg changes, recomputeLevel_of_ne changes, gives]
      rfl
  · rw [dies]
    exact ⟨fun reached => congrArg _ (livenessDeadline_reached alive running reached),
      fun early => congrArg _ (livenessDeadline_early alive running early)⟩
  · intro grace timed level raised levelled
    have gives : levelOf timed = level := levelOf_eq timed
    have recomputes : recomputeLevel timed = levelled := by
      by_cases same : level = s.cs.level
      · rw [recomputeLevel_of_eq (gives.trans same)]
        exact (if_pos same).symm
      · rw [recomputeLevel_of_ne (s := timed) (gives ▸ same), gives]
        exact (if_neg same).symm
    have left : (switched.elim s fun new => graceAtSwitch new s) = timed := graceAfter_eq switched s
    rw [csHandover_eq, left, gives, recomputes]

end Sys2Proof.Machine
end

section
/-! Write Radio Unit and Set Floor (R11, R164, R167). -/

namespace Sys2Proof.Machine

/-- C0 to C3 are coded 0 to 3. -/
theorem readCellPort_iff (b : Byte) (p : Fin 4) : readCellPort b = some p ↔ b.toNat = p.val := by
  have := p.isLt
  unfold readCellPort readPort
  by_cases cell : b.toNat < 4
  · simp [cell, Fin.ext_iff]
  · by_cases shore : b.toNat - 4 < 4
    · simp [cell, shore]; omega
    · simp [cell, shore]; omega

section
variable {s : State} {a : RuArgs}

theorem writeRadioUnit_taken {r : RuIx} {configured : Bool} {port : Fin 4} (index : a.index.toNat = r.val)
    (code : readYesNo a.configured = some configured) (cell : a.cellPort.toNat = port.val) :
    let u := writtenRu (s.ru r) configured port a.addr
    writeRadioUnit a s = (.ok (ruItems u), s.setRu r u) := by
  simp only [writeRadioUnit, inRange_of_eq r index, code, (readCellPort_iff _ _).mpr cell]

theorem writeRadioUnit_refused (bad : 15 < a.index.toNat ∨ 1 < a.configured.toNat ∨ 3 < a.cellPort.toNat) :
    writeRadioUnit a s = (.refuse .badArgument, s) := by
  unfold writeRadioUnit
  split
  · next r configured port index code cell =>
    have index := (inRange_eq_some r).mp index
    have code := (readYesNo_iff _ _).mp code
    have cell := (readCellPort_iff _ _).mp cell
    have : a.configured.toNat ≤ 1 := by rw [code]; split <;> decide
    omega
  · rfl

/-- The largest of the three floors, each as R11 words it. -/
theorem floorOf_eq (s : State) : floorOf s
    = max (match s.active with
        | none => 0
        | some k =>
          if (s.link k).health = .up then (s.link k).cfg.upFloor
          else if (s.link k).health = .impaired then (s.link k).cfg.impairedFloor else 0)
      (max (if s.cs.level = .limited then s.cs.limitedFloor else 0) s.cs.hostFloor) := by
  have link (k : LinkIx) : (s.link k).floorGiven = if (s.link k).health = .up then (s.link k).cfg.upFloor
      else if (s.link k).health = .impaired then (s.link k).cfg.impairedFloor else 0 := by
    unfold Link.floorGiven; cases (s.link k).health <;> rfl
  have coverage : coverageFloor s = if s.cs.level = .limited then s.cs.limitedFloor else 0 := by
    unfold coverageFloor; cases s.cs.level <;> rfl
  rw [floorOf, coverage]
  cases active : s.active with
  | none => rw [linkFloor_of_blackout active]
  | some k => rw [linkFloor_of_active active, link]

theorem setFloor_taken {b : Byte} {f : Floor} (code : b.toNat = f.val) :
    let t : State := { s with cs := { s.cs with hostFloor := f } }
    setFloor b s
      = (.ok (items [byte f.val, byte (floorOf t).val]), { t with tc := { t.tc with floor := floorOf t } }) := by
  simp only [setFloor, inRange_of_eq f code]
  rfl

theorem setFloor_refused {b : Byte} (bad : 7 < b.toNat) : setFloor b s = (.refuse .badArgument, s) := by
  simp only [setFloor, inRange_of_le bad]
  rfl

end

/-- Settles O51: the entry that a request taken writes, the floor recomputed over the host floor given, and the
arguments outside their ranges. -/
theorem unitAndFloorRequestsWrite : Obligations.UnitAndFloorRequestsWrite := by
  intro s rq
  refine ⟨fun a r port passes index cell => ⟨fun yes => ?_, fun no => ?_⟩,
    fun a passes bad => ask_no passes (writeRadioUnit_refused bad), fun b passes => ⟨fun f code => ?_,
    fun bad => ask_no passes (setFloor_refused bad)⟩⟩
  · have code : readYesNo a.configured = some true := (readYesNo_iff _ _).mpr (by rw [yes]; rfl)
    exact ask_ok passes (writeRadioUnit_taken (s := s.got rq.port) index code cell)
  · have code : readYesNo a.configured = some false := (readYesNo_iff _ _).mpr (by rw [no]; rfl)
    exact ask_ok passes (writeRadioUnit_taken (s := s.got rq.port) index code cell)
  · have largest := floorOf_eq { s.got rq.port with cs := { s.cs with hostFloor := f } }
    have taken := setFloor_taken (s := s.got rq.port) code
    simp only [State.got_cs, largest] at taken
    exact ask_ok passes taken

end Sys2Proof.Machine
end

section
/-! Events: a raising, Read Events and Clear Events (R178 to R181). -/

namespace Sys2Proof.Machine

/-! ### Raising (R178, R179) -/

/-- Settles O24: the entry by `raise_event`; with a notice it finds room, and without one no port changes. -/
theorem raisingWritesItsEntry : Obligations.RaisingWritesItsEntry := by
  intro s k d noticed
  refine ⟨?_, fun j other => ?_, fun p a dest above room => ?_, fun silent => ?_⟩
  · rw [raise_event, if_pos rfl, Bool.decide_and, Bool.decide_eq_true]
  · rw [raise_event, if_neg other.symm]
  · rw [raise_noticed s k d p a dest above, offerControl_room _ p _ (by exact room), place_port, if_pos rfl]
    rfl
  · rw [raise_unnoticed s k d silent]; rfl

/-! ### The kinds by their places (R178, R181) -/

theorem EventKind.all_getElem? (n : Nat) (k : EventKind) : EventKind.all[n]? = some k ↔ n = k.ix.val := by
  have own : EventKind.all[k.ix.val]? = some k := by cases k <;> rfl
  have nodup : EventKind.all.Nodup := by decide
  constructor
  · intro here
    obtain ⟨within, -⟩ := List.getElem?_eq_some_iff.mp here
    exact (List.getElem?_inj within nodup).mp (here.trans own.symm)
  · rintro rfl; exact own

theorem readEventKind_iff (b : Byte) (k : EventKind) : readEventKind b = some k ↔ b.toNat = k.ix.val :=
  EventKind.all_getElem? b.toNat k

theorem readEventKind_eq_none (b : Byte) : readEventKind b = none ↔ 16 ≤ b.toNat :=
  List.getElem?_eq_none_iff

/-- A kind past the sixteen spoils the list (R181). -/
theorem readKinds_unlisted {bs : List Byte} (bad : ∃ b ∈ bs, 16 ≤ b.toNat) : readKinds bs = none := by
  induction bs with
  | nil => obtain ⟨b, mem, -⟩ := bad; cases mem
  | cons c bs ih =>
    obtain ⟨b, mem, beyond⟩ := bad
    rw [readKinds]
    split
    · next k ks first rest =>
      rcases List.mem_cons.mp mem with rfl | mem
      · rw [(readEventKind_eq_none b).mpr beyond] at first; cases first
      · rw [ih ⟨b, mem, beyond⟩] at rest; cases rest
    · rfl

/-- Within the sixteen the list names exactly the kinds of its bytes (R181). -/
theorem readKinds_listed {bs : List Byte} (listed : ∀ b ∈ bs, b.toNat < 16) :
    ∃ ks, readKinds bs = some ks ∧ ∀ k : EventKind, k ∈ ks ↔ ∃ b ∈ bs, b.toNat = k.ix.val := by
  induction bs with
  | nil => exact ⟨[], rfl, by simp⟩
  | cons c bs ih =>
    obtain ⟨within, listed⟩ := List.forall_mem_cons.mp listed
    obtain ⟨ks, rest, named⟩ := ih listed
    obtain ⟨k, first⟩ : ∃ k, readEventKind c = some k :=
      Option.ne_none_iff_exists'.mp fun unread => absurd ((readEventKind_eq_none c).mp unread) (Nat.not_le.mpr within)
    have place := (readEventKind_iff c k).mp first
    refine ⟨k :: ks, by rw [readKinds, first, rest], fun j => ?_⟩
    have head : j = k ↔ c.toNat = j.ix.val :=
      ⟨fun e => e ▸ place, fun e => EventKind.ix_injective (Fin.ext (e.symm.trans place))⟩
    rw [List.mem_cons, List.exists_mem_cons_iff, named, head]

/-! ### Read Events (R180) -/

/-- The entry of a kind after every entry is changed by `f`. -/
theorem event_map (s : State) (f : EventEntry → EventEntry) (k : EventKind) :
    State.event { s with me := { s.me with events := s.me.events.map f } } k = f (s.event k) := by
  simp [State.event]

/-! ### Clear Events (R181) -/

theorem clearKinds_event (s : State) (ks : List EventKind) (k : EventKind) :
    State.event { s with me := { s.me with events := clearKinds ks s.me.events } } k
      = if k ∈ ks then (s.event k).cleared else s.event k := by
  have named : (ks.any fun j => j.ix == k.ix) = true ↔ k ∈ ks := by
    simp only [List.any_eq_true, beq_iff_eq]
    exact ⟨fun ⟨j, mem, e⟩ => EventKind.ix_injective e ▸ mem, fun mem => ⟨k, mem, rfl⟩⟩
  simp only [State.event, clearKinds, Fin.getElem_fin, Vector.getElem_ofFn, Fin.eta, named]

theorem clearEvents_refused {bs : List Byte} (s : State) (bad : ∃ b ∈ bs, 16 ≤ b.toNat) :
    clearEvents bs s = (.refuse .badArgument, s) := by
  unfold clearEvents
  rw [readKinds_unlisted bad]
  split <;> rfl

theorem clearEvents_taken {bs : List Byte} {ks : List EventKind} (s : State) (few : bs.length ≤ 16)
    (read : readKinds bs = some ks) :
    clearEvents bs s = (.ok
      [item 1 (((EventKind.all.filter (ks.contains ·)).filter fun k => (s.event k).clears).flatMap fun k =>
          byte k.ix.val),
        item 2 (((EventKind.all.filter (ks.contains ·)).filter fun k =>
          (s.event k).pending && !(s.event k).clears).flatMap fun k => byte k.ix.val)],
      { s with me := { s.me with events := clearKinds ks s.me.events } }) := by
  unfold clearEvents
  rw [if_neg (Nat.not_lt.mpr few), read]
  rfl

/-- Settles O23: the entries shown; a list with a kind past the sixteen, and one of kinds, each entry cleared as
`clearKinds_event` says. -/
theorem eventsAreShownThenCleared : Obligations.EventsAreShownThenCleared := by
  refine ⟨fun s rq passes => ⟨(readEvents (s.got rq.port)).2, ask_ok passes rfl, rfl, fun k => ?_⟩,
    fun s rq kinds passes few => ⟨fun bad => ask_no passes (clearEvents_refused _ bad), fun listed => ?_⟩⟩
  · exact event_map (s.got rq.port) EventEntry.shown k
  · intro named hit rest
    obtain ⟨ks, read, members⟩ := readKinds_listed listed
    have names : EventKind.all.filter (ks.contains ·) = named := by
      refine List.filter_congr fun k _ => ?_
      rw [Bool.eq_iff_iff]
      simp [members]
    have mem (k : EventKind) : k ∈ named ↔ k ∈ ks := by
      rw [← names, List.mem_filter, List.contains_iff_mem]
      exact and_iff_right (List.mem_of_getElem? ((EventKind.all_getElem? _ k).mpr rfl))
    have left (k : EventKind) : ((s.event k).pending && !(s.event k).clears) = rest k := by
      simp only [EventEntry.clears, rest]
      cases (s.event k).pending <;> rfl
    have taken := clearEvents_taken (s.got rq.port) few read
    simp only [names, State.got_event, left] at taken
    refine ⟨_, ask_ok passes taken, rfl, fun k => (clearKinds_event (s.got rq.port) ks k).trans ?_⟩
    rw [State.got_event]
    by_cases listed : k ∈ ks
    · simp only [listed, mem, if_true, true_and]; rfl
    · rw [if_neg listed, if_neg fun h => listed ((mem k).mp h.1)]

end Sys2Proof.Machine
end

section
/-! Cold resets, and the state they leave (R182, R183). -/

namespace Sys2Proof.Machine

/-! ### The state right after a reset (R183) -/

/-- With its inputs released and no command waiting, the cold part is the part after reset. -/
theorem coldState_reset : coldState false State.reset = State.reset := by
  have ports : State.reset.ports.map PortState.afterCold = State.reset.ports := Vector.map_replicate
  rw [coldState, ports]
  rfl

theorem accountsSound_reset : AccountsSound State.reset := by
  refine ⟨fun i => ?_, fun e waits => ?_⟩
  · have record : State.reset.ctx i = Context.freeAt 0 := by simp [State.ctx, State.reset]
    rw [record]; exact Context.sound_freeAt 0
  · rcases waits with held | ⟨p, x, queued, -⟩
    · cases held
    · simp [State.port, State.reset, PortState.cold] at queued

/-- Settles O2, by what each invariant's development says of a cold part. -/
theorem invariantsHoldAtReset : Obligations.InvariantsHoldAtReset := by
  have queue (p : Port) : (State.reset.port p).queue = [] := by simp [State.port, State.reset, PortState.cold]
  obtain ⟨capacity, order⟩ := empty_sound queue rfl rfl rfl
  have bearers := bearersDistinct_coldState false State.reset
  have awaiting := awaitingExact_coldState false State.reset
  have selector := selectorSound_coldState false State.reset
  rw [coldState_reset] at bearers awaiting selector
  exact ⟨capacity, accountsSound_reset, bearers, awaiting, selector, ⟨rfl, rfl⟩, order⟩

/-! ### Reset (R182) -/

theorem argsOk_reset (v : Byte) : argsOk .reset [item 1 [v]] = true := rfl

theorem reset_refused {v : Byte} (p : Port) (s : State) (other : 1 < v.toNat) :
    reset p v s = (.refuse .badArgument, s) := by
  unfold reset
  split
  · omega
  · omega
  · rfl

/-- On a port whose carrier is UP the reset waits for its response (R182). -/
theorem resetCold_waits {p : Port} {s : State} (up : (s.port p).carrier = true) :
    resetCold p s = (coldReply, { s with me := { s.me with coldPending := .waiting } }) := by
  rw [resetCold, if_pos up]

/-! ### Cold resets by their causes (R183) -/

theorem coldReset_released {s : State} (held : s.resetHeld = true) :
    coldReset .inputReleased s = coldState false s := if_pos held

theorem coldReset_unasserted {s : State} (free : s.resetHeld = false) : coldReset .inputReleased s = s :=
  if_neg (by rw [free]; decide)

theorem coldReset_due {s : State} (free : s.resetHeld = false) (due : s.me.coldPending = .due) :
    coldReset .pendingReset s = coldState false s := if_pos (by rw [free, due]; rfl)

theorem coldReset_undue {s : State} (no : s.resetHeld = true ∨ s.me.coldPending ≠ .due) :
    coldReset .pendingReset s = s := by
  refine if_neg fun h => ?_
  obtain ⟨free, due⟩ : s.resetHeld = false ∧ s.me.coldPending = .due := by simpa using h
  exact no.elim (by simp [free]) (· due)

theorem resetInputAsserted_port (s : State) (p : Port) :
    (resetInputAsserted s).port p = { s.port p with queue := [], sending := none } := by
  simp [State.port, resetInputAsserted, PortState.held]

/-- Settles O60: the two answers of Reset, the cold reset of each cause, and the reset input asserted. -/
theorem coldResetClearsEverything : Obligations.ColdResetClearsEverything := by
  intro s cold
  refine ⟨fun rq passes => ?_, fun rq v passes other => ?_, rfl, fun held => congrArg _ (coldReset_released held),
    fun free => congrArg _ (coldReset_unasserted free), fun free due => congrArg _ (coldReset_due free due),
    fun no => congrArg _ (coldReset_undue no), _, rfl, rfl, resetInputAsserted_port s⟩
  · have up : ((s.got rq.port).port rq.port).carrier = true := (State.got_carrier s _ _).trans passes.1.2
    have asks : exec (.resetCold rq) s = .next (ask rq .reset (resetCold rq.port) s) := rfl
    rw [asks, ask_of_passes s _ passes, resetCold_waits up]
    rfl
  · rw [exec_badCommand_known s rq 46 _ .reset rfl (argsOk_reset v)]
    have read : bits 8 1 [item 1 [v]] = v := byte_items v
    refine ask_no passes (t := s.got rq.port) ?_
    rw [bodyOf, read]
    exact reset_refused rq.port _ other

end Sys2Proof.Machine
end

section
/-! Configure (R11, R175, R186). -/

namespace Sys2Proof.Machine

/-! ### Values of a list, by code (R186) -/

/-- C0 to C3 are coded 0 to 3, and S0 to S3 are coded 4 to 7. -/
theorem readPort_iff (b : Byte) (p : Port) : readPort b = some p ↔ b.toNat = (portIx p).val := by
  unfold readPort
  by_cases cell : b.toNat < 4
  · cases p <;> simp [cell, portIx, Fin.ext_iff]; omega
  · by_cases shore : b.toNat - 4 < 4
    · cases p <;> simp [cell, shore, portIx, Fin.ext_iff] <;> omega
    · cases p <;> simp [cell, shore, portIx] <;> omega

theorem readPort_eq_none (b : Byte) : readPort b = none ↔ 7 < b.toNat := by
  unfold readPort
  by_cases cell : b.toNat < 4
  · simp [cell]; omega
  · by_cases shore : b.toNat - 4 < 4
    · simp [cell, shore]; omega
    · simp [cell, shore]; omega

theorem readAccess_iff (b : Byte) (x : Access) : readAccess b = some x ↔ b.toNat = x.code := by
  unfold readAccess
  rcases h : b.toNat with _ | _ | _ | _ | n <;> cases x <;> simp [Access.code]

theorem readAccess_eq_none (b : Byte) : readAccess b = none ↔ 3 < b.toNat := by
  unfold readAccess
  rcases h : b.toNat with _ | _ | _ | _ | n <;> simp

/-! ### Pairs written in order (R175) -/

/-- Pairs written one after another into a table, each at the place and with the value that `read` gives it. -/
def writePairs {α : Type} {n : Nat} (read : PairArg → Option (Fin n × α)) :
    List PairArg → Vector α n → Option (Vector α n)
  | [], v => some v
  | a :: as, v => match read a with
    | some (i, x) => writePairs read as (v.set i x)
    | none => none

section
variable {α : Type} {n : Nat} {read : PairArg → Option (Fin n × α)} {as : List PairArg} {v w : Vector α n}
  {i : Fin n}

theorem writePairs_listed (listed : ∀ a ∈ as, read a ≠ none) : ∃ w, writePairs read as v = some w := by
  induction as generalizing v with
  | nil => exact ⟨v, rfl⟩
  | cons a as ih =>
    obtain ⟨first, listed⟩ := List.forall_mem_cons.mp listed
    obtain ⟨⟨i, x⟩, first⟩ := Option.ne_none_iff_exists'.mp first
    rw [writePairs, first]
    exact ih listed

theorem writePairs_unlisted (bad : ∃ a ∈ as, read a = none) : writePairs read as v = none := by
  induction as generalizing v with
  | nil => obtain ⟨a, mem, -⟩ := bad; cases mem
  | cons b as ih =>
    rw [writePairs]
    split
    · next first =>
      refine ih ?_
      obtain ⟨a, mem, unread⟩ := bad
      rcases List.mem_cons.mp mem with rfl | mem
      · rw [unread] at first; cases first
      · exact ⟨a, mem, unread⟩
    · rfl

/-- A place that no pair names keeps its value. -/
theorem writePairs_other (taken : writePairs read as v = some w) (other : ∀ a ∈ as, ∀ x, read a ≠ some (i, x)) :
    w[i] = v[i] := by
  induction as generalizing v with
  | nil => cases taken; rfl
  | cons a as ih =>
    obtain ⟨first, other⟩ := List.forall_mem_cons.mp other
    rw [writePairs] at taken
    split at taken
    · next j x pair =>
      have apart : j.val ≠ i.val := fun e => first x (pair.trans (by rw [Fin.ext e]))
      rw [ih taken other]
      exact Vector.getElem_set_ne _ _ apart
    · cases taken

/-- The last pair that names a place gives its value (R175). -/
theorem writePairs_last {pre post : List PairArg} {a : PairArg} {x : α}
    (taken : writePairs read (pre ++ a :: post) v = some w) (pair : read a = some (i, x))
    (later : ∀ b ∈ post, ∀ y, read b ≠ some (i, y)) : w[i] = x := by
  induction pre generalizing v with
  | nil =>
    rw [List.nil_append, writePairs, pair] at taken
    rw [writePairs_other taken later]
    exact Vector.getElem_set_self _
  | cons b pre ih =>
    rw [List.cons_append, writePairs] at taken
    split at taken
    · exact ih taken
    · cases taken

end

/-- A pair of the access levels: port and level. -/
def accessPair (a : PairArg) : Option (Fin 8 × Access) :=
  (readPort a.selector).bind fun p => (readAccess a.value).map fun l => (portIx p, l)

/-- A pair of the event levels: kind and level, clamped. -/
def levelPair (a : PairArg) : Option (Fin 16 × Floor) :=
  (readEventKind a.selector).map fun k => (k.ix, clampFloor a.value.toNat)

theorem writeAccess_eq (as : List PairArg) (v : Vector Access 8) : writeAccess as v = writePairs accessPair as v := by
  induction as generalizing v with
  | nil => rfl
  | cons a as ih =>
    rw [writeAccess, writePairs, accessPair]
    cases readPort a.selector with
    | none => rfl
    | some p => cases readAccess a.value with
      | none => rfl
      | some l => exact ih _

theorem writeLevels_eq (as : List PairArg) (v : Vector Floor 16) : writeLevels as v = writePairs levelPair as v := by
  induction as generalizing v with
  | nil => rfl
  | cons a as ih =>
    rw [writeLevels, writePairs, levelPair]
    cases readEventKind a.selector with
    | none => rfl
    | some k => exact ih _

theorem accessPair_eq_none (a : PairArg) : accessPair a = none ↔ 7 < a.selector.toNat ∨ 3 < a.value.toNat := by
  rw [← readPort_eq_none, ← readAccess_eq_none, accessPair]
  cases readPort a.selector <;> simp

theorem levelPair_eq_none (a : PairArg) : levelPair a = none ↔ 15 < a.selector.toNat := by
  rw [levelPair, Option.map_eq_none_iff]
  exact readEventKind_eq_none a.selector

theorem accessPair_iff (a : PairArg) (p : Port) (l : Access) :
    accessPair a = some (portIx p, l) ↔ a.selector.toNat = (portIx p).val ∧ a.value.toNat = l.code := by
  rw [← readPort_iff, ← readAccess_iff]
  simp only [accessPair, Option.bind_eq_some_iff, Option.map_eq_some_iff, Prod.mk.injEq]
  constructor
  · rintro ⟨q, port, l', level, place, rfl⟩
    exact ⟨portIx_injective place ▸ port, level⟩
  · rintro ⟨port, level⟩
    exact ⟨p, port, l, level, rfl, rfl⟩

theorem levelPair_iff (a : PairArg) (k : EventKind) (l : Floor) :
    levelPair a = some (k.ix, l) ↔ a.selector.toNat = k.ix.val ∧ clampFloor a.value.toNat = l := by
  rw [← readEventKind_iff]
  simp only [levelPair, Option.map_eq_some_iff, Prod.mk.injEq]
  constructor
  · rintro ⟨j, kind, place, level⟩
    exact ⟨EventKind.ix_injective place ▸ kind, level⟩
  · rintro ⟨kind, level⟩
    exact ⟨k, kind, rfl, level⟩

section
variable {as pre post : List PairArg} {x : PairArg}

theorem accessPairs_other {v w : Vector Access 8} {p : Port} (taken : writePairs accessPair as v = some w)
    (other : ∀ y ∈ as, y.selector.toNat ≠ (portIx p).val) : w[portIx p] = v[portIx p] :=
  writePairs_other taken fun y mem l pair => other y mem ((accessPair_iff y p l).mp pair).1

theorem levelPairs_other {v w : Vector Floor 16} {k : EventKind} (taken : writePairs levelPair as v = some w)
    (other : ∀ y ∈ as, y.selector.toNat ≠ k.ix.val) : w[k.ix] = v[k.ix] :=
  writePairs_other taken fun y mem l pair => other y mem ((levelPair_iff y k l).mp pair).1

theorem accessPairs_last {v w : Vector Access 8} {p : Port}
    (taken : writePairs accessPair (pre ++ x :: post) v = some w) (place : x.selector.toNat = (portIx p).val)
    (later : ∀ y ∈ post, y.selector.toNat ≠ (portIx p).val) : w[portIx p].code = x.value.toNat := by
  have listed : ¬ 3 < x.value.toNat := fun beyond => by
    rw [writePairs_unlisted ⟨x, by simp, (accessPair_eq_none x).mpr (.inr beyond)⟩] at taken
    cases taken
  obtain ⟨l, level⟩ := Option.ne_none_iff_exists'.mp (mt (readAccess_eq_none x.value).mp listed)
  have code := (readAccess_iff x.value l).mp level
  rw [writePairs_last taken ((accessPair_iff x p l).mpr ⟨place, code⟩)
    fun y mem l pair => later y mem ((accessPair_iff y p l).mp pair).1, code]

theorem levelPairs_last {v w : Vector Floor 16} {k : EventKind}
    (taken : writePairs levelPair (pre ++ x :: post) v = some w) (place : x.selector.toNat = k.ix.val)
    (later : ∀ y ∈ post, y.selector.toNat ≠ k.ix.val) : w[k.ix] = clampFloor x.value.toNat :=
  writePairs_last taken ((levelPair_iff x k _).mpr ⟨place, rfl⟩)
    fun y mem l pair => later y mem ((levelPair_iff y k l).mp pair).1

end

/-! ### Frame type and destinations (R175, step 1) -/

theorem readFrameType_taken {kept : BitVec 16} {x : Option (BitVec 16)}
    (listed : ∀ t, x = some t → 0x0600 ≤ t.toNat) : readFrameType kept x = some (x.getD kept) := by
  cases x with
  | none => rfl
  | some t => exact if_neg (Nat.not_lt.mpr (listed t rfl))

theorem readFrameType_refused (kept : BitVec 16) {t : BitVec 16} (low : t.toNat < 0x0600) :
    readFrameType kept (some t) = none := if_pos low

theorem readDest_listed (kept : Option (Port × Addr)) {x : Option (Option DestArg)}
    (listed : ∀ d, x = some (some d) → d.port.toNat < 8) : ∃ dest, readDest kept x = some dest := by
  match x with
  | none => exact ⟨_, rfl⟩
  | some none => exact ⟨_, rfl⟩
  | some (some d) =>
    have within : ¬ 7 < d.port.toNat := Nat.not_lt.mpr (Nat.le_of_lt_succ (listed d rfl))
    obtain ⟨p, port⟩ := Option.ne_none_iff_exists'.mp (mt (readPort_eq_none d.port).mp within)
    exact ⟨some (p, d.addr), by rw [readDest, port]⟩

theorem readDest_refused (kept : Option (Port × Addr)) {d : DestArg} (beyond : 7 < d.port.toNat) :
    readDest kept (some (some d)) = none := by rw [readDest, (readPort_eq_none _).mpr beyond]

/-- A destination left out stays, and one given is none or its port and address (R175, R186). -/
theorem readDest_spec {kept dest : Option (Port × Addr)} {x : Option (Option DestArg)}
    (read : readDest kept x = some dest) :
    (x = none → dest = kept) ∧ (x = some none → dest = none)
      ∧ ∀ d p, x = some (some d) → d.port.toNat = (portIx p).val → dest = some (p, d.addr) := by
  refine ⟨?_, ?_, ?_⟩
  · rintro rfl; cases read; rfl
  · rintro rfl; cases read; rfl
  · rintro d p rfl port
    rw [readDest, (readPort_iff _ _).mpr port] at read
    cases read; rfl

/-! ### Clamped values (R175, step 2) -/

theorem lostTaken_eq (kept : Nat) (x : Option (BitVec 32)) :
    lostTaken kept x = clamped 0 3600 kept (x.map BitVec.toNat) := by
  cases x with
  | none => rfl
  | some t => exact (Nat.zero_max _).symm

theorem floorTaken_val (kept : Floor) (x : Option Byte) :
    (floorTaken kept x).val = clamped 0 7 kept.val (x.map BitVec.toNat) := by
  cases x with
  | none => rfl
  | some b => exact (Nat.zero_max _).symm

/-! ### The settings after a Configure (R175) -/

/-- The settings of `v` with the values of `a` taken, and those that are read beforehand. -/
def takenSettings (a : ConfigureArgs) (v : Settings) (noticeDest collector : Option (Port × Addr))
    (access : Vector Access 8) (levels : Vector Floor 16) : Settings where
  epochLength := clamped 1 1000 v.epochLength (a.epochLength.map BitVec.toNat)
  frameType := a.frameType.getD v.frameType
  noticeDest := noticeDest
  collector := collector
  access := access
  staleTimeout := clamped 1 600 v.staleTimeout (a.staleTimeout.map BitVec.toNat)
  lostTimeout := clamped 0 3600 v.lostTimeout (a.lostTimeout.map BitVec.toNat)
  ruTimeout := clamped 1 60 v.ruTimeout (a.ruTimeout.map BitVec.toNat)
  heartbeatInterval := clamped 100 10000 v.heartbeatInterval (a.heartbeatInterval.map BitVec.toNat)
  graceTime := clamped 0 300 v.graceTime (a.graceTime.map BitVec.toNat)
  holdAge := clamped 1 120 v.holdAge (a.holdAge.map BitVec.toNat)
  maxStep := clamped 1 65535 v.maxStep (a.maxStep.map BitVec.toNat)
  confirmCount := clamped 1 8 v.confirmCount (a.confirmCount.map BitVec.toNat)
  limitedFloor := floorTaken v.limitedFloor a.limitedFloor
  noticeFloor := floorTaken v.noticeFloor a.noticeFloor
  levels := levels

section
variable {a : ConfigureArgs} {v : Settings}

theorem newSettings_taken {noticeDest collector : Option (Port × Addr)} {access : Vector Access 8}
    {levels : Vector Floor 16} (frameType : ∀ t, a.frameType = some t → 0x0600 ≤ t.toNat)
    (notices : readDest v.noticeDest a.noticeDest = some noticeDest)
    (records : readDest v.collector a.collector = some collector)
    (accesses : writePairs accessPair a.access v.access = some access)
    (kinds : writePairs levelPair a.eventLevels v.levels = some levels)
    (order : clamped 1 600 v.staleTimeout (a.staleTimeout.map BitVec.toNat)
      < clamped 0 3600 v.lostTimeout (a.lostTimeout.map BitVec.toNat)) :
    newSettings a v = some (takenSettings a v noticeDest collector access levels) := by
  rw [← writeAccess_eq] at accesses
  rw [← writeLevels_eq] at kinds
  simp only [newSettings, readFrameType_taken frameType, notices, records, accesses, kinds, lostTaken_eq,
    if_neg (Nat.not_le.mpr order)]
  rfl

/-- Configure is refused whole for each of its arguments outside its list, and for the order of the timeouts. -/
theorem newSettings_refused
    (bad : (∃ t, a.frameType = some t ∧ t.toNat < 0x0600)
      ∨ (∃ d, a.noticeDest = some (some d) ∧ 7 < d.port.toNat)
      ∨ (∃ d, a.collector = some (some d) ∧ 7 < d.port.toNat)
      ∨ (∃ x ∈ a.access, 7 < x.selector.toNat ∨ 3 < x.value.toNat)
      ∨ (∃ x ∈ a.eventLevels, 15 < x.selector.toNat)
      ∨ clamped 0 3600 v.lostTimeout (a.lostTimeout.map BitVec.toNat)
        ≤ clamped 1 600 v.staleTimeout (a.staleTimeout.map BitVec.toNat)) :
    newSettings a v = none := by
  unfold newSettings
  split
  · next frameType notices records accesses kinds =>
    rcases bad with ⟨t, given, low⟩ | ⟨d, given, beyond⟩ | ⟨d, given, beyond⟩ | ⟨x, mem, beyond⟩
      | ⟨x, mem, beyond⟩ | order
    · rw [given, readFrameType_refused _ low] at frameType; cases frameType
    · rw [given, readDest_refused _ beyond] at notices; cases notices
    · rw [given, readDest_refused _ beyond] at records; cases records
    · rw [writeAccess_eq, writePairs_unlisted ⟨x, mem, (accessPair_eq_none x).mpr beyond⟩] at accesses
      cases accesses
    · rw [writeLevels_eq, writePairs_unlisted ⟨x, mem, (levelPair_eq_none x).mpr beyond⟩] at kinds
      cases kinds
    · rw [lostTaken_eq]
      exact if_pos order
  · rfl

end

/-! ### Configure (R11, R175) -/

/-- The state with the settings `v` written, and the floor recomputed where its LIMITED floor is new. -/
def configured (v : Settings) (s : State) : State :=
  if v.limitedFloor = s.cs.limitedFloor then writeSettings v s else recomputeFloor (writeSettings v s)

section
variable {a : ConfigureArgs} {v : Settings} {s : State}

theorem configure_refused (bad : newSettings a (settingsOf s) = none) :
    configure a s = (.refuse .badArgument, s) := by
  rw [configure, bad]; rfl

theorem configure_taken (new : newSettings a (settingsOf s) = some v) :
    configure a s = (.ok (settingItems v), configured v s) := by
  rw [configure, new]; rfl

/-- Of what a Configure leaves, only the floor in force depends on the recompute. -/
theorem configured_eq (v : Settings) (s : State) :
    configured v s = { writeSettings v s with tc := { s.tc with floor := (configured v s).tc.floor } } := by
  unfold configured
  split <;> rfl

theorem configured_me (v : Settings) (s : State) : (configured v s).me = (writeSettings v s).me := by
  rw [configured_eq]

theorem configured_noticeDest (v : Settings) (s : State) : (configured v s).me.noticeDest = v.noticeDest := by
  rw [configured_eq]; rfl

theorem configured_access (v : Settings) (s : State) (p : Port) :
    (configured v s).access p = v.access[portIx p] := by rw [configured_eq]; rfl

theorem configured_collector (v : Settings) (s : State) : (configured v s).ur.collector = v.collector := by
  rw [configured_eq]; rfl

theorem configured_limitedFloor (v : Settings) (s : State) : (configured v s).cs.limitedFloor = v.limitedFloor := by
  rw [configured_eq]; rfl

theorem configured_floor_same (same : v.limitedFloor = s.cs.limitedFloor) :
    (configured v s).tc.floor = s.tc.floor := by
  rw [configured, if_pos same]; rfl

theorem configured_floor_new (new : v.limitedFloor ≠ s.cs.limitedFloor) :
    (configured v s).tc.floor = floorOf (configured v s) := by
  rw [configured, if_neg new]; rfl

theorem configured_event (v : Settings) (s : State) (k : EventKind) :
    (configured v s).event k = { s.event k with level := v.levels[k.ix] } := by
  rw [configured_eq]
  simp [State.event, writeSettings, setLevels]

theorem configured_level (v : Settings) (s : State) (k : EventKind) :
    ((configured v s).event k).level = v.levels[k.ix] := congrArg EventEntry.level (configured_event v s k)

theorem settingsOf_level (s : State) (k : EventKind) : (settingsOf s).levels[k.ix] = (s.event k).level := by
  simp [settingsOf, State.event]

/-- What is reported is what was written (R175). -/
theorem settingsOf_configured (v : Settings) (s : State) : settingsOf (configured v s) = v := by
  have levels : (setLevels s.me.events v.levels).map EventEntry.level = v.levels := by
    ext i within; simp [setLevels]
  rw [configured_eq, settingsOf]
  simp only [writeSettings, levels]

end

/-! ### The report (R175, R186) -/

theorem toList_map_eq_finRange {α β : Type} {n : Nat} (v : Vector α n) (f : α → β) :
    v.toList.map f = (List.finRange n).map fun i => f v[i] := by
  have listed : v.toList = (List.finRange n).map (v[·]) := by
    rw [← List.ofFn_eq_map, ← Vector.toList_ofFn]
    exact congrArg Vector.toList Vector.ofFn_getElem.symm
  rw [listed, List.map_map]
  rfl

/-- A destination as a result: port and address, or nothing (R186). -/
theorem destBytes_some (p : Port) (addr : Addr) :
    destBytes (some (p, addr)) = BitVec.ofNat 8 (portIx p).val :: beBytes 6 addr.toNat := by
  rw [destBytes, byte_eq]; rfl

/-- Settles O58: `newSettings_refused` for the refusals; else the settings taken are written (`configured_eq`), with
the pairs written in order (`writePairs_other`, `writePairs_last`). -/
theorem configureWritesSettings : Obligations.ConfigureWritesSettings := by
  intro s rq a passes kept stale lost
  refine ⟨fun bad => ask_no passes (configure_refused (newSettings_refused bad)), ?_, ?_⟩
  · intro frameType notices collects accesses kinds order
    obtain ⟨noticeDest, destRead⟩ := readDest_listed s.me.noticeDest notices
    obtain ⟨collector, collectorRead⟩ := readDest_listed s.ur.collector collects
    obtain ⟨access, accessTaken⟩ := writePairs_listed (v := s.me.access) fun x mem unread =>
      absurd ((accessPair_eq_none x).mp unread) (by have := accesses x mem; omega)
    obtain ⟨levels, levelsTaken⟩ := writePairs_listed (v := (settingsOf s).levels) fun x mem unread =>
      absurd ((levelPair_eq_none x).mp unread) (by have := kinds x mem; omega)
    let g := s.got rq.port
    let w := takenSettings a (settingsOf g) noticeDest collector access levels
    have new : newSettings a (settingsOf g) = some w :=
      newSettings_taken frameType destRead collectorRead accessTaken levelsTaken order
    obtain ⟨destKept, destNone, destGiven⟩ := readDest_spec destRead
    obtain ⟨collectorKept, collectorNone, collectorGiven⟩ := readDest_spec collectorRead
    refine ⟨configured w g, ?_⟩
    rw [settingsOf_configured, configured_limitedFloor, configured_noticeDest, configured_collector, configured_me]
    refine ⟨ask_ok passes (configure_taken new), configured_eq w g, floorTaken_val _ _, floorTaken_val _ _,
      configured_floor_same (s := g), configured_floor_new (s := g), destKept, destNone, destGiven, collectorKept,
      collectorNone, collectorGiven, fun p other => ?_, fun p x pre post split place later => ?_, fun k => ?_,
      fun k other => ?_, fun k x pre post split place later => ?_⟩
    · exact (configured_access w g p).trans (accessPairs_other accessTaken other)
    · rw [split] at accessTaken
      rw [configured_access]
      exact accessPairs_last accessTaken place later
    · rw [configured_level]
      exact configured_event w g k
    · exact (configured_level w g k).trans ((levelPairs_other levelsTaken other).trans (settingsOf_level g k))
    · rw [split] at levelsTaken
      exact congrArg Fin.val ((configured_level w g k).trans (levelPairs_last levelsTaken place later))
  · intro dest v
    have dests (d : Option (Port × Addr)) : destBytes d = dest d := by
      rcases d with _ | ⟨p, addr⟩
      · rfl
      · exact destBytes_some p addr
    simp only [settingItems, toList_map_eq_finRange, byte_eq, dests]
    rfl

end Sys2Proof.Machine
end

section
/-! The bytes of a frame that is sent: the fields of each kind at the places the tables of R185 to R187 give. -/

namespace Sys2Proof.Machine

/-! ### Numbers laid one after another (R185) -/

/-- Numbers as bytes, each given with its size, one after another. -/
def layout (fs : List (Nat × Nat)) : List Byte := fs.flatMap fun f => beBytes f.1 f.2

/-- The numbers stand in `bs` one after another, from byte `i` on. -/
def FieldsAt (bs : List Byte) : Nat → List (Nat × Nat) → Prop
  | _, [] => True
  | i, (n, x) :: fs => field bs i n = x ∧ FieldsAt bs (i + n) fs

section
variable {bs a b rest : List Byte} {i n : Nat}

/-- What stands after `a`. -/
theorem drop_past (h : bs.drop i = a ++ b) (len : a.length = n) : bs.drop (i + n) = b := by
  rw [← List.drop_drop, h, ← len, List.drop_left]

/-- Numbers that fit their sizes are read back where they were laid. -/
theorem fieldsAt_of_drop {fs : List (Nat × Nat)} (h : bs.drop i = a ++ rest) (laid : a = layout fs)
    (fits : ∀ f ∈ fs, f.2 < 256 ^ f.1) : FieldsAt bs i fs := by
  subst laid
  induction fs generalizing i with
  | nil => trivial
  | cons f fs ih =>
    obtain ⟨n, x⟩ := f
    obtain ⟨first, others⟩ := List.forall_mem_cons.mp fits
    rw [layout, List.flatMap_cons, List.append_assoc] at h
    refine ⟨?_, ih others (drop_past h (beBytes_length n x))⟩
    calc field bs i n = field (bs.drop i) 0 n := rfl
      _ = x % 256 ^ n := by rw [h, field_first_beBytes]
      _ = x := Nat.mod_eq_of_lt first

end

theorem beBytes_append (m n x : Nat) : beBytes m (x / 256 ^ n) ++ beBytes n x = beBytes (m + n) x := by
  induction m with
  | zero => rw [Nat.zero_add]; rfl
  | succ m ih =>
    rw [Nat.succ_add, beBytes, beBytes, List.cons_append, ih, Nat.div_div_eq_div_mul, ← Nat.pow_add, Nat.add_comm n m]

/-- Zero bytes before a number make it a number of more bytes. -/
theorem beBytes_zero_append {m n x : Nat} (fits : x < 256 ^ n) : beBytes m 0 ++ beBytes n x = beBytes (m + n) x := by
  rw [← beBytes_append, Nat.div_eq_of_lt fits]

/-! ### Codes, each listed at its own place (R185 to R187) -/

theorem SwitchCause.code_listed (c : SwitchCause) :
    c.code < 256 ∧ ([.staged, .failover, .zone, .recovery] : List SwitchCause)[c.code]? = some c := by
  cases c <;> decide

theorem Health.code_listed (h : Health) :
    h.code < 256 ∧ ([.off, .down, .trial, .up, .impaired] : List Health)[h.code]? = some h := by
  cases h <;> decide

theorem ServiceLevel.code_listed (l : ServiceLevel) :
    l.code < 256 ∧ ([.full, .limited, .silent] : List ServiceLevel)[l.code]? = some l := by
  cases l <;> decide

theorem Gate.code_listed (g : Gate) : g.code < 256 ∧ ([.open, .closed] : List Gate)[g.code]? = some g := by
  cases g <;> decide

theorem linkKindCode_listed (k : Option LinkKind) : linkKindCode k < 256
    ∧ ([none, some .microwave, some .shoreCell, some .satellite] : List (Option LinkKind))[linkKindCode k]? = some k := by
  rcases k with _ | k
  · decide
  · cases k <;> decide

theorem Status.code_listed (s : Status) : s.code < 256
    ∧ ([.ok, .busy, .denied, .badCommand, .badArgument, .notFound, .duplicate, .tableFull, .wrongState,
        .attachClosed, .backlog, .notPresent, .overLimit] : List Status)[s.code]? = some s := by
  cases s <;> decide

theorem RecordKind.code_listed (k : RecordKind) :
    k.code < 256 ∧ ([.interval, .final, .periodSummary] : List RecordKind)[k.code]? = some k := by
  cases k <;> decide

theorem WaypointId.code_eq (w : WaypointId) : w.code = if w = .w0 then 0 else 1 := by cases w <;> rfl

theorem linkOr255_eq (k : Option LinkIx) : linkOr255 k = (k.map Fin.val).getD 255 := by cases k <;> rfl

theorem linkOr255_lt (k : Option LinkIx) : linkOr255 k < 256 := by
  rcases k with _ | k
  · decide
  · exact lt_trans k.isLt (by decide)

/-! ### Code and length of every kind (R185 to R187) -/

@[simp] theorem recordBytes_length (r : UrqRecord) : (recordBytes r).length = 90 := by simp [recordBytes, byte, beInt64]

theorem itemsBytes_length (rs : List Item) : (rs.flatMap itemBytes).length = (rs.map fun x => 2 + x.value.length).sum := by
  rw [List.length_flatMap]
  refine congrArg List.sum (List.map_congr_left fun x _ => ?_)
  rw [itemBytes_eq, List.length_cons, List.length_cons, Nat.add_comm 2]

@[simp] theorem detailField_length (d : Option Detail) : (detailField d).length = 8 := by
  rcases d with _ | d
  · rfl
  · cases d <;> rfl

@[simp] theorem noticeDetail_length (n : BearerNotice) : (noticeDetail n).length = 9 := by cases n <;> rfl

@[simp] theorem oldLinkBytes_length (old : Option (Num16 × Num32)) (lost : Bool) : (oldLinkBytes old lost).length = 7 := by
  cases old <;> rfl

theorem jzKind_lt (c : Carried) : jzKind c < 256 := by
  match c with
  | .bare e => simp only [jzKind]; split <;> decide
  | .link .. => simp [jzKind]
  | .control body => cases body <;> simp [jzKind]

/-- Each kind is laid out under its code (R185). -/
theorem Carried.jz_eq (c : Carried) : c.jz = jzFrame (jzKind c) (c.jz.drop 4) := by
  match c with
  | .bare e =>
    have code : jzKind (.bare e) = bearerKindCode e.frame.kind := by simp only [jzKind]; cases e.frame.kind <;> rfl
    rw [code]; rfl
  | .link .. => rfl
  | .control body => cases body <;> rfl

/-- Each kind is of its JZ length (R185). -/
theorem Carried.jz_length (c : Carried) : c.jz.length = jzLength c := by
  match c with
  | .bare e => exact bearerJz_length e.frame
  | .link a n e => simp [Carried.jz, jzFrame_length, linkHeader, bearerJz_length, jzLength]; omega
  | .control body =>
    rw [Carried.jz]
    cases body with
    | response tag code status rs cold =>
      rw [controlJz, jzFrame_length, List.length_append, itemsBytes_length, jzLength]; simp [byte]; omega
    | usage rs => simp [controlJz, jzFrame_length, jzLength, byte, List.length_flatMap]; omega
    | _ => simp [controlJz, jzFrame_length, jzLength, linkHeader, byte]

/-! ### The JZ header and a bearer frame (R185) -/

section
variable {bs rest : List Byte} {i : Nat}

theorem headerAt_of_drop {kind : Nat} {body : List Byte} (h : bs.drop i = jzFrame kind body ++ rest)
    (small : kind < 256) (short : body.length < 65532) : HeaderAt bs i kind (4 + body.length) := by
  rw [jzFrame, List.append_assoc] at h
  obtain ⟨version, kind, length, -⟩ := fieldsAt_of_drop (fs := [(1, 1), (1, kind), (2, 4 + body.length)]) h
    (by simp [layout, jzHeader, byte]) (by simp; omega)
  exact ⟨version, kind, length⟩

theorem body_of_drop {kind : Nat} {body : List Byte} (h : bs.drop i = jzFrame kind body ++ rest) :
    bs.drop (i + 4) = body ++ rest := by
  rw [jzFrame, List.append_assoc] at h
  exact drop_past h rfl

/-- Every frame has the header of its kind, for each kind is laid out under its code at its JZ length. -/
theorem headerAt_jz {c : Carried} (short : jzLength c < 65536) (h : bs.drop i = c.jz ++ rest) :
    HeaderAt bs i (jzKind c) (jzLength c) := by
  have size : 4 + (c.jz.drop 4).length = jzLength c := by
    rw [← c.jz_length, ← jzFrame_length, ← c.jz_eq]
  rw [c.jz_eq] at h
  exact size ▸ headerAt_of_drop h (jzKind_lt c) (by omega)

theorem bearerAt_of_drop {f : BearerFrame} (short : f.payload.length ≤ 9000) (h : bs.drop i = bearerJz f ++ rest) :
    BearerAt bs i f := by
  have body := body_of_drop h
  rw [List.append_assoc] at body
  obtain ⟨id, length, -⟩ := fieldsAt_of_drop (fs := [(4, f.bearerId.toNat), (2, f.payload.length)]) body
    (by simp [layout]) (by simp; omega)
  have payload : bs.drop (i + 4 + 6) = f.payload ++ rest := drop_past body (by simp)
  exact ⟨id, length, by rw [show i + 10 = i + 4 + 6 from rfl, payload, List.take_left]⟩

/-! ### Notices (R185, R186) -/

theorem detailAt_of_drop {d : Option Detail} (h : bs.drop i = detailField d ++ rest) : DetailAt bs i d := by
  rcases d with _ | d
  · exact (fieldsAt_of_drop (fs := [(8, 0)]) h rfl (by decide)).1
  cases d with
  | link k =>
    obtain ⟨link, zero, -⟩ := fieldsAt_of_drop (fs := [(1, k.val), (7, 0)]) h rfl (by simp; omega)
    exact ⟨link, zero⟩
  | linkState k health =>
    obtain ⟨small, listed⟩ := health.code_listed
    obtain ⟨link, code, zero, -⟩ := fieldsAt_of_drop (fs := [(1, k.val), (1, health.code), (6, 0)]) h rfl (by simp; omega)
    exact ⟨link, zero, code ▸ listed⟩
  | switch old new cause =>
    obtain ⟨small, listed⟩ := cause.code_listed
    obtain ⟨old, new, code, zero, -⟩ := fieldsAt_of_drop
      (fs := [(1, linkOr255 old), (1, linkOr255 new), (1, cause.code), (5, 0)]) h rfl
      (by have := linkOr255_lt old; have := linkOr255_lt new; simp; omega)
    exact ⟨old.trans (linkOr255_eq _), new.trans (linkOr255_eq _), code ▸ listed, zero⟩
  | level l =>
    obtain ⟨small, listed⟩ := l.code_listed
    obtain ⟨code, zero, -⟩ := fieldsAt_of_drop (fs := [(1, l.code), (7, 0)]) h rfl (by simp; omega)
    exact ⟨code ▸ listed, zero⟩
  | zone z g =>
    obtain ⟨zone, gen, zero, -⟩ := fieldsAt_of_drop (fs := [(1, z.val), (2, g.toNat), (5, 0)]) h rfl (by simp; omega)
    exact ⟨zone, gen, zero⟩
  | zoneIndex z =>
    obtain ⟨zone, zero, -⟩ := fieldsAt_of_drop (fs := [(1, z.val), (7, 0)]) h rfl (by simp; omega)
    exact ⟨zone, zero⟩
  | waypoint w =>
    obtain ⟨code, zero, -⟩ := fieldsAt_of_drop (fs := [(1, w.code), (7, 0)]) h rfl (by cases w <;> decide)
    exact ⟨code.trans w.code_eq, zero⟩
  | context j =>
    obtain ⟨ctx, zero, -⟩ := fieldsAt_of_drop (fs := [(2, j.val), (6, 0)]) h rfl (by simp; omega)
    exact ⟨ctx, zero⟩
  | ru r =>
    obtain ⟨ru, zero, -⟩ := fieldsAt_of_drop (fs := [(1, r.val), (7, 0)]) h rfl (by simp; omega)
    exact ⟨ru, zero⟩
  | period p =>
    obtain ⟨period, zero, -⟩ := fieldsAt_of_drop (fs := [(4, p.toNat), (4, 0)]) h rfl (by simp; omega)
    exact ⟨period, zero⟩

/-- The realm and the generation or balance stand 9 bytes after the kind, behind what every bearer notice has. -/
theorem noticeAt_of_drop {n : BearerNotice} (code : field bs i 1 = n.code)
    (h : bs.drop (i + 9) = noticeDetail n ++ rest) : NoticeAt bs i n := by
  cases n with
  | barred realm gen =>
    obtain ⟨realm, gen, -⟩ := fieldsAt_of_drop (fs := [(1, realm.val), (8, gen.toNat)]) h
      (by rw [noticeDetail, List.append_assoc, beBytes_zero_append (by omega)]; rfl) (by simp; omega)
    exact ⟨realm, gen, code⟩
  | suspended | resumed | released => exact ⟨(fieldsAt_of_drop (fs := [(9, 0)]) h rfl (by decide)).1, code⟩
  | exhausted b | lowBalance b =>
    obtain ⟨zero, balance, -⟩ := fieldsAt_of_drop (fs := [(1, 0), (8, (BitVec.ofInt 64 b).toNat)]) h rfl (by simp; omega)
    exact ⟨zero, balance, code⟩

theorem bearerNoticeAt {n : BearerNotice} {id : Num32} {c : CtxIx} {inc : Num16}
    (h : bs.drop i = controlJz (.bearerNotice n id c inc) ++ rest) : BodyAt bs i (.control (.bearerNotice n id c inc)) := by
  have small : n.code < 256 := by cases n <;> simp [BearerNotice.code]
  have body := body_of_drop h
  rw [List.append_assoc] at body
  obtain ⟨code, id, ctx, inc, -⟩ := fieldsAt_of_drop
    (fs := [(1, n.code), (4, id.toNat), (2, c.val), (2, inc.toNat)]) body (by simp [layout, byte]) (by simp; omega)
  exact ⟨noticeAt_of_drop code (drop_past body rfl), id, ctx, inc⟩

theorem noticeBodyAt {k : EventKind} {level : Floor} {raised : Time} {d : Option Detail}
    (h : bs.drop i = controlJz (.notice k level raised d) ++ rest) :
    BodyAt bs i (.control (.notice k level raised d)) := by
  have body := body_of_drop h
  rw [List.append_assoc] at body
  obtain ⟨kind, level, raised, -⟩ := fieldsAt_of_drop (fs := [(1, k.ix.val), (1, level.val), (8, raised.toNat)]) body
    (by simp [layout, byte]) (by simp; omega)
  exact ⟨(EventKind.all_getElem? _ k).mpr kind, level, raised, detailAt_of_drop (drop_past body (n := 10) rfl)⟩

/-! ### The frames of one link, and BACKHAUL_STATUS (R185) -/

theorem probeAt {a n : Num16} {t : Time} (h : bs.drop i = controlJz (.probe a n t) ++ rest) :
    BodyAt bs i (.control (.probe a n t)) := by
  obtain ⟨anchor, zero, number, time, -⟩ := fieldsAt_of_drop
    (fs := [(2, a.toNat), (4, 0), (2, n.toNat), (8, t.toNat)]) (body_of_drop h)
    (by simp [layout, linkHeader]) (by simp; omega)
  exact ⟨anchor, zero, number, time⟩

theorem switchMarkerAt {a n : Num16} {old : Option (Num16 × Num32)} {lost : Bool}
    (h : bs.drop i = controlJz (.switchMarker a n old lost) ++ rest) :
    BodyAt bs i (.control (.switchMarker a n old lost)) := by
  have body := body_of_drop h
  rcases old with _ | ⟨b, m⟩
  · obtain ⟨anchor, zero, number, none, -⟩ := fieldsAt_of_drop
      (fs := [(2, a.toNat), (4, 0), (2, n.toNat), (7, 0)]) body
      (by simp [layout, linkHeader, oldLinkBytes]; rfl) (by simp; omega)
    exact ⟨anchor, zero, number, fun _ => none, fun _ _ e => nomatch e⟩
  · obtain ⟨anchor, zero, number, way, old, last, -⟩ := fieldsAt_of_drop
      (fs := [(2, a.toNat), (4, 0), (2, n.toNat), (1, if lost = true then 2 else 1), (2, b.toNat), (4, m.toNat)]) body
      (by simp [layout, linkHeader, oldLinkBytes, byte]) (by simp; split <;> omega)
    exact ⟨anchor, zero, number, nofun, fun _ _ e => by cases e; exact ⟨way, old, last⟩⟩

theorem endMarkerAt {k : LinkIx} {a n : Num16} {last : Num32}
    (h : bs.drop i = controlJz (.endMarker k a n last) ++ rest) : BodyAt bs i (.control (.endMarker k a n last)) := by
  obtain ⟨anchor, zero, number, last, -⟩ := fieldsAt_of_drop
    (fs := [(2, a.toNat), (4, 0), (2, n.toNat), (4, last.toNat)]) (body_of_drop h)
    (by simp [layout, linkHeader]) (by simp; omega)
  exact ⟨anchor, zero, number, last⟩

theorem backhaulStatusAt {l : ServiceLevel} {g : Gate} {r : Realm} {f : Floor} {k : Option LinkKind} {gen : Num16}
    {t : Time} (h : bs.drop i = controlJz (.backhaulStatus l g r f k gen t) ++ rest) :
    BodyAt bs i (.control (.backhaulStatus l g r f k gen t)) := by
  obtain ⟨levelSmall, levelListed⟩ := l.code_listed
  obtain ⟨gateSmall, gateListed⟩ := g.code_listed
  obtain ⟨kindSmall, kindListed⟩ := linkKindCode_listed k
  obtain ⟨level, gate, realm, floor, kind, gen, time, -⟩ := fieldsAt_of_drop
    (fs := [(1, l.code), (1, g.code), (1, r.val), (1, f.val), (1, linkKindCode k), (2, gen.toNat), (8, t.toNat)])
    (body_of_drop h) (by simp [layout, byte]) (by simp; omega)
  exact ⟨level ▸ levelListed, gate ▸ gateListed, realm, floor, kind ▸ kindListed, gen, time⟩

theorem linkAt {a : Num16} {n : Num32} {e : UserEntry} (short : e.frame.payload.length ≤ 9000)
    (h : bs.drop i = (Carried.link a n e).jz ++ rest) : BodyAt bs i (.link a n e) := by
  have body := body_of_drop h
  rw [List.append_assoc] at body
  obtain ⟨anchor, number, -⟩ := fieldsAt_of_drop (fs := [(2, a.toNat), (4, n.toNat)]) body
    (by simp [layout, linkHeader]) (by simp; omega)
  have inner : bs.drop (i + 10) = bearerJz e.frame ++ rest := drop_past body (n := 6) rfl
  exact ⟨anchor, number, headerAt_jz (c := .bare e) (by simp only [jzLength]; omega) inner, bearerAt_of_drop short inner⟩

/-! ### RESPONSE and USAGE (R186, R187) -/

theorem responseAt {tag : Num16} {code : Byte} {status : Status} {rs : List Item} {cold : Bool}
    (h : bs.drop i = controlJz (.response tag code status rs cold) ++ rest) :
    BodyAt bs i (.control (.response tag code status rs cold)) := by
  obtain ⟨small, listed⟩ := status.code_listed
  have body := body_of_drop h
  rw [List.append_assoc] at body
  obtain ⟨tag, code, status, -⟩ := fieldsAt_of_drop (fs := [(2, tag.toNat), (1, code.toNat), (1, status.code)]) body
    (by simp [layout, byte, bytes_eq_byte]) (by simp; omega)
  have results : bs.drop (i + 8) = rs.flatMap itemBytes ++ rest := drop_past body (n := 4) rfl
  refine ⟨tag, code, status ▸ listed, ?_⟩
  rw [results, ← itemsBytes_length, List.take_left, funext itemBytes_eq]

theorem recordAt_of_drop {r : UrqRecord} (small : r.body.remainder < 256000000)
    (h : bs.drop i = recordBytes r ++ rest) : RecordAt bs i r := by
  obtain ⟨kindSmall, listed⟩ := r.body.kind.code_listed
  obtain ⟨kind, plan, zone, realm, period, number, ctx, incarnation, bearer, gen, start, stop, up, down, free, frames,
    charge, balance, remainder, -⟩ := fieldsAt_of_drop (fs := [(1, r.body.kind.code), (1, r.body.plan.val),
      (1, r.body.zoneIx.val), (1, r.body.realm.val), (4, r.body.period.toNat), (4, r.number.toNat), (2, r.body.ctx.val),
      (2, r.body.incarnation.toNat), (4, r.body.bearerId.toNat), (2, r.body.zoneGen.toNat), (8, r.body.start.toNat),
      (8, r.body.stop.toNat), (8, r.body.up.toNat), (8, r.body.down.toNat), (8, r.body.free.toNat),
      (8, r.body.frames.toNat), (8, r.body.charge.toNat), (8, (BitVec.ofInt 64 r.body.balanceAfter).toNat),
      (4, r.body.remainder)]) h (by simp [layout, recordBytes, byte, beInt64]) (by simp; omega)
  exact ⟨kind ▸ listed, plan, zone, realm, period, number, ctx, incarnation, bearer, gen, start, stop, up, down, free,
    frames, charge, balance, remainder⟩

/-- Record `j` stands 90 bytes after the one before it. -/
theorem drop_records {rs : List UrqRecord} {j : Nat} {r : UrqRecord} (at_ : rs[j]? = some r)
    (h : bs.drop i = rs.flatMap recordBytes ++ rest) : ∃ after, bs.drop (i + 90 * j) = recordBytes r ++ after := by
  induction rs generalizing i j with
  | nil => cases at_
  | cons x rs ih =>
    rw [List.flatMap_cons, List.append_assoc] at h
    cases j with
    | zero => cases at_; exact ⟨_, h⟩
    | succ j =>
      obtain ⟨after, there⟩ := ih at_ (drop_past h (recordBytes_length x))
      exact ⟨after, by rw [← there]; congr 1; omega⟩

theorem usageAt {rs : List UrqRecord} (few : rs.length ≤ 16) (small : ∀ r ∈ rs, r.body.remainder < 256000000)
    (h : bs.drop i = controlJz (.usage rs) ++ rest) : BodyAt bs i (.control (.usage rs)) := by
  have body := body_of_drop h
  rw [List.append_assoc] at body
  obtain ⟨count, -⟩ := fieldsAt_of_drop (fs := [(1, rs.length)]) body (by simp [layout, byte]) (by simp; omega)
  refine ⟨count, fun j r at_ => ?_⟩
  obtain ⟨after, there⟩ := drop_records at_ (drop_past body (n := 1) rfl)
  exact recordAt_of_drop (small r (List.mem_of_getElem? at_)) there

/-! ### Every kind that is sent, and its whole frame (R185) -/

theorem bodyAt_of_drop {c : Carried} (sendable : Sendable c) (h : bs.drop i = c.jz ++ rest) : BodyAt bs i c := by
  match c with
  | .bare e => exact bearerAt_of_drop sendable h
  | .link .. => exact linkAt sendable h
  | .control (.probe ..) => exact probeAt h
  | .control (.switchMarker ..) => exact switchMarkerAt h
  | .control (.endMarker ..) => exact endMarkerAt h
  | .control (.backhaulStatus ..) => exact backhaulStatusAt h
  | .control (.bearerNotice ..) => exact bearerNoticeAt h
  | .control (.response ..) => exact responseAt h
  | .control (.notice ..) => exact noticeBodyAt h
  | .control (.usage _) =>
    obtain ⟨-, few, small⟩ := sendable
    exact usageAt few small h

/-- No JZ frame that is sent is longer than a frame holds (R4, R186). -/
theorem jzLength_le {c : Carried} (sendable : Sendable c) : jzLength c ≤ 9202 := by
  match c with
  | .bare _ | .link .. => simp only [Sendable] at sendable; simp only [jzLength]; omega
  | .control (.response ..) => exact sendable
  | .control (.usage rs) =>
    obtain ⟨-, few, -⟩ := sendable
    simp only [jzLength]; omega
  | .control (.probe ..) | .control (.switchMarker ..) | .control (.endMarker ..) | .control (.backhaulStatus ..)
  | .control (.bearerNotice ..) | .control (.notice ..) => simp only [jzLength]; decide

/-- A frame sent is its Ethernet header, its JZ frame, and zero bytes up to 60 (R185). -/
theorem Wire.bytes_eq (w : Wire) : w.bytes = ethernetHeader w.dst w.src w.frameType
    ++ (w.carried.jz ++ List.replicate (60 - (14 + jzLength w.carried)) 0) := by
  have len : (ethernetHeader w.dst w.src w.frameType ++ w.carried.jz).length = 14 + jzLength w.carried := by
    rw [List.length_append, w.carried.jz_length]; simp [ethernetHeader]
  rw [← List.append_assoc, ← len]; rfl

theorem Wire.bytes_drop (w : Wire) :
    w.bytes.drop 14 = w.carried.jz ++ List.replicate (60 - (14 + jzLength w.carried)) 0 := by
  rw [w.bytes_eq]; exact List.drop_left' (by simp [ethernetHeader])

theorem framed_bytes (w : Wire) (sendable : Sendable w.carried) : Framed w w.bytes := by
  have most := jzLength_le sendable
  have whole : w.bytes.drop 0 = _ := w.bytes_eq
  obtain ⟨dst, src, type, -⟩ := fieldsAt_of_drop (fs := [(6, w.dst.toNat), (6, w.src.toNat), (2, w.frameType.toNat)])
    whole (by simp [layout, ethernetHeader]) (by simp; omega)
  refine ⟨dst, src, type, headerAt_jz (by omega) w.bytes_drop, ?_, fun b pad => ?_⟩
  · rw [w.bytes_eq, List.length_append, List.length_append, w.carried.jz_length]
    simp [ethernetHeader]; omega
  · rw [drop_past w.bytes_drop w.carried.jz_length] at pad
    exact List.eq_of_mem_replicate pad

end

/-- Settles O11: what arrives is read back (`intake_bearer` and its like), and what is sent has its fields where they
were laid (`framed_bytes`, `bodyAt_of_drop`). -/
theorem frameBytesAreReadBack : Obligations.FrameBytesAreReadBack :=
  ⟨fun _ _ _ _ => ⟨fun _ wf => intake_bearer wf, fun _ _ _ wf => intake_link wf, fun _ _ _ _ => intake_echo,
      fun _ => intake_radioStatus, fun _ _ _ _ short => intake_request short⟩,
    fun w sendable => ⟨framed_bytes w sendable, bodyAt_of_drop sendable w.bytes_drop⟩⟩

end Sys2Proof.Machine
end

section
/-! The command at the front of the queue of waiting commands (log entry 1). -/

namespace Sys2Proof.Machine

@[simp] theorem State.withPending_withPending (s : State) (is js : List Instr) :
    (s.withPending is).withPending js = s.withPending js := rfl

/-- With a command waiting, a step is that command, on the state that no longer holds it. -/
theorem step_of_pending {s : State} {i : Instr} {rest : List Instr} (waiting : s.pending = i :: rest) :
    step s = exec i (s.withPending rest) := by
  simp only [step, waiting]

/-- Settles O1: the queue is the one given, and it is written over once the command is taken. -/
theorem stepTakesFrontCommand : Obligations.StepTakesFrontCommand := fun s i rest => by
  rw [step_of_pending (s.withPending_pending (i :: rest)), State.withPending_withPending]

end Sys2Proof.Machine
end
